-- ==== Sys2Proof/Word.lean ====
section
/-! DEFINITION. The words and the index types of the Renzia 2810: what the manual adds, shifts or
stores as bits is a bit vector, what it numbers is a `Fin`, what it counts is a `Nat`. -/

namespace Sys2Proof

/-- One byte of frame memory, of a frame or of a key. -/
abbrev Byte := BitVec 8
/-- A two-byte field: an epoch, a wire id (R2, R7). -/
abbrev Half := BitVec 16
/-- A four-byte field: corrected seconds, an activation time (R104, R135). -/
abbrev Long := BitVec 32
/-- A sequence number, a retained counter or a raw tick stamp: 48 bits (R5, R124, R134). -/
abbrev Seq := BitVec 48

/-- A link slot, 0 to 7 (R17). -/
abbrev LinkSlot := Fin 8
/-- A KEK slot of the retained store, 0 to 3 (R124). -/
abbrev KekIndex := Fin 4
/-- A slot of the key table, 0 to 23 (R104). -/
abbrev KeyIndex := Fin 24
/-- A record of the ring table, 0 to 15 (R29). -/
abbrev RingIndex := Fin 16
/-- An entry of the command ring, 0 to 31 (R175). -/
abbrev EntryIndex := Fin 32

end Sys2Proof
end

