-- ==== Sys2Proof/Syntax.lean ====
section
/-! DEFINITION. The commands: one constructor per row of spec/opcode_table.json, in the table's order.
The table gives no row bits or fields; the operands are those that the row's rule gives the step. -/

namespace Sys2Proof

/-- The blocks that post reports (R167). Postings of one block keep their order; postings of
different blocks reach the report unit in either order. -/
inductive ReportSource where
  | linkUnit | steering | keyUnit | healthMonitor | timeBase | retainedStore
  deriving DecidableEq, Repr

/-- A step of the part. -/
inductive Instr where
  /-- POWER_ON: main power comes up with these ANCHOR straps (R54, R126). -/
  | powerOn (straps : Byte)
  /-- WARM_RESET: RESET is asserted with these ANCHOR straps (R54). -/
  | warmReset (straps : Byte)
  /-- RESET_RELEASE (R54). -/
  | resetRelease
  /-- RETAIN_FALL (R125). -/
  | retainFall
  /-- RETAIN_RISE (R125). -/
  | retainRise
  /-- PORT_P_READ: a read of `beats` beats from `start` is presented on port P (R40, R44). -/
  | portPRead (start : Long) (beats : Nat)
  /-- PORT_P_WRITE: a write on port P, the bytes of its beats in ascending address order, `none` where
  the byte enable is clear (R40, R44). -/
  | portPWrite (start : Long) (bytes : List (Option Byte))
  /-- PORT_L_READ (R40, R43). -/
  | portLRead (start : Long) (beats : Nat)
  /-- PORT_L_WRITE (R40, R43). -/
  | portLWrite (start : Long) (bytes : List (Option Byte))
  /-- PORT_M_GRANT (R46). -/
  | portMGrant
  /-- INTERNAL_WRITE_LANDED (R48). -/
  | internalWriteLanded
  /-- INTERNAL_READ_DATA (R48). -/
  | internalReadData
  /-- COMMAND_POSTING (R177). -/
  | commandPosting
  /-- COMMAND_FETCH (R178). -/
  | commandFetch
  /-- NOP (R182). -/
  | nop
  /-- CONFIG_LINK (R19), argument bytes of 12.4. -/
  | configLink (link : Byte) (wireId maxPayload : Half) (keepalive : Byte) (grace : Half)
      (binding : Byte) (mask : List Byte)
  /-- SET_GUARD (R20). -/
  | setGuard (link direction : Byte) (base size : Long)
  /-- SET_RING (R21). -/
  | setRing (link direction : Byte) (base : Long) (slots : Half)
  /-- CLEAR_RING (R22). -/
  | clearRing (link direction : Byte)
  /-- OPEN_LINK (R23). -/
  | openLink (link : Byte)
  /-- CLOSE_LINK (R24). -/
  | closeLink (link : Byte)
  /-- QUERY_LINK (R27). -/
  | queryLink (link : Byte)
  /-- SET_PHANTOM (R52). -/
  | setPhantom (present : Byte) (base : Long)
  /-- RESET_FILTER (R100). -/
  | resetFilter (link : Byte)
  /-- RETIRE_KEY (R122): state 0 PENDING, 1 CURRENT, 2 DRAINING. -/
  | retireKey (link keyState : Byte)
  /-- LOAD_KEK_PART_1 (R131): LOAD_KEK with any part byte but 2; part bytes other than 1 are refused
  here (log 11). -/
  | loadKekPart1 (part slot : Byte) (half : List Byte) (counter : Seq)
  /-- LOAD_KEK_PART_2 (R132): LOAD_KEK with part byte 2. -/
  | loadKekPart2 (slot : Byte) (half : List Byte) (counter : Seq)
  /-- ERASE_KEK (R133). -/
  | eraseKek (slot : Byte)
  /-- SET_TIME (R147). -/
  | setTime (seconds : Long) (fraction : Half)
  /-- SET_DRIFT (R148), a signed 16-bit value. -/
  | setDrift (value : Half)
  /-- CONFIG_CLOCK (R149). -/
  | configClock (fRef : Long) (k autoPeriod : Byte)
  /-- MEASURE_CLOCK (R139). -/
  | measureClock
  /-- CONFIG_MONITOR (R165). -/
  | configMonitor (link : Byte) (t d u : Half) (i m r options : Byte)
  /-- RELEASE_LINK (R160). -/
  | releaseLink (link : Byte)
  /-- SET_REPORT_RING (R169). -/
  | setReportRing (base : Long) (entries : Half)
  /-- CIPHER_TAKE (R15, R16). -/
  | cipherTake
  /-- CIPHER_RESULT (R16). -/
  | cipherResult
  /-- KEY_FETCH (R128). -/
  | keyFetch
  /-- SEQUENCE_REQUEST of the link's outbound engine (R58). -/
  | sequenceRequest (link : LinkSlot)
  /-- TRANSMIT_COMMIT (R129). -/
  | transmitCommit
  /-- STATE_SUMMARY_REQUEST (R128). -/
  | stateSummaryRequest
  /-- KEY_SELECTION for the link's inbound header (R85). -/
  | keySelection (link : LinkSlot)
  /-- KEK_SELECTION (R86). -/
  | kekSelection
  /-- SETTLE_REQUEST of the link's inbound engine (R95). -/
  | settleRequest (link : LinkSlot)
  /-- RECEIVE_COMMIT (R96). -/
  | receiveCommit
  /-- KEK_CHECK (R128). -/
  | kekCheck
  /-- QUARANTINE_REQUEST (R158). -/
  | quarantineRequest (link : LinkSlot)
  /-- CORRECTED_SECOND_BOUNDARY (R136, R137). -/
  | correctedSecondBoundary
  /-- DRAIN_END (R119). -/
  | drainEnd (link : LinkSlot)
  /-- KEY_OVERDUE (R118). -/
  | keyOverdue (link : LinkSlot)
  /-- KEY_EXPIRY (R118). -/
  | keyExpiry (link : LinkSlot)
  /-- SILENCE_TIMEOUT (R162). -/
  | silenceTimeout (link : LinkSlot)
  /-- AUTO_MEASUREMENT_START (R143). -/
  | autoMeasurementStart
  /-- MEASUREMENT_WINDOW_CLOSE (R141, R142). -/
  | measurementWindowClose
  /-- BEACON_ABSORB of a beacon of the link (R144). -/
  | beaconAbsorb (link : LinkSlot)
  /-- DRAIN_LIMIT_EXPIRY (R26). -/
  | drainLimitExpiry (link : LinkSlot)
  /-- INTERVAL_END (R156). -/
  | intervalEnd (link : LinkSlot)
  /-- FINAL_STATUS (R153). -/
  | finalStatus (link : LinkSlot)
  /-- NO_BUFFER_EVENT (R154). -/
  | noBufferEvent (link : LinkSlot)
  /-- VERIFIED_ARRIVAL (R164). -/
  | verifiedArrival (link : LinkSlot)
  /-- REPORT_POSTING of the block's oldest posting (R168). -/
  | reportPosting (source : ReportSource)
  /-- REPORT_WRITER_TAKE (R170). -/
  | reportWriterTake
  /-- REPORT_CLEAR_OBSERVED (R172). -/
  | reportClearObserved
  /-- RAW_TICK (R134). -/
  | rawTick
  /-- REFCLK_RISING_EDGE (R140). -/
  | refclkRisingEdge
  /-- MAIN_POWER_LOSS (R130). -/
  | mainPowerLoss
  /-- VSTBY_LOSS (R126). -/
  | vstbyLoss
  deriving DecidableEq, Repr

end Sys2Proof
end

