-- ==== Sys2Proof/WellFormed.lean ====
section
/-! DEFINITION. Which commands are well formed: a bus transaction has 1 to 8 beats that lie in the
32-bit space (R40), a LOAD_KEK half has 16 bytes and a filter mask 8 (R17, R131). Every other operand
takes every value of its type. -/

namespace Sys2Proof

/-- The 8-aligned address a transaction starts at: the low three bits are ignored (R40). -/
def firstBeat (start : Long) : Nat := start.toNat / 8 * 8

/-- The beats from `start` lie inside the 32-bit address space (R40). -/
def beatsInSpace (start : Long) (beats : Nat) : Bool := firstBeat start + 8 * beats ≤ 2 ^ 32

/-- A transaction carries 1 to 8 beats (R40). -/
def beatCountLegal (beats : Nat) : Bool := 1 ≤ beats && beats ≤ 8

/-- A write carries whole beats, one entry per byte (R40). -/
def writeLegal (bytes : List (Option Byte)) : Bool :=
  bytes.length % 8 == 0 && beatCountLegal (bytes.length / 8)

/-- The check made on a command before it means anything. -/
def Instr.wellFormed : Instr → Bool
  | .portPRead start beats => beatCountLegal beats && beatsInSpace start beats
  | .portLRead start beats => beatCountLegal beats && beatsInSpace start beats
  | .portPWrite start bytes => writeLegal bytes && beatsInSpace start (bytes.length / 8)
  | .portLWrite start bytes => writeLegal bytes && beatsInSpace start (bytes.length / 8)
  | .configLink _ _ _ _ _ _ mask => mask.length == 8
  | .loadKekPart1 part _ half _ => part != 2#8 && half.length == 16
  | .loadKekPart2 _ half _ => half.length == 16
  | .powerOn _ | .warmReset _ | .resetRelease | .retainFall | .retainRise | .portMGrant
  | .internalWriteLanded | .internalReadData | .commandPosting | .commandFetch | .nop
  | .setGuard _ _ _ _ | .setRing _ _ _ _ | .clearRing _ _ | .openLink _ | .closeLink _
  | .queryLink _ | .setPhantom _ _ | .resetFilter _ | .retireKey _ _ | .eraseKek _
  | .setTime _ _ | .setDrift _ | .configClock _ _ _ | .measureClock
  | .configMonitor _ _ _ _ _ _ _ _ | .releaseLink _ | .setReportRing _ _ | .cipherTake
  | .cipherResult | .keyFetch | .sequenceRequest _ | .transmitCommit | .stateSummaryRequest
  | .keySelection _ | .kekSelection | .settleRequest _ | .receiveCommit | .kekCheck
  | .quarantineRequest _ | .correctedSecondBoundary | .drainEnd _ | .keyOverdue _ | .keyExpiry _
  | .silenceTimeout _ | .autoMeasurementStart | .measurementWindowClose | .beaconAbsorb _
  | .drainLimitExpiry _ | .intervalEnd _ | .finalStatus _ | .noBufferEvent _
  | .verifiedArrival _ | .reportPosting _ | .reportWriterTake | .reportClearObserved | .rawTick
  | .refclkRisingEdge | .mainPowerLoss | .vstbyLoss => true

end Sys2Proof
end

