-- ==== Sys2Proof/Decode.lean ====
section
/-! DEFINITION. The opcode table's rows give no bits ("fields": [] in every row, and no fixed bits), so
no word spells a command. What IS decoded on this hardware, a command record of the command ring
(12.4), is decoded in Machine/CommandRecord.lean. -/

namespace Sys2Proof

/-- The command that a word spells by the table's bits: no row gives any. -/
def decodeTableWord (_nbits _w : Nat) : Option Instr := none

end Sys2Proof
end

