-- ==== Sys2Proof/Config.lean ====
section
/-! DEFINITION. What the manual leaves open. Each constant here has no body: nothing can be proved of
its value, so a claim is true whatever it is. Each is applied to State's free value counter, which
the step that uses one advances. -/

namespace Sys2Proof

/-- The counter a retained cell holds when main power falls during its commit write: "the old value,
the new value or neither" (R126, R130; log 13). -/
opaque Config.tornCounter : Nat → Seq

/-- The state code a KEK slot's cells hold when main power falls while a LOAD_KEK part 2 or an
ERASE_KEK writes them (R126; log 13): 0 EMPTY, 1 LOADED, otherwise INVALID. -/
opaque Config.tornStateCode : Nat → BitVec 2

/-- The key bytes such a slot holds, by free value and position (R126; log 13). -/
opaque Config.tornKeyByte : Nat → Nat → Byte

/-- The receive high-water such a slot holds (R126; log 13). -/
opaque Config.tornHighWater : Nat → Seq

/-- The raw tick counter after the tick that finds it at 2^48 − 1: "the part does not handle a wrap"
(R134; log 14). -/
opaque Config.rawTickAfterWrap : Nat → Seq

/-- The installation counter after the installation that finds it at 2^64 − 1: "the part does not
handle a wrap" (R104; log 14). -/
opaque Config.installationAfterWrap : Nat → BitVec 64

/-- Whether RENEWAL_DUE names the sequence cause when both causes hold at one boundary, which R117
does not say (log 15). -/
opaque Config.dueNamesSequence : Nat → Bool

end Sys2Proof
end

