-- ==== Sys2Proof/Machine/Bytes.lean ====
section
/-! DEFINITION. Byte strings: the little-endian and big-endian readings of a field (00_scope, "Byte
order"), slices and bytewise exclusive-or. -/

namespace Sys2Proof.Machine

/-- The little-endian value of a byte string. -/
def leNat : List Byte → Nat
  | [] => 0
  | b :: bs => b.toNat + 256 * leNat bs

/-- The `n` low bytes of `v`, little-endian. -/
def leBytes : Nat → Nat → List Byte
  | 0, _ => []
  | n + 1, v => BitVec.ofNat 8 v :: leBytes n (v / 256)

/-- The `n` low bytes of `v`, big-endian (the counter block, R7). -/
def beBytes (n v : Nat) : List Byte := (leBytes n v).reverse

/-- A signed value as `n` bytes in two's complement, little-endian (12). -/
def signedBytes (n : Nat) (v : Int) : List Byte := leBytes n (v % (2 ^ (8 * n) : Int)).toNat

/-- Byte `i`, zero past the end. -/
def byteAt (bs : List Byte) (i : Nat) : Byte := bs.getD i 0

/-- The `len` bytes from `at_`. -/
def slice (bs : List Byte) (at_ len : Nat) : List Byte := (bs.drop at_).take len

/-- The little-endian field of `len` bytes at `at_`. -/
def fieldAt (bs : List Byte) (at_ len : Nat) : Nat := leNat (slice bs at_ len)

/-- `bs` with the bytes from `at_` replaced by `new`. -/
def patch (bs : List Byte) (at_ : Nat) (new : List Byte) : List Byte :=
  bs.take at_ ++ new ++ bs.drop (at_ + new.length)

/-- Bytewise exclusive-or. -/
def xorBytes (a b : List Byte) : List Byte := List.zipWith (· ^^^ ·) a b

/-- `n` zero bytes. -/
def zeroes (n : Nat) : List Byte := List.replicate n 0

/-- A 16-bit value read as signed, two's complement (12.4, SET_DRIFT). -/
def signed16 (v : Half) : Int := v.toInt

/-- `v` held within the signed 32-bit range (R146, R147). -/
def saturate32 (v : Int) : Int := max (-(2 ^ 31)) (min (2 ^ 31 - 1) v)

/-- A flag as a byte. -/
def flagByte (b : Bool) : Byte := if b then 1 else 0

end Sys2Proof.Machine
end

