-- ==== Sys2Proof/Machine/Aes.lean ====
section
/-! DEFINITION. The block transform: AES with a 256-bit key, encryption direction (R6). The manual
names the standard and does not restate it; its tables and steps are PRESUMED from FIPS 197
(log 12). -/

namespace Sys2Proof.Machine

/-- The substitution table of AES as one number: entry `i` is byte `i` from the least significant. -/
def aesSbox : Nat :=
  0x16bb54b00f2d99416842e6bf0d89a18cdf2855cee9871e9b948ed9691198f8e1 <<< 1792 |||
  0x9e1dc186b95735610ef6034866b53e708a8bbd4b1f74dde8c6b4a61c2e2578ba <<< 1536 |||
  0x08ae7a65eaf4566ca94ed58d6d37c8e779e4959162acd3c25c2406490a3a32e0 <<< 1280 |||
  0xdb0b5ede14b8ee4688902a22dc4f816073195d643d7ea7c41744975fec130ccd <<< 1024 |||
  0xd2f3ff1021dab6bcf5389d928f40a351a89f3c507f02f94585334d43fbaaefd0 <<< 768 |||
  0xcf584c4a39becb6a5bb1fc20ed00d153842fe329b3d63b52a05a6e1b1a2c8309 <<< 512 |||
  0x75b227ebe28012079a059618c323c7041531d871f1e5a534ccf73f362693fdb7 <<< 256 |||
  0xc072a49cafa2d4adf04759fa7dc982ca76abd7fe2b670130c56f6bf27b777c63

/-- One byte through the substitution table. -/
def subByte (b : Byte) : Byte := BitVec.ofNat 8 (aesSbox >>> (8 * b.toNat))

/-- Multiplication by x in the field of AES. -/
def xtime (b : Byte) : Byte := if b.msb then (b <<< 1) ^^^ 0x1B#8 else b <<< 1

/-- ShiftRows: where byte `i` of the state comes from, columns first. -/
def shiftRowsFrom : List Nat := [0, 5, 10, 15, 4, 9, 14, 3, 8, 13, 2, 7, 12, 1, 6, 11]

/-- SubBytes and ShiftRows. -/
def subShift (st : List Byte) : List Byte := shiftRowsFrom.map (fun i => subByte (byteAt st i))

/-- MixColumns over the columns of four bytes. -/
def mixColumns : List Byte → List Byte
  | a :: b :: c :: d :: rest =>
    let t := a ^^^ b ^^^ c ^^^ d
    (a ^^^ t ^^^ xtime (a ^^^ b)) :: (b ^^^ t ^^^ xtime (b ^^^ c)) ::
      (c ^^^ t ^^^ xtime (c ^^^ d)) :: (d ^^^ t ^^^ xtime (d ^^^ a)) :: mixColumns rest
  | rest => rest

/-- The next eight words of the key schedule from the last eight, with round constant `rcon`. -/
def expandStep (k : List Byte) (rcon : Byte) : List Byte :=
  let word (i : Nat) := slice k (4 * i) 4
  let last := word 7
  let rotated := [subByte (byteAt last 1) ^^^ rcon, subByte (byteAt last 2),
    subByte (byteAt last 3), subByte (byteAt last 0)]
  let w0 := xorBytes (word 0) rotated
  let w1 := xorBytes (word 1) w0
  let w2 := xorBytes (word 2) w1
  let w3 := xorBytes (word 3) w2
  let w4 := xorBytes (word 4) (w3.map subByte)
  let w5 := xorBytes (word 5) w4
  let w6 := xorBytes (word 6) w5
  let w7 := xorBytes (word 7) w6
  w0 ++ w1 ++ w2 ++ w3 ++ w4 ++ w5 ++ w6 ++ w7

/-- The key schedule from the given round constants. -/
def expandKey (k : List Byte) : List Byte → List Byte
  | [] => k
  | rcon :: rest => k ++ expandKey (expandStep k rcon) rest

/-- Rounds 1 to 14 over the remaining key schedule: MixColumns in all but the last. -/
def aesRounds : Nat → List Byte → List Byte → List Byte
  | 0, st, _ => st
  | n + 1, st, schedule =>
    let shifted := subShift st
    let mixed := if n = 0 then shifted else mixColumns shifted
    aesRounds n (xorBytes mixed (schedule.take 16)) (schedule.drop 16)

/-- The block transform of R6: a 32-byte key and a 16-byte input give a 16-byte output. -/
def blockTransform (key input : List Byte) : List Byte :=
  let schedule := expandKey key [0x01, 0x02, 0x04, 0x08, 0x10, 0x20, 0x40]
  aesRounds 14 (xorBytes input (schedule.take 16)) (schedule.drop 16)

end Sys2Proof.Machine
end

