-- ==== Sys2Proof/Machine/State.lean ====
section
/-! DEFINITION. The state of the Renzia 2810 as plain data: every record, queue, counter and line the
manual gives the part, the frame memory behind port M, and the queue of waiting commands. Each
structure names the rule that gives its fields; INVENTORY.md lists them all with widths and reset
values. -/

namespace Sys2Proof.Machine

/-! ### Names the manual fixes -/

/-- The states of a link (R17, R18). -/
inductive LinkState where
  | closed | awaitKey | keyed | quarantined | closing
  deriving DecidableEq, Repr

/-- The frame classes (R3). -/
inductive FrameClass where
  | data | keepalive | renewal | beacon | report
  deriving DecidableEq, Repr

/-- The part's own status codes (R39). `ok` is the code 0 that the part gives. -/
inductive PartCode where
  | ok | badDescriptor | tooLong | badClass | linkClosed | noKey | keyLost | kekAbsent | misdirected
  | earlyEpoch | replay | quarantined | tagMismatch | streamFault | tooShort | filtered
  | absorbedTime | absorbedRenewal | renewalRepeat | staleEpoch | checkMismatch | badRenewal
  deriving DecidableEq, Repr

/-- The states of a key slot (R104). -/
inductive KeyState where
  | empty | pending | active | overdue | draining
  deriving DecidableEq, Repr

/-- The states of a KEK slot (R124). -/
inductive KekState where
  | empty | loaded | invalid
  deriving DecidableEq, Repr

/-- The store marker (R124). -/
inductive Marker where
  | live | parked
  deriving DecidableEq, Repr

/-- The result codes of a command (R179). -/
inductive ResultCode where
  | ok | unknownCommand | badArgument | wrongState | storeParked | busy | overlap
  deriving DecidableEq, Repr

/-! ### Reports (R167) -/

/-- Why a key activated (R113). -/
inductive ActivationCause where
  | time | immediate | receive | expiry
  deriving DecidableEq, Repr

/-- Why a key retired (R106). -/
inductive RetireCause where
  | expiry | drainEnd | superseded | sequenceLimit | command
  deriving DecidableEq, Repr

/-- Why a link left quarantine (R160, R161). -/
inductive ReleaseCause where
  | command | activation | keyLoss
  deriving DecidableEq, Repr

/-- Why a link fell silent (R162, R163). -/
inductive SilenceCause where
  | timeout | inboundAbort | outboundAbort
  deriving DecidableEq, Repr

/-- The 21 kinds of report with their details (R167). -/
inductive ReportDetail where
  | frameDone (inbound : Bool) (slot : Nat) (status : Byte)
  | keyInstalled (epoch : Half) (check : List Byte) (activation : Option Long)
  | keyReplaced (epoch : Half) (check : List Byte)
  | keyActivated (epoch : Half) (cause : ActivationCause) (superseded : Half)
  | keyOverdue (epoch : Half) (age : Nat)
  | keyRetired (epoch : Half) (held : KeyState) (cause : RetireCause)
  | renewalDue (epoch : Half) (bySequence : Bool) (age : Nat)
  | drainCut (epoch : Half) (remaining : Nat)
  | renewalRefused (epoch : Half) (status : PartCode)
  | healthAlarm (e a : Nat)
  | linkQuarantined (a : Nat)
  | linkReleased (cause : ReleaseCause) (e a : Nat)
  | linkSilent (cause : SilenceCause) (arrival : Option Long)
  | linkHeard (quiet : Nat)
  | linkClosed
  | ringFault (address : Nat)
  | clockMeasured (n : Nat) (applied : Int) (automatic : Bool)
  | oscTolerance (formed applied : Int)
  | refOutOfRange (n fRef k : Nat)
  | timeStepped (delta : Int) (seconds : Long) (byCommand validBefore : Bool)
  | storeInvalid (lost : Bool) (flags : List Bool)
  deriving DecidableEq, Repr

/-- A report: its detail (which fixes its kind), its link or the no-link mark, its repeat count. -/
structure Report where
  detail : ReportDetail
  link : Option LinkSlot
  repeats : Nat := 0
  deriving DecidableEq, Repr

/-! ### Regions and the bus (R40 to R48) -/

/-- A guard region: base and size (R20). -/
structure Region where
  base : Nat
  size : Nat
  deriving DecidableEq, Repr

/-- A descriptor area as the region map holds it (R42). -/
structure Area where
  link : LinkSlot
  outbound : Bool
  base : Nat
  count : Nat
  deriving DecidableEq, Repr

/-- The report ring (R169), with the model's own number that tells one ring from its replacement
(R172; log 33). -/
structure ReportRing where
  base : Nat
  entries : Nat
  number : Nat
  deriving DecidableEq, Repr

/-- The region map of the steering unit (R42). -/
structure RegionMap where
  anchor : Nat
  report : Option ReportRing
  areas : Vector (Option Area) 16
  transmit : Vector (Option Region) 8
  receive : Vector (Option Region) 8
  phantom : Option Nat
  deriving DecidableEq, Repr

/-- The classification of a beat (R42, R43). A phantom sub-window is a place of its own, because R53
answers it by its link. -/
inductive Place where
  | unwatched
  | commandRing
  | reportRing (number base : Nat)
  | descriptors (ring : RingIndex) (area : Area)
  | transmitGuard (link : LinkSlot)
  | receiveGuard (link : LinkSlot)
  | phantom (link : LinkSlot) (base : Nat)
  deriving DecidableEq, Repr

/-- A portion of an accepted transaction and how far its handling has come (R43, R44). -/
structure Portion where
  place : Place
  start : Nat
  beats : Nat
  /-- The bytes of a write with their enables; empty for a read. -/
  bytes : List (Option Byte)
  /-- Its owner has begun with it. -/
  started : Bool := false
  /-- Every memory access of the portion has been issued (R43). -/
  issued : Bool := false
  /-- A read: the bytes ready so far, whole beats in ascending order. -/
  answer : List Byte := []
  /-- Payload beats of an outbound portion read from memory: address and bytes (R63). -/
  fetched : Option (Nat × List Byte) := none
  /-- An inbound portion: the bytes taken so far as they are to be stored (R83, R89). -/
  stored : List (Option Byte) := []
  /-- An inbound portion: beats handed to port M, and beats performed there. -/
  beatsIssued : Nat := 0
  /-- An inbound portion: its RING_FAULT has been posted (R50). -/
  faulted : Bool := false
  beatsPerformed : Nat := 0
  done : Bool := false
  deriving DecidableEq, Repr

/-- A transaction as a master presents it (R40). -/
structure BusRequest where
  isRead : Bool
  start : Nat
  beats : Nat
  bytes : List (Option Byte)
  deriving DecidableEq, Repr

/-- A transaction inside the part (R41). -/
structure Transaction where
  request : BusRequest
  portions : List Portion
  /-- Read beats already returned to the master (R40). -/
  returned : List Byte
  deriving DecidableEq, Repr

/-- What a memory access of port P or L is for. -/
inductive AccessUse where
  | plain        -- the whole portion, to memory unchanged (R44)
  | descriptor (closing : Bool)   -- the link unit's read of the slots (R30, R33, R34), and whether their link was
                 -- CLOSING when the read was made (R24; log 47)
  | payload      -- the outbound engine's read of payload beats (R63)
  | store        -- one beat of an inbound portion (R50)
  deriving DecidableEq, Repr

/-- A memory transaction issued under the requester of a port (R44, R46). -/
structure Access where
  portion : Nat
  use : AccessUse
  address : Nat
  beats : Nat
  /-- The bytes to write, or none for a read. -/
  write : Option (List (Option Byte))
  deriving DecidableEq, Repr

/-- The answer a master received last (R40): a read's bytes, or an acknowledgement. -/
inductive BusAnswer where
  | data (bytes : List Byte)
  | acknowledged
  deriving DecidableEq, Repr

/-- One of ports P and L (R41). -/
structure Port where
  current : Option Transaction
  presented : List BusRequest
  accesses : List Access
  answered : Option BusAnswer
  deriving DecidableEq, Repr

/-- The steering unit: its region map and the two ports. -/
structure Steering where
  map : RegionMap
  p : Port
  l : Port
  deriving DecidableEq, Repr

/-- The requesters of port M, in their cyclic order (R46). -/
inductive MemoryRequester where
  | p | l | internal
  deriving DecidableEq, Repr

/-- Whom an internal write serves (R47). -/
inductive WriteUse where
  | replacement (ring : RingIndex) (slot : Nat)
  | result (entry : EntryIndex)
  | record (entry : Nat)
  deriving DecidableEq, Repr

/-- Whom an internal read serves (R47): a command fetch, or a gap fill of a context. -/
inductive ReadUse where
  | fetch (entry : EntryIndex)
  | fill (link : LinkSlot) (ident : Nat)
  deriving DecidableEq, Repr

/-- An internal write; `announce` is the FRAME_DONE posted when it is queued (R37; log 40). -/
structure InternalWrite where
  address : Nat
  bytes : List Byte
  use : WriteUse
  announce : Option Report
  deriving DecidableEq, Repr

/-- An internal read of 1 to 8 beats. -/
structure InternalRead where
  address : Nat
  beats : Nat
  use : ReadUse
  deriving DecidableEq, Repr

/-- The queue whose head request the internal master presents at the arbiter (R47). -/
inductive QueueSide where
  | reads | writes
  deriving DecidableEq, Repr

/-- The internal master (R47). -/
structure InternalMaster where
  writes : List InternalWrite
  reads : List InternalRead
  waitingWrites : List InternalWrite
  waitingReads : List InternalRead
  presenting : Option QueueSide
  deriving DecidableEq, Repr

/-- What port M has performed and the owner has not yet taken, oldest first (R45, R48; log 4). -/
inductive Completion where
  | landed (use : WriteUse)
  | data (use : ReadUse) (bytes : List Byte)
  | commandWrite (entry : EntryIndex) (value : Byte)
  | reportWrite (number entry : Nat) (value : Byte)
  deriving DecidableEq, Repr

/-! ### Keys, tags and contexts -/

/-- A reference to a key (R56, R81): it names the slot, the link, the epoch and the installation, or a
KEK slot, with how often the slot had been erased when the reference was formed, so that a KEK loaded after
an erase is no key of an older reference (R69, R133). -/
inductive KeyRef where
  | session (slot : KeyIndex) (link : LinkSlot) (epoch : Half) (installation : BitVec 64)
  | kek (slot : KekIndex) (erasures : Nat)
  deriving DecidableEq, Repr

/-- The tag in the making (R9 to R11). -/
structure Tag where
  keys : Option (Nat × Nat)
  accumulator : Nat
  group : List Byte
  value : Option Nat
  deriving DecidableEq, Repr

/-- The keystream window (R61, R90): its start, the blocks held, and the blocks still to be requested
from the cipher unit, in order. -/
structure Keystream where
  start : Nat
  held : List (Nat × List Byte)
  wanted : List Nat
  deriving DecidableEq, Repr

/-- A gap fill in progress (R65): the next offset, the end, and the data at hand (address, bytes). -/
structure Fill where
  next : Nat
  last : Nat
  outstanding : Bool
  data : Option (Nat × List Byte)
  deriving DecidableEq, Repr

/-- How far header release has come (R57 to R59). -/
inductive Binding where
  | unbound | sequenceAsked | commitAsked | bound
  deriving DecidableEq, Repr

/-- The outbound context (R56). -/
structure OutContext where
  ident : Nat
  slot : Nat
  pointer : Nat
  len : Nat
  cls : FrameClass
  rpt : Bool
  substituted : Bool
  /-- The status contents of a substitution, and whether the store's summary completed them (R76). -/
  contents : List Byte
  contentsComplete : Bool
  /-- The descriptor as presented (R30 case 3). -/
  presented : List Byte
  binding : Binding
  keyRef : Option KeyRef
  epoch : Option Half
  sequence : Option Seq
  header : Option (List Byte)
  tag : Tag
  coverage : Nat
  keystream : Keystream
  fill : Option Fill
  /-- Present when the context is key-lost (R68). -/
  lost : Option PartCode
  deriving DecidableEq, Repr

/-- A parsed header (R2, R84). -/
structure Header where
  format : Byte
  cls : Byte
  wireId : Half
  len : Nat
  epoch : Half
  sequence : Seq
  deriving DecidableEq, Repr

/-- Where an inbound context stands: taking bytes, confirming (R94 to R96), or verified and waiting to
hand a renewal over (R101). -/
inductive InPhase where
  | receiving | confirming | awaitingHandoff
  deriving DecidableEq, Repr

/-- The inbound context (R81). -/
structure InContext where
  ident : Nat
  slot : Nat
  pointer : Nat
  capacity : Nat
  /-- The next expected offset n (R83). -/
  next : Nat
  headerBytes : List Byte
  header : Option Header
  early : Option PartCode
  /-- The exchange of checks 6 and 7 is outstanding (R84). -/
  asking : Bool
  keyRef : Option KeyRef
  tag : Tag
  trailer : List Byte
  verdict : Option Bool
  keystream : Keystream
  streamFault : Bool
  lost : Option PartCode
  renewal : Option (List Byte)
  beacon : Option (List Byte)
  /-- The plaintext of a KEEPALIVE's payload, which the filter compares (R99). -/
  keepalive : Option (List Byte)
  phase : InPhase
  /-- The code already fixed before confirmation: QUARANTINED (R94). -/
  outcome : Option PartCode
  deriving DecidableEq, Repr

/-! ### Links and rings (R17, R29, R151) -/

/-- The health record (R151). -/
structure Health where
  t : Nat
  d : Nat
  u : Nat
  i : Nat
  m : Nat
  r : Nat
  noBuffer : Bool
  e : Nat
  a : Nat
  cleanRun : Nat
  errored : Bool
  silent : Bool
  timer : Nat
  quiet : Nat
  /-- The tick that reached the interval's end has passed and its evaluation is not yet taken
  (R155; log 6). -/
  due : Bool
  deriving DecidableEq, Repr

/-- A link record (R17), with the idle count of R74 and the drain limit timer of R24. -/
structure Link where
  state : LinkState
  wireId : Option Half
  maxPayload : Nat
  keepalive : Nat
  grace : Nat
  kek : Option KekIndex
  mask : List Byte
  filter : Nat
  lastKeepalive : Option (List Byte)
  outRing : Option RingIndex
  inRing : Option RingIndex
  transmit : Option Region
  receive : Option Region
  outContext : Option OutContext
  inContext : Option InContext
  openStamp : Option Seq
  lastTransmit : Option Seq
  lastArrival : Option Long
  idle : Nat
  drainStart : Option Seq
  health : Health
  deriving DecidableEq, Repr

/-- What the link unit keeps of a settled frame for its replacement (R37, R98). -/
structure FrameOutcome where
  cls : Option Byte
  len : Nat
  epoch : Half
  sequence : Nat
  deriving DecidableEq, Repr

/-- The part's record of one ring slot (R29); `job` is present while the replacement waits for a
renewal job (R101). -/
structure SlotRecord where
  pending : Bool
  held : Option PartCode
  copy : Option (List Byte)
  job : Option FrameOutcome
  deriving DecidableEq, Repr

/-- A registered ring record (R29); its slot count is the length of `slots`. -/
structure Ring where
  link : LinkSlot
  outbound : Bool
  base : Nat
  slots : List SlotRecord
  deriving DecidableEq, Repr

/-! ### Cipher unit (R15, R16) -/

/-- The seventeen requesters. -/
inductive Requester where
  | outbound (link : LinkSlot)
  | inbound (link : LinkSlot)
  | keyUnit
  deriving DecidableEq, Repr

/-- What a transform is for (R6). -/
inductive Purpose where
  | block (index : Nat)
  | unwrap (half : Nat)
  | check
  deriving DecidableEq, Repr

/-- The key a request names (R15). -/
inductive CipherKey where
  | held (ref : KeyRef)
  | candidate
  deriving DecidableEq, Repr

/-- A request for a transform (R15). -/
structure CipherRequest where
  requester : Requester
  ident : Nat
  purpose : Purpose
  input : List Byte
  key : CipherKey
  deriving DecidableEq, Repr

/-- The block-transform engine: free, fetching a KEK from the store, or holding one transform with the
output it will return. `kept` is the KEK that an ERASE_KEK took away while the engine was fetching it: the
transform was taken before the erase, so it completes with that key (R133). -/
inductive Engine where
  | free
  | fetching (request : CipherRequest) (kept : Option (List Byte))
  | busy (request : CipherRequest) (output : List Byte)
  deriving DecidableEq, Repr

/-- The cipher unit. -/
structure CipherUnit where
  queues : Vector (List CipherRequest) 17
  engine : Engine
  pointer : Fin 17
  deriving DecidableEq, Repr

/-! ### Key unit (R104, R107) -/

/-- A replay window: H, and the marks, bit i standing for sequence H − i (R87). -/
structure ReplayWindow where
  highest : Option Seq
  marks : BitVec 64
  deriving DecidableEq, Repr

/-- A slot of the key table (R104). -/
structure KeySlot where
  state : KeyState
  link : LinkSlot
  epoch : Half
  installation : BitVec 64
  key : List Byte
  check : List Byte
  activation : Option Long
  lifetime : Nat
  overlap : Nat
  earlyGrace : Nat
  age : Option Nat
  drain : Option Nat
  nextSequence : Seq
  window : ReplayWindow
  dueReported : Bool
  deriving DecidableEq, Repr

/-- How far a renewal job has come (R108 to R110). -/
inductive JobStep where
  | queued | askedKek | unwrapping | checking
  deriving DecidableEq, Repr

/-- A renewal job (R101, R107). -/
structure Job where
  ident : Nat
  link : LinkSlot
  payload : List Byte
  epoch : Half
  sequence : Seq
  slot : Nat
  step : JobStep
  half1 : Option (List Byte)
  half2 : Option (List Byte)
  candidate : Option (List Byte)
  deriving DecidableEq, Repr

/-- A request of an engine that the key unit has not yet taken (R58, R85, R95). -/
inductive KeyRequest where
  | sequence (link : LinkSlot) (ident : Nat)
  | selection (link : LinkSlot) (ident : Nat) (epoch : Half) (sequence : Seq)
  | settle (link : LinkSlot) (ident : Nat) (ref : KeyRef) (sequence : Seq)
  deriving DecidableEq, Repr

/-- The key unit. -/
structure KeyUnit where
  table : Vector KeySlot 24
  installations : BitVec 64
  jobs : List Job
  requests : List KeyRequest
  deriving DecidableEq, Repr

/-! ### Retained store (R124 to R131) -/

/-- A KEK slot. -/
structure KekSlot where
  state : KekState
  key : List Byte
  transmit : Seq
  highWater : Seq
  deriving DecidableEq, Repr

/-- The load staging record (R131). -/
structure Staging where
  slot : KekIndex
  half : List Byte
  counter : Seq
  deriving DecidableEq, Repr

/-- The requests of the store's queue (R127). A receive commit names the KEK its context is bound to, with
the erasures of its key reference (R133). -/
inductive StoreRequest where
  | summary (link : LinkSlot) (ident : Nat) (slot : Option KekIndex)
  | transmitCommit (link : LinkSlot) (ident : Nat) (slot : KekIndex)
  | selection (link : LinkSlot) (ident : Nat) (slot : KekIndex) (sequence : Seq)
  | receiveCommit (link : LinkSlot) (ident : Nat) (slot : KekIndex) (erasures : Nat) (sequence : Seq)
  | kekCheck (job : Nat) (slot : KekIndex)
  | keyFetch (slot : KekIndex)
  | command
  deriving DecidableEq, Repr

/-- The requesters of the store's queue, each with at most one request outstanding (R127). -/
inductive StoreRequester where
  | outbound (link : LinkSlot)
  | inbound (link : LinkSlot)
  | keyUnit
  | cipher
  | command
  deriving DecidableEq, Repr

/-- The retained store: the slots and the marker are retained cells; `cellsLost` says that VSTBY did
not hold them; the queue and the staging record are volatile (R124). `waiting` holds what a requester
may not ask yet, because its earlier request is outstanding (R127; log 27). `erasures` is the model's own
count of the times each slot was erased, by which a key reference tells its KEK from one loaded later
(R133; log 52). -/
structure RetainedStore where
  slots : Vector KekSlot 4
  erasures : Vector Nat 4
  marker : Marker
  cellsLost : Bool
  requests : List StoreRequest
  waiting : List StoreRequest
  staging : Option Staging
  deriving DecidableEq, Repr

/-! ### Time base (R134, R135, R139) -/

/-- A running measurement (R139, R140). -/
structure Measurement where
  fRef : Nat
  k : Nat
  automatic : Bool
  windowOpen : Bool
  edges : Nat
  count : Nat
  deriving DecidableEq, Repr

/-- The time base; the measurement state is MEASURING exactly while `measurement` is present. -/
structure TimeBase where
  rawTick : Seq
  seconds : Long
  ticks : Nat
  length : Nat
  c : Int
  f : Int
  s : Int
  valid : Bool
  fRef : Nat
  k : Nat
  autoPeriod : Nat
  autoCount : Nat
  measurement : Option Measurement
  deriving DecidableEq, Repr

/-! ### Report unit (R168 to R171) and command unit (R176 to R181) -/

/-- The report unit. `inFlight` is the entry of the record in flight. -/
structure ReportUnit where
  queue : List Report
  lost : Nat
  ring : Option ReportRing
  valid : BitVec 1024
  writeIndex : Nat
  inFlight : Option Nat
  rings : Nat
  deriving DecidableEq, Repr

/-- Where the executing command stands (R176 to R181). -/
inductive CommandPhase where
  | fetching
  | dispatched (record : List Byte) (stamp : Seq)
  | closing (record : List Byte) (link : LinkSlot)
  | replacingRing (record : List Byte) (ring : Option (Nat × Nat))
  | answered
  deriving DecidableEq, Repr

/-- The executing entry. -/
structure Executing where
  entry : EntryIndex
  phase : CommandPhase
  deriving DecidableEq, Repr

/-- The command unit. -/
structure CommandUnit where
  queue : List EntryIndex
  executing : Option Executing
  deriving DecidableEq, Repr

/-! ### Lines, hand-overs and the whole -/

/-- The side lines the part reads (R54, R125) and whether main power and VSTBY are present (R124, R126;
log 42). -/
structure Lines where
  powered : Bool
  resetAsserted : Bool
  retain : Bool
  vstby : Bool
  deriving DecidableEq, Repr

/-- A final status on its way to the monitor (R153): whether its frame was inbound, the status, and
whether the controller wrote it. -/
structure StatusNotice where
  link : LinkSlot
  inbound : Bool
  status : Byte
  byController : Bool
  deriving DecidableEq, Repr

/-- What one block has handed to another and the other has not yet taken (log 3). Reports wait in the order
in which they were posted, those of one step in the order in which the step posts them (log 49). -/
structure Mail where
  reports : List (ReportSource × Report)
  statuses : List StatusNotice
  noBuffers : List LinkSlot
  arrivals : List LinkSlot
  quarantines : List (LinkSlot × Nat)
  beacons : List (LinkSlot × List Byte)
  deriving DecidableEq, Repr

/-- The whole machine. -/
structure State where
  lines : Lines
  steering : Steering
  arbiter : MemoryRequester
  internal : InternalMaster
  completions : List Completion
  memory : List Host.Cell
  links : Vector Link 8
  rings : Vector (Option Ring) 16
  phantom : Option Nat
  cipher : CipherUnit
  keys : KeyUnit
  store : RetainedStore
  time : TimeBase
  reports : ReportUnit
  command : CommandUnit
  mail : Mail
  /-- The next context or job number (log 32). -/
  nextIdent : Nat
  /-- How many free values have been used (logs 13, 14, 15). -/
  freeCount : Nat
  /-- The commands that wait, first in, first out. -/
  pending : List Instr
  deriving DecidableEq, Repr

/-- Why the machine stops with a fault. -/
inductive Fault where
  /-- Raised by PORT_P_READ, PORT_P_WRITE, PORT_L_READ and PORT_L_WRITE for a transaction of 1 to 8
  beats that runs past address 2^32 − 1, which no 32-bit beat address of R40 names. Safe: nothing is
  claimed of it (log 23). -/
  | beyondAddressSpace
  deriving DecidableEq, Repr

/-- Why the machine refuses a command. -/
inductive Refusal where
  /-- Raised by exec's arm for a command that has no meaning yet. Safe. -/
  | notModelled (mnemonic : String)
  /-- Raised by PORT_P_READ, PORT_P_WRITE, PORT_L_READ and PORT_L_WRITE for what is no transaction of
  R40: no beat, more than 8 beats, or bytes that are no whole beats. Safe: the bus cannot carry it
  (log 23). -/
  | malformedTransaction
  deriving DecidableEq, Repr

/-! ### Reset values -/

/-- An idle port. -/
def Port.idle : Port := ⟨none, [], [], none⟩

/-- The region map after power-on and warm reset: the command ring alone (R42). -/
def RegionMap.reset (anchor : Nat) : RegionMap :=
  ⟨anchor, none, Vector.replicate 16 none, Vector.replicate 8 none, Vector.replicate 8 none, none⟩

/-- The internal master with both queues empty (R47). -/
def InternalMaster.reset : InternalMaster := ⟨[], [], [], [], none⟩

/-- The health record of R151. -/
def Health.reset : Health :=
  { t := 64, d := 16, u := 1, i := 64, m := 3, r := 60, noBuffer := false,
    e := 0, a := 0, cleanRun := 0, errored := false, silent := false, timer := 0, quiet := 0,
    due := false }

/-- The link record of R17. -/
def Link.reset : Link :=
  { state := .closed, wireId := none, maxPayload := 2048, keepalive := 0, grace := 0, kek := none,
    mask := List.replicate 8 0xFF#8, filter := 0, lastKeepalive := none, outRing := none,
    inRing := none, transmit := none, receive := none, outContext := none, inContext := none,
    openStamp := none, lastTransmit := none, lastArrival := none, idle := 0, drainStart := none,
    health := Health.reset }

/-- A slot record with nothing in it (R21, R29). -/
def SlotRecord.clear : SlotRecord := ⟨false, none, none, none⟩

/-- The cipher unit: empty queues, free engine, pointer at the key unit (R15). -/
def CipherUnit.reset : CipherUnit := ⟨Vector.replicate 17 [], .free, 16⟩

/-- A replay window with H absent (R87). -/
def ReplayWindow.fresh : ReplayWindow := ⟨none, 0⟩

/-- An EMPTY key slot: every other field zero or absent (R104, R105). -/
def KeySlot.empty : KeySlot :=
  { state := .empty, link := 0, epoch := 0, installation := 0, key := List.replicate 32 0,
    check := List.replicate 8 0, activation := none, lifetime := 0, overlap := 0, earlyGrace := 0,
    age := none, drain := none, nextSequence := 0, window := ReplayWindow.fresh,
    dueReported := false }

/-- The key unit after a reset (R104, R107). -/
def KeyUnit.reset : KeyUnit := ⟨Vector.replicate 24 KeySlot.empty, 0, [], []⟩

/-- A slot without key material, in the given state (R124). -/
def KekSlot.blank (st : KekState) : KekSlot := ⟨st, List.replicate 32 0, 0, 0⟩

/-- The time base after a reset (R134, R135). -/
def TimeBase.reset : TimeBase :=
  { rawTick := 0, seconds := 0, ticks := 0, length := 32768, c := 0, f := 0, s := 0, valid := false,
    fRef := 2048000, k := 15, autoPeriod := 0, autoCount := 0, measurement := none }

/-- The report unit after a reset (R168, R169). -/
def ReportUnit.reset : ReportUnit := ⟨[], 0, none, 0, 0, none, 0⟩

/-- The command unit after a reset (R176). -/
def CommandUnit.reset : CommandUnit := ⟨[], none⟩

/-- No hand-over outstanding. -/
def Mail.none : Mail := ⟨[], [], [], [], [], []⟩

/-- The report of the power-on check of a part whose cells were never held (R126). -/
def firstStoreInvalid : Report :=
  ⟨.storeInvalid true [true, true, true, true], Option.none, 0⟩

/-- The part right after its first power-on has finished (R17, R42, R54, R104, R126, R135, R151, R168,
R173, R174, R176; log 9): the marker was unreadable, so every KEK slot is INVALID and STORE_INVALID
waits in the report unit's queue; the marker was then written from RETAIN. The levels of RETAIN (high) and
of the ANCHOR straps (0), and VSTBY being present, are the model's choice. -/
def State.reset : State :=
  { lines := ⟨true, false, true, true⟩
    steering := ⟨RegionMap.reset 0, Port.idle, Port.idle⟩
    arbiter := .internal
    internal := InternalMaster.reset
    completions := []
    memory := []
    links := Vector.replicate 8 Link.reset
    rings := Vector.replicate 16 Option.none
    phantom := Option.none
    cipher := CipherUnit.reset
    keys := KeyUnit.reset
    store := ⟨Vector.replicate 4 (KekSlot.blank .invalid), Vector.replicate 4 0, .live, false, [], [],
      Option.none⟩
    time := TimeBase.reset
    reports := { ReportUnit.reset with queue := [firstStoreInvalid] }
    command := CommandUnit.reset
    mail := Mail.none
    nextIdent := 0
    freeCount := 0
    pending := [] }

end Sys2Proof.Machine
end

