-- ==== Sys2Proof/Machine/Codes.lean ====
section
/-! DEFINITION. The numeric codes of Record Layouts and Procedures (12.2 to 12.5). -/

namespace Sys2Proof.Machine

/-- Link state codes (12.2). -/
def LinkState.code : LinkState → Byte
  | .closed => 0 | .awaitKey => 1 | .keyed => 2 | .quarantined => 3 | .closing => 4

/-- Key state codes (12.2). -/
def KeyState.code : KeyState → Byte
  | .empty => 0 | .pending => 1 | .active => 2 | .overdue => 3 | .draining => 4

/-- Frame class codes (R2). -/
def FrameClass.code : FrameClass → Byte
  | .data => 0 | .keepalive => 1 | .renewal => 2 | .beacon => 3 | .report => 4

/-- The class a code names, if any (R3). -/
def FrameClass.ofCode? (b : Byte) : Option FrameClass :=
  if b = 0 then some .data else if b = 1 then some .keepalive else if b = 2 then some .renewal
  else if b = 3 then some .beacon else if b = 4 then some .report else none

/-- Status codes of the part (12.3). -/
def PartCode.byte : PartCode → Byte
  | .ok => 0x00 | .badDescriptor => 0x40 | .tooLong => 0x41 | .badClass => 0x42
  | .linkClosed => 0x43 | .noKey => 0x44 | .keyLost => 0x45 | .kekAbsent => 0x46
  | .misdirected => 0x47 | .earlyEpoch => 0x48 | .replay => 0x49 | .quarantined => 0x4A
  | .tagMismatch => 0x4B | .streamFault => 0x4C | .tooShort => 0x4D | .filtered => 0x4E
  | .absorbedTime => 0x4F | .absorbedRenewal => 0x50 | .renewalRepeat => 0x51
  | .staleEpoch => 0x52 | .checkMismatch => 0x53 | .badRenewal => 0x54

/-- LINE_ABORT, the controller's status 0x01 (R39). -/
def lineAbort : Byte := 0x01

/-- Result codes (12.4). -/
def ResultCode.byte : ResultCode → Byte
  | .ok => 0 | .unknownCommand => 1 | .badArgument => 2 | .wrongState => 3 | .storeParked => 4
  | .busy => 5 | .overlap => 6

/-- Cause codes in reports (12.5). -/
def ActivationCause.byte : ActivationCause → Byte
  | .time => 0 | .immediate => 1 | .receive => 2 | .expiry => 3
@[inherit_doc ActivationCause.byte]
def RetireCause.byte : RetireCause → Byte
  | .expiry => 0 | .drainEnd => 1 | .superseded => 2 | .sequenceLimit => 3 | .command => 4
@[inherit_doc ActivationCause.byte]
def ReleaseCause.byte : ReleaseCause → Byte
  | .command => 0 | .activation => 1 | .keyLoss => 2
@[inherit_doc ActivationCause.byte]
def SilenceCause.byte : SilenceCause → Byte
  | .timeout => 0 | .inboundAbort => 1 | .outboundAbort => 2

/-- The KEK summary of a keepalive's status contents: bits 1 and 0 of its byte 7 (12.2). -/
def kekSummaryBits : Option KekState → Byte
  | some .empty => 0 | some .loaded => 1 | some .invalid => 2 | none => 3

/-- Bit 7 of that byte: the store marker (12.2). -/
def markerBit : Marker → Byte
  | .live => 0x00 | .parked => 0x80

/-- Kind codes of reports (12.5). -/
def ReportDetail.kind : ReportDetail → Byte
  | .frameDone _ _ _ => 0x01 | .keyInstalled _ _ _ => 0x02 | .keyReplaced _ _ => 0x03
  | .keyActivated _ _ _ => 0x04 | .keyOverdue _ _ => 0x05 | .keyRetired _ _ _ => 0x06
  | .renewalDue _ _ _ => 0x07 | .drainCut _ _ => 0x08 | .renewalRefused _ _ => 0x09
  | .healthAlarm _ _ => 0x0A | .linkQuarantined _ => 0x0B | .linkReleased _ _ _ => 0x0C
  | .linkSilent _ _ => 0x0D | .linkHeard _ => 0x0E | .linkClosed => 0x0F | .ringFault _ => 0x10
  | .clockMeasured _ _ _ => 0x11 | .oscTolerance _ _ => 0x12 | .refOutOfRange _ _ _ => 0x13
  | .timeStepped _ _ _ _ => 0x14 | .storeInvalid _ _ => 0x15

/-- FRAME_DONE, HEALTH_ALARM and RING_FAULT are the coalescing kinds (R167). -/
def ReportDetail.coalesces : ReportDetail → Bool
  | .frameDone _ _ _ => true
  | .healthAlarm _ _ => true
  | .ringFault _ => true
  | .keyInstalled _ _ _ | .keyReplaced _ _ | .keyActivated _ _ _ | .keyOverdue _ _
  | .keyRetired _ _ _ | .renewalDue _ _ _ | .drainCut _ _ | .renewalRefused _ _
  | .linkQuarantined _ | .linkReleased _ _ _ | .linkSilent _ _ | .linkHeard _ | .linkClosed
  | .clockMeasured _ _ _ | .oscTolerance _ _ | .refOutOfRange _ _ _ | .timeStepped _ _ _ _
  | .storeInvalid _ _ => false

/-- Bit n of the slot flags stands for KEK slot n (12.5); the others are 0 (log 56). -/
def flagBits : List Bool → Nat
  | [] => 0
  | b :: bs => (if b then 1 else 0) + 2 * flagBits bs

/-- The detail bytes of a report, packed from byte 12 in the order of 12.5 (R185). -/
def ReportDetail.bytes : ReportDetail → List Byte
  | .frameDone inbound slot status => [flagByte inbound, BitVec.ofNat 8 slot, status]
  | .keyInstalled epoch check activation =>
    leBytes 2 epoch.toNat ++ check ++ leBytes 4 ((activation.map BitVec.toNat).getD 0) ++
      [flagByte activation.isNone]
  | .keyReplaced epoch check => leBytes 2 epoch.toNat ++ check
  | .keyActivated epoch cause superseded =>
    leBytes 2 epoch.toNat ++ [cause.byte] ++ leBytes 2 superseded.toNat
  | .keyOverdue epoch age => leBytes 2 epoch.toNat ++ leBytes 4 age
  | .keyRetired epoch held cause => leBytes 2 epoch.toNat ++ [held.code, cause.byte]
  | .renewalDue epoch bySequence age =>
    leBytes 2 epoch.toNat ++ [flagByte bySequence] ++ leBytes 4 age
  | .drainCut epoch remaining => leBytes 2 epoch.toNat ++ leBytes 2 remaining
  | .renewalRefused epoch status => leBytes 2 epoch.toNat ++ [status.byte]
  | .healthAlarm e a => leBytes 2 e ++ leBytes 1 a
  | .linkQuarantined a => leBytes 1 a
  | .linkReleased cause e a => [cause.byte] ++ leBytes 2 e ++ leBytes 1 a
  | .linkSilent cause arrival =>
    [cause.byte, flagByte arrival.isSome] ++ leBytes 4 ((arrival.map BitVec.toNat).getD 0)
  | .linkHeard quiet => leBytes 2 quiet
  | .linkClosed => []
  | .ringFault address => leBytes 4 address
  | .clockMeasured n applied automatic =>
    leBytes 4 n ++ signedBytes 2 applied ++ [flagByte automatic]
  | .oscTolerance formed applied => signedBytes 4 formed ++ signedBytes 2 applied
  | .refOutOfRange n fRef k => leBytes 4 n ++ leBytes 4 fRef ++ leBytes 1 k
  | .timeStepped delta seconds byCommand validBefore =>
    signedBytes 4 delta ++ leBytes 4 seconds.toNat ++ [flagByte byCommand, flagByte validBefore]
  | .storeInvalid lost flags => [flagByte lost, BitVec.ofNat 8 (flagBits flags)]

end Sys2Proof.Machine
end

