-- ==== Sys2Proof/Machine/Operands.lean ====
section
/-! DEFINITION. The records that pass through the part as bytes: descriptors (12.1), frame headers and
payloads (12.2), and the derived quantities the rules name (extent, capacity, payload position). -/

namespace Sys2Proof.Machine

/-! ### Descriptors (12.1) -/

/-- OWN: bit 7 of byte 1. -/
def descOwn (d : List Byte) : Bool := (byteAt d 1).getLsbD 7
/-- WRAP: bit 6 of byte 1. -/
def descWrap (d : List Byte) : Bool := (byteAt d 1).getLsbD 6
/-- SKIP: bit 4 of byte 1. -/
def descSkip (d : List Byte) : Bool := (byteAt d 1).getLsbD 4
/-- RPT: bit 3 of byte 1. -/
def descRpt (d : List Byte) : Bool := (byteAt d 1).getLsbD 3
/-- CLASS: bits 2 to 0 of byte 1. -/
def descClass (d : List Byte) : Byte := byteAt d 1 &&& 0x07#8
/-- Length: bytes 2 and 3. -/
def descLength (d : List Byte) : Nat := fieldAt d 2 2
/-- Buffer pointer: bytes 4 to 7. -/
def descPointer (d : List Byte) : Nat := fieldAt d 4 4
/-- Hold-off: bytes 8 and 9, in short units. -/
def descHoldOff (d : List Byte) : Nat := fieldAt d 8 2

/-- The descriptor with OWN clear (R30 cases 1 and 4). -/
def withOwnClear (d : List Byte) : List Byte := patch d 1 [byteAt d 1 &&& 0x7F#8]
/-- The descriptor with OWN and SKIP set (R31). -/
def asRefused (d : List Byte) : List Byte := patch d 1 [byteAt d 1 ||| 0x90#8]
/-- The descriptor made ready: OWN set, SKIP clear, length + 24 (R30 case 9). -/
def asReady (d : List Byte) : List Byte :=
  patch (patch d 1 [(byteAt d 1 ||| 0x80#8) &&& 0xEF#8]) 2 (leBytes 2 (descLength d + 24))

/-- A substituted keepalive's descriptor (R75): OWN, STAY and KEEPALIVE, WRAP as in memory, length 32,
the sub-window as pointer, zero elsewhere. -/
def asSubstituted (d : List Byte) (pointer : Nat) : List Byte :=
  [0x00#8, (byteAt d 1 &&& 0x40#8) ||| 0xA1#8] ++ leBytes 2 32 ++ leBytes 4 pointer ++ zeroes 8

/-- The replacement descriptor (R37), from the presented copy, the class to show (inbound, when the
header gave one of 0 to 7), the final status, the length, the epoch and the low sequence. -/
def replacementBytes (copy : List Byte) (cls : Option Byte) (status : Byte) (len : Nat)
    (epoch : Half) (sequence : Nat) : List Byte :=
  let control := match cls with
    | some c => if c.toNat ≤ 7 then (byteAt copy 1 &&& 0x78#8) ||| c else byteAt copy 1 &&& 0x7F#8
    | none => byteAt copy 1 &&& 0x7F#8
  [status, control] ++ leBytes 2 len ++ slice copy 4 6 ++ leBytes 2 epoch.toNat ++
    leBytes 4 sequence

/-! ### Headers (12.2) -/

/-- The sixteen header bytes of an outbound frame (R2, R60). -/
def headerBytes (cls : FrameClass) (wireId : Half) (len : Nat) (epoch : Half) (sequence : Seq) :
    List Byte :=
  [0x01#8, cls.code] ++ leBytes 2 wireId.toNat ++ leBytes 2 len ++ leBytes 2 epoch.toNat ++
    leBytes 6 sequence.toNat ++ zeroes 2

/-- The header that sixteen received bytes hold (R84). -/
def parseHeader (bs : List Byte) : Header :=
  { format := byteAt bs 0, cls := byteAt bs 1, wireId := BitVec.ofNat 16 (fieldAt bs 2 2),
    len := fieldAt bs 4 2, epoch := BitVec.ofNat 16 (fieldAt bs 6 2),
    sequence := BitVec.ofNat 48 (fieldAt bs 8 6) }

/-- The extent of a frame is 24 bytes longer than its payload (R1). -/
def extentLength (len : Nat) : Nat := 24 + len

/-! ### Renewal and beacon payloads (12.2) -/

/-- New epoch: bytes 0 and 1. -/
def renewalEpoch (p : List Byte) : Half := BitVec.ofNat 16 (fieldAt p 0 2)
/-- KEK slot: byte 2. -/
def renewalKek (p : List Byte) : Byte := byteAt p 2
/-- IMMEDIATE: bit 0 of byte 3. -/
def renewalImmediate (p : List Byte) : Bool := (byteAt p 3).getLsbD 0
/-- Activation time: bytes 4 to 7. -/
def renewalActivation (p : List Byte) : Long := BitVec.ofNat 32 (fieldAt p 4 4)
/-- Lifetime: bytes 8 to 11. -/
def renewalLifetime (p : List Byte) : Nat := fieldAt p 8 4
/-- Overlap: bytes 12 and 13. -/
def renewalOverlap (p : List Byte) : Nat := fieldAt p 12 2
/-- Early grace: bytes 14 and 15. -/
def renewalEarlyGrace (p : List Byte) : Nat := fieldAt p 14 2
/-- Wrapped key, half 1 or 2: payload bytes 16 to 31 or 32 to 47 (R13). -/
def renewalWrapped (p : List Byte) (half : Nat) : List Byte := slice p (16 * half) 16
/-- Check value: bytes 48 to 55. -/
def renewalCheck (p : List Byte) : List Byte := slice p 48 8

/-- Beacon seconds: bytes 0 to 3. -/
def beaconSeconds (p : List Byte) : Long := BitVec.ofNat 32 (fieldAt p 0 4)
/-- Beacon fraction in 2^-16 s: bytes 4 and 5. -/
def beaconFraction (p : List Byte) : Half := BitVec.ofNat 16 (fieldAt p 4 2)
/-- STEP: bit 0 of the flags in bytes 6 and 7. -/
def beaconStep (p : List Byte) : Bool := (byteAt p 6).getLsbD 0

/-! ### Epochs (00_scope, R4) -/

/-- The successor of an epoch: e + 1, and 1 after 65535; epoch 0 has none. -/
def epochSuccessor (e : Half) : Option Half :=
  if e = 0 then none else if e = 0xFFFF#16 then some 1 else some (e + 1)

/-! ### Report records (12.5) -/

/-- The 32 bytes of a report record (R170, R185); bits 1 to 7 of byte 6 are 0 (log 56). -/
def recordBytes (r : Report) (lost : Nat) (valid : Bool) (seconds : Long) : List Byte :=
  let head := [0x01#8, r.detail.kind, (r.link.map (fun l => BitVec.ofNat 8 l.val)).getD 0xFF#8,
    BitVec.ofNat 8 r.repeats] ++ leBytes 2 lost ++ [flagByte valid, 0x00#8] ++
    leBytes 4 seconds.toNat ++ r.detail.bytes
  head ++ zeroes (32 - head.length)

end Sys2Proof.Machine
end

