-- ==== Sys2Proof/Machine/Frame.lean ====
section
/-! DEFINITION. The cipher construction of a frame: counter and unwrap blocks, keystream, tag
(R7 to R14). -/

namespace Sys2Proof.Machine

/-- The counter block (R7): direction, zero, wire id, sequence big-endian, epoch, block index
big-endian. -/
def counterBlock (inbound : Bool) (wireId : Half) (sequence : Seq) (epoch : Half) (index : Nat) :
    List Byte :=
  [if inbound then 0xA5#8 else 0x5A#8, 0x00#8] ++ leBytes 2 wireId.toNat ++
    beBytes 6 sequence.toNat ++ leBytes 2 epoch.toNat ++ beBytes 4 index

/-- The unwrap block of a half (R13). -/
def unwrapBlock (kek : Nat) (wireId epoch : Half) (half : Nat) : List Byte :=
  [0xC3#8] ++ leBytes 1 kek ++ leBytes 2 wireId.toNat ++ leBytes 2 epoch.toNat ++ zeroes 9 ++
    leBytes 1 half

/-- The input of a check block: sixteen zero bytes (R6, R14). -/
def checkBlock : List Byte := zeroes 16

/-- The keystream block of a payload offset: 1 + floor(o / 16) (R8). -/
def blockOf (offset : Nat) : Nat := 1 + offset / 16

/-- The last block a payload uses; 0 for an empty payload (R8). -/
def lastBlock (len : Nat) : Nat := if len = 0 then 0 else blockOf (len - 1)

/-- The keystream byte of a payload offset, when its block is held (R8). The quarter and lane of R62
are the same byte: quarter floor(o / 4) of block 1 + floor(o / 16) at lane o mod 4. -/
def keystreamByte (held : List (Nat × List Byte)) (offset : Nat) : Option Byte :=
  (held.lookup (blockOf offset)).map (fun block => byteAt block (offset % 16))

/-! ### The tag (R9 to R12) -/

/-- p = 2^61 − 1 (R11). -/
def tagPrime : Nat := 2 ^ 61 - 1

/-- The tag keys r and s from block 0 (R9). -/
def tagKeys (block : List Byte) : Nat × Nat :=
  let r := fieldAt block 0 8 % 2 ^ 60
  (if r = 0 then 1 else r, fieldAt block 8 8)

/-- The value of a group of 1 to 4 bytes: its little-endian value plus 2^(8k) (R10). -/
def groupValue (g : List Byte) : Nat := leNat g + 2 ^ (8 * g.length)

/-- One group into the accumulator (R11). -/
def accumulate (r a : Nat) (g : List Byte) : Nat := ((a + groupValue g) * r) % tagPrime

/-- A tag with nothing absorbed (R11). -/
def Tag.start : Tag := ⟨none, 0, [], none⟩

/-- One byte joins the partial group, and every fourth completes a group (R11, R64, R91). Without tag
keys nothing is absorbed (R9). -/
def Tag.absorb (t : Tag) (b : Byte) : Tag :=
  match t.keys with
  | none => t
  | some (r, _) =>
    let g := t.group ++ [b]
    if g.length = 4 then { t with accumulator := accumulate r t.accumulator g, group := [] }
    else { t with group := g }

/-- Bytes in order. -/
def Tag.absorbAll (t : Tag) : List Byte → Tag
  | [] => t
  | b :: bs => (t.absorb b).absorbAll bs

/-- The payload has ended: the final partial group is taken and the tag is (a + s) mod 2^64
(R11). -/
def Tag.finish (t : Tag) : Tag :=
  match t.keys with
  | none => t
  | some (r, s) =>
    let a := if t.group = [] then t.accumulator else accumulate r t.accumulator t.group
    { t with accumulator := a, group := [], value := some ((a + s) % 2 ^ 64) }

/-- The tag keys arrive and the four header groups are taken (R60, R91); an empty payload completes
the tag (R64, R91). -/
def Tag.keyed (t : Tag) (block header : List Byte) (len : Nat) : Tag :=
  let t := ({ t with keys := some (tagKeys block) } : Tag).absorbAll header
  if len = 0 then t.finish else t

/-- The eight trailer bytes of a tag (R12). -/
def tagBytes (v : Nat) : List Byte := leBytes 8 v

/-- The trailer of a key-lost frame (R12, R70): the complement of the tag when it was complete, else
the complement of zero. -/
def lostTrailer (t : Tag) : List Byte :=
  ((t.value.map tagBytes).getD (zeroes 8)).map (fun b => ~~~b)

/-! ### The keystream window (R61, R90) -/

/-- The blocks of a window of six from `w`, up to the last block (R61). -/
def windowBlocks (w last : Nat) : List Nat := (List.range 6).map (· + w) |>.filter (· ≤ last)

/-- No window yet (R81). -/
def Keystream.none : Keystream := ⟨0, [], []⟩

/-- The window of an outbound context at its opening: start 1, none held (R56). -/
def Keystream.opened : Keystream := ⟨1, [], []⟩

/-- The window at header release: block 0 is wanted, and the blocks from 1 behind it (R60, R61). -/
def Keystream.released (last : Nat) : Keystream := ⟨1, [], 0 :: windowBlocks 1 last⟩

/-- The window moves to `w`: blocks outside it are dropped, and those it neither holds nor has
outstanding are wanted in ascending order, behind block 0 if that still waits (R61, R90). -/
def Keystream.moveTo (k : Keystream) (w last : Nat) (outstanding : List Nat) : Keystream :=
  let blocks := windowBlocks w last
  { start := w
    held := k.held.filter (fun h => blocks.contains h.1)
    wanted := k.wanted.filter (· == 0) ++
      blocks.filter (fun b => !((k.held.map Prod.fst).contains b) && !outstanding.contains b) }

/-- A block that returns is held while it lies in the window, also when the window had left it and come
back meanwhile (R61; log 28). -/
def Keystream.take (k : Keystream) (index last : Nat) (block : List Byte) : Keystream :=
  if (windowBlocks k.start last).contains index then { k with held := k.held ++ [(index, block)] }
  else k

/-- Key loss and closing: nothing is held or wanted any more (R61, R68). -/
def Keystream.drop (k : Keystream) : Keystream := { k with held := [], wanted := [] }

/-! ### Unwrap and check (R13, R14) -/

/-- A half of the session key from the wrapped half and the transform's output (R13). -/
def unwrapHalf (payload output : List Byte) (half : Nat) : List Byte :=
  xorBytes (renewalWrapped payload half) output

/-- The check value a transform of zeroes gives (R14). -/
def checkOf (output : List Byte) : List Byte := output.take 8

end Sys2Proof.Machine
end

