-- ==== Sys2Proof/Machine/Flags.lean ====
section
/-! DEFINITION. The flags the part computes: replay marks (R87, R95), the validity map and INT (R171 to
R173), which statuses set the errored flag (R153), and saturating counts. -/

namespace Sys2Proof.Machine

/-- A saturating count goes up by `n` and stops at `top` (00_scope, "Saturating counters"). -/
def satAdd (top v n : Nat) : Nat := min (v + n) top

/-! ### Replay window (R87, R95) -/

/-- The replay check for sequence q; it reads the window and does not change it (R87). -/
def ReplayWindow.passes (w : ReplayWindow) (q : Seq) : Bool :=
  match w.highest with
  | none => 1 ≤ q.toNat
  | some h =>
    h.toNat < q.toNat ||
      (1 ≤ q.toNat && h.toNat < q.toNat + 64 && !(w.marks.getLsbD (h.toNat - q.toNat)))

/-- The window after q is marked (R95): marks below q − 63 drop out, H does not decrease. -/
def ReplayWindow.mark (w : ReplayWindow) (q : Seq) : ReplayWindow :=
  match w.highest with
  | none => ⟨some q, 1#64⟩
  | some h =>
    if h.toNat < q.toNat then ⟨some q, (w.marks <<< (q.toNat - h.toNat)) ||| 1#64⟩
    else ⟨some h, w.marks ||| (1#64 <<< (h.toNat - q.toNat))⟩

/-! ### Validity map and INT (R171 to R173) -/

/-- The flag of an entry. -/
def ReportUnit.flag (u : ReportUnit) (entry : Nat) : Bool := u.valid.getLsbD entry

/-- The flag of an entry is set, by the landing of its record (R171). -/
def setFlag (valid : BitVec 1024) (entry : Nat) : BitVec 1024 := valid ||| (1#1024 <<< entry)

/-- The flag of an entry is cleared (R172). -/
def clearFlag (valid : BitVec 1024) (entry : Nat) : BitVec 1024 :=
  valid &&& ~~~(1#1024 <<< entry)

/-- INT is high while some flag of the validity map is set (R173). -/
def State.int (s : State) : Bool := s.reports.valid != 0#1024

/-! ### The errored flag (R153) -/

/-- The part's codes that show the line or the path delivering wrong frames (R153). -/
def PartCode.errs : PartCode → Bool
  | .tooLong | .badClass | .noKey | .misdirected | .replay | .tagMismatch | .streamFault
  | .tooShort | .checkMismatch => true
  | .ok | .badDescriptor | .linkClosed | .keyLost | .kekAbsent | .earlyEpoch | .quarantined
  | .filtered | .absorbedTime | .absorbedRenewal | .renewalRepeat | .staleEpoch
  | .badRenewal => false

/-- The part's codes in the order of 12.3. -/
def partCodes : List PartCode :=
  [.ok, .badDescriptor, .tooLong, .badClass, .linkClosed, .noKey, .keyLost, .kekAbsent,
    .misdirected, .earlyEpoch, .replay, .quarantined, .tagMismatch, .streamFault, .tooShort,
    .filtered, .absorbedTime, .absorbedRenewal, .renewalRepeat, .staleEpoch, .checkMismatch,
    .badRenewal]

/-- Whether a final status sets the errored flag (R153): LINE_ABORT in both directions, the
controller's 0x02 to 0x05 inbound, and the part's own codes of the table; a value the controller
writes in the part's range does not. -/
def StatusNotice.errs (n : StatusNotice) : Bool :=
  if n.byController then
    n.status == lineAbort || (n.inbound && 2 ≤ n.status.toNat && n.status.toNat ≤ 5)
  else n.inbound && partCodes.any (fun c => c.errs && c.byte == n.status)

/-- Whether a final status is a LINE_ABORT (R163). -/
def StatusNotice.isAbort (n : StatusNotice) : Bool := n.byController && n.status == lineAbort

end Sys2Proof.Machine
end

