-- ==== Sys2Proof/Machine/Ops.lean ====
section
/-! DEFINITION. The named operations over the machine's records: frame memory, link and ring records,
postings and hand-overs, the internal master's queues, the region map, and the result of a command. -/

namespace Sys2Proof.Machine

/-- Every link slot, every ring record, every key slot. -/
def allLinks : List LinkSlot := [0, 1, 2, 3, 4, 5, 6, 7]
@[inherit_doc allLinks]
def allRings : List RingIndex := [0, 1, 2, 3, 4, 5, 6, 7, 8, 9, 10, 11, 12, 13, 14, 15]
@[inherit_doc allLinks]
def allKeySlots : List KeyIndex :=
  [0, 1, 2, 3, 4, 5, 6, 7, 8, 9, 10, 11, 12, 13, 14, 15, 16, 17, 18, 19, 20, 21, 22, 23]

/-! ### Frame memory -/

/-- What an address that nothing has written reads as (log 7). -/
def unwritten : Byte := 0x00

/-- The byte at an address. -/
def memRead (m : List Host.Cell) (a : Nat) : Byte := (m.lookup a).getD unwritten

/-- A byte written at an address; the list stays strictly rising and holds no byte equal to
`unwritten`. -/
def memWrite : List Host.Cell → Nat → Byte → List Host.Cell
  | [], a, v => if v = unwritten then [] else [(a, v)]
  | (b, w) :: m, a, v =>
    if a < b then (if v = unwritten then (b, w) :: m else (a, v) :: (b, w) :: m)
    else if a = b then (if v = unwritten then m else (a, v) :: m)
    else (b, w) :: memWrite m a v

/-- Addresses from `lo` strictly rising, no byte equal to `unwritten`. -/
def memWfFrom : Nat → List Host.Cell → Bool
  | _, [] => true
  | lo, (a, v) :: m => decide (lo ≤ a) && v != unwritten && memWfFrom (a + 1) m

/-- The canonical form of frame memory. -/
def memWf (m : List Host.Cell) : Bool := memWfFrom 0 m

/-- The `n` bytes from an address. -/
def memReadBytes (m : List Host.Cell) : Nat → Nat → List Byte
  | _, 0 => []
  | a, n + 1 => memRead m a :: memReadBytes m (a + 1) n

/-- Bytes written from an address; a byte whose enable is clear is not written (R40). -/
def memWriteBytes (m : List Host.Cell) : Nat → List (Option Byte) → List Host.Cell
  | _, [] => m
  | a, none :: bs => memWriteBytes m (a + 1) bs
  | a, some b :: bs => memWriteBytes (memWrite m a b) (a + 1) bs

/-! ### Records -/

/-- A function over every element of a table. -/
def mapTable {α β : Type} {n : Nat} (v : Vector α n) (f : α → β) : Vector β n :=
  ⟨⟨v.toArray.toList.map f⟩, by simp⟩

/-- The record of a link. -/
def State.link (s : State) (l : LinkSlot) : Link := s.links[l]
/-- The record of a link replaced. -/
def State.setLink (s : State) (l : LinkSlot) (x : Link) : State :=
  { s with links := s.links.set l x }
/-- The record of a ring. -/
def State.ring (s : State) (r : RingIndex) : Option Ring := s.rings[r]
/-- The record of a ring replaced. -/
def State.setRing (s : State) (r : RingIndex) (x : Option Ring) : State :=
  { s with rings := s.rings.set r x }
/-- The outbound context of a link replaced. -/
def State.setOut (s : State) (l : LinkSlot) (c : Option OutContext) : State :=
  s.setLink l { s.link l with outContext := c }
/-- The inbound context of a link replaced. -/
def State.setIn (s : State) (l : LinkSlot) (c : Option InContext) : State :=
  s.setLink l { s.link l with inContext := c }
/-- The health record of a link replaced. -/
def State.setHealth (s : State) (l : LinkSlot) (h : Health) : State :=
  s.setLink l { s.link l with health := h }
/-- A key slot. -/
def State.key (s : State) (k : KeyIndex) : KeySlot := s.keys.table[k]
/-- A key slot replaced. -/
def State.setKey (s : State) (k : KeyIndex) (x : KeySlot) : State :=
  { s with keys := { s.keys with table := s.keys.table.set k x } }
/-- A function over every key slot. -/
def State.mapKeys (s : State) (f : KeySlot → KeySlot) : State :=
  { s with keys := { s.keys with table := mapTable s.keys.table f } }
/-- A KEK slot. -/
def State.kek (s : State) (k : KekIndex) : KekSlot := s.store.slots[k]
/-- A KEK slot replaced. -/
def State.setKek (s : State) (k : KekIndex) (x : KekSlot) : State :=
  { s with store := { s.store with slots := s.store.slots.set k x } }
/-- How often a KEK slot has been erased (R133). -/
def State.erasures (s : State) (k : KekIndex) : Nat := s.store.erasures[k]
/-- The reference to the KEK that a slot holds now (R56, R81). -/
def State.kekRef (s : State) (k : KekIndex) : KeyRef := .kek k (s.erasures k)
/-- A KEK slot erased (R133): EMPTY, its key and both counters zeroized. -/
def State.eraseKek (s : State) (k : KekIndex) : State :=
  { s with store := { s.store with
    slots := s.store.slots.set k (KekSlot.blank .empty)
    erasures := s.store.erasures.set k (s.erasures k + 1) } }
/-- The engine's state replaced. -/
def State.setEngine (s : State) (e : Engine) : State := { s with cipher := { s.cipher with engine := e } }

/-- The slot record of a ring, clear past its last slot. -/
def Ring.slot (r : Ring) (i : Nat) : SlotRecord := r.slots.getD i SlotRecord.clear
/-- A slot record replaced. -/
def Ring.setSlot (r : Ring) (i : Nat) (x : SlotRecord) : Ring := { r with slots := r.slots.set i x }
/-- A slot record of a ring record replaced; a free ring record stays free. -/
def State.setSlot (s : State) (r : RingIndex) (i : Nat) (x : SlotRecord) : State :=
  match s.ring r with
  | none => s
  | some ring => s.setRing r (some (ring.setSlot i x))
/-- The slot record of a ring record. -/
def State.slot (s : State) (r : RingIndex) (i : Nat) : SlotRecord :=
  ((s.ring r).map (fun ring => ring.slot i)).getD SlotRecord.clear

/-- A link is open in AWAIT_KEY, KEYED, QUARANTINED and CLOSING (R30, R151). -/
def LinkState.isOpen : LinkState → Bool
  | .closed => false
  | .awaitKey | .keyed | .quarantined | .closing => true

/-- Whether the ring records of a link hold a pending slot (R25). -/
def State.pendingSlots (s : State) (r : Option RingIndex) : Nat :=
  match r.bind s.ring with
  | none => 0
  | some ring => (ring.slots.filter (·.pending)).length

/-! ### Hand-overs (log 3) -/

/-- A block posts a report (R167). -/
def State.post (s : State) (source : ReportSource) (link : Option LinkSlot) (d : ReportDetail) :
    State :=
  { s with mail := { s.mail with reports := s.mail.reports ++ [(source, ⟨d, link, 0⟩)] } }

/-- A RING_FAULT of the steering unit or the engines behind it (R49 to R51, R53). -/
def State.fault (s : State) (link : Option LinkSlot) (address : Nat) : State :=
  s.post .steering link (.ringFault address)

/-- A final status handed to the health monitor (R153). -/
def State.notifyStatus (s : State) (n : StatusNotice) : State :=
  { s with mail := { s.mail with statuses := s.mail.statuses ++ [n] } }

/-- A no-buffer event handed to the health monitor (R154). -/
def State.notifyNoBuffer (s : State) (l : LinkSlot) : State :=
  { s with mail := { s.mail with noBuffers := s.mail.noBuffers ++ [l] } }

/-- A verified arrival handed to the health monitor (R164). -/
def State.notifyArrival (s : State) (l : LinkSlot) : State :=
  { s with mail := { s.mail with arrivals := s.mail.arrivals ++ [l] } }

/-- Who makes a request of the store (R127). -/
def StoreRequest.requester : StoreRequest → StoreRequester
  | .summary l _ _ => .outbound l
  | .transmitCommit l _ _ => .outbound l
  | .selection l _ _ _ => .inbound l
  | .receiveCommit l _ _ _ _ => .inbound l
  | .kekCheck _ _ => .keyUnit
  | .keyFetch _ => .cipher
  | .command => .command

/-- A requester has a request outstanding, or one that waits for it (R127). -/
def RetainedStore.owes (x : RetainedStore) (q : StoreRequester) : Bool :=
  (x.requests ++ x.waiting).any (fun r => r.requester == q)

/-- A request joins the store's queue; while its requester has one outstanding it waits, so that no
requester has more than one there (R127; log 27). Requests of one step join in the order in which the step makes
them (log 54). -/
def RetainedStore.ask (x : RetainedStore) (r : StoreRequest) : RetainedStore :=
  { x with
    requests := x.requests ++ (if x.owes r.requester then [] else [r])
    waiting := x.waiting ++ (if x.owes r.requester then [r] else []) }

@[inherit_doc RetainedStore.ask]
def State.askStore (s : State) (r : StoreRequest) : State := { s with store := s.store.ask r }

/-- A requester's context has closed: what it had not yet asked is asked no more (R127; log 27). -/
def State.forgetAsks (s : State) (q : StoreRequester) : State :=
  { s with store := { s.store with waiting := s.store.waiting.filter (fun r => r.requester != q) } }

/-- A request is made of the key unit (R58, R85, R95). -/
def State.askKeyUnit (s : State) (r : KeyRequest) : State :=
  { s with keys := { s.keys with requests := s.keys.requests ++ [r] } }

/-- A new context or job number (log 32). -/
def State.nextContext (s : State) : State := { s with nextIdent := s.nextIdent + 1 }

/-- A free value has been used. -/
def State.useFree (s : State) : State := { s with freeCount := s.freeCount + 1 }

/-- The first element that satisfies a test, with the rest of the list. -/
def takeFirst {α : Type} (p : α → Bool) : List α → Option (α × List α)
  | [] => none
  | x :: xs =>
    if p x then some (x, xs) else (takeFirst p xs).map (fun r => (r.1, x :: r.2))

/-- The store has taken the head of its queue: what its requester has waiting joins the tail (R127;
log 27). -/
def RetainedStore.tookHead (x : RetainedStore) (r : StoreRequest) (rest : List StoreRequest) :
    RetainedStore :=
  let next := takeFirst (fun w => w.requester == r.requester) x.waiting
  { x with
    requests := rest ++ (next.map Prod.fst).toList
    waiting := (next.map Prod.snd).getD x.waiting }

/-! ### The pending queue of the report unit (R168) -/

/-- A waiting report that a posting merges with: of the same coalescing kind and link (R168). -/
def Report.matches (waiting posted : Report) : Bool :=
  posted.detail.coalesces && waiting.detail.kind == posted.detail.kind && waiting.link == posted.link

/-- A waiting report with a posting merged into it (R168). -/
def Report.merge (waiting posted : Report) : Report :=
  { waiting with detail := posted.detail, repeats := satAdd 255 waiting.repeats 1 }

/-- The first match merged, keeping its place; none when there is no match. -/
def mergeInto (posted : Report) : List Report → Option (List Report)
  | [] => none
  | r :: rs =>
    if r.matches posted then some (r.merge posted :: rs)
    else (mergeInto posted rs).map (fun rest => r :: rest)

/-- A posting coalesces, is appended, or is dropped (R168). -/
def ReportUnit.take (u : ReportUnit) (r : Report) : ReportUnit :=
  match mergeInto r u.queue with
  | some queue => { u with queue }
  | none =>
    if u.queue.length < 8 then { u with queue := u.queue ++ [{ r with repeats := 0 }] }
    else { u with lost := satAdd 65535 u.lost 1 }

/-! ### Internal master (R47) -/

/-- With nothing at the arbiter, the head of the read queue is presented, else the head of the write
queue (R47). -/
def InternalMaster.present (m : InternalMaster) : InternalMaster :=
  match m.presenting with
  | some _ => m
  | none =>
    if m.reads ≠ [] then { m with presenting := some .reads }
    else if m.writes ≠ [] then { m with presenting := some .writes }
    else m

/-- A write enters the write queue, and the FRAME_DONE it announces is posted (R37, R47). -/
def State.admitWrite (s : State) (w : InternalWrite) : State :=
  let s := { s with internal :=
    ({ s.internal with writes := s.internal.writes ++ [w] } : InternalMaster).present }
  match w.announce with
  | none => s
  | some r => s.post .linkUnit r.link r.detail

/-- A read enters the read queue. -/
def State.admitRead (s : State) (r : InternalRead) : State :=
  { s with internal :=
    ({ s.internal with reads := s.internal.reads ++ [r] } : InternalMaster).present }

/-- A block queues a write: 24 places, else it waits in order, the writes of one step in the order in which the
step makes them (R47; log 54). -/
def State.queueWrite (s : State) (w : InternalWrite) : State :=
  if s.internal.writes.length < 24 ∧ s.internal.waitingWrites = [] then s.admitWrite w
  else { s with internal :=
    { s.internal with waitingWrites := s.internal.waitingWrites ++ [w] } }

/-- A block queues a read: 8 places, else it waits in order (R47). -/
def State.queueRead (s : State) (r : InternalRead) : State :=
  if s.internal.reads.length < 8 ∧ s.internal.waitingReads = [] then s.admitRead r
  else { s with internal := { s.internal with waitingReads := s.internal.waitingReads ++ [r] } }

/-- A write place has freed: the oldest waiting write is queued (R47). -/
def State.admitWaitingWrite (s : State) : State :=
  match s.internal.waitingWrites with
  | [] => s
  | w :: rest => ({ s with internal := { s.internal with waitingWrites := rest } }).admitWrite w

/-- A read place has freed: the oldest waiting read is queued (R47). -/
def State.admitWaitingRead (s : State) : State :=
  match s.internal.waitingReads with
  | [] => s
  | r :: rest => ({ s with internal := { s.internal with waitingReads := rest } }).admitRead r

/-! ### Region map (R42) -/

/-- The descriptor area of a ring record. -/
def Ring.area (r : Ring) : Area := ⟨r.link, r.outbound, r.base, r.slots.length⟩

/-- The map that the blocks' own records describe: it comes into force when a command's result lands
(R42, R180; log 30). -/
def State.ownMap (s : State) : RegionMap :=
  { anchor := s.steering.map.anchor
    report := s.reports.ring
    areas := mapTable s.rings (fun r => r.map Ring.area)
    transmit := mapTable s.links (fun l => l.transmit)
    receive := mapTable s.links (fun l => l.receive)
    phantom := s.phantom }

/-- The byte ranges of the watched regions: base and size (R42). -/
def RegionMap.ranges (m : RegionMap) : List (Nat × Nat) :=
  [(m.anchor, 1024)] ++ m.report.toList.map (fun r => (r.base, 32 * r.entries)) ++
    m.areas.toList.reduceOption.map (fun a => (a.base, 16 * a.count)) ++
    m.transmit.toList.reduceOption.map (fun g => (g.base, g.size)) ++
    m.receive.toList.reduceOption.map (fun g => (g.base, g.size)) ++
    m.phantom.toList.map (fun b => (b, 512))

/-- Two ranges share a byte. -/
def rangesMeet (a b : Nat × Nat) : Bool := a.1 < b.1 + b.2 && b.1 < a.1 + a.2

/-- A range shares a byte with a watched region of the map (R20, R21, R52, R169). -/
def RegionMap.meets (m : RegionMap) (r : Nat × Nat) : Bool := m.ranges.any (rangesMeet r)

/-- An address lies in a range. -/
def inRange (r : Nat × Nat) (a : Nat) : Bool := r.1 ≤ a && a < r.1 + r.2

/-- The place of a beat address under the map (R42, R43). A descriptor area ends with its last slot, and WRAP is
not enforced: a controller that runs past the last slot reads what its address lies in, and no descriptor (R28). -/
def RegionMap.place (m : RegionMap) (a : Nat) : Place :=
  if inRange (m.anchor, 1024) a then .commandRing
  else
    match m.report.filter (fun r => inRange (r.base, 32 * r.entries) a) with
    | some r => .reportRing r.number r.base
    | none =>
    match allRings.findSome? (fun i => (m.areas[i].filter
        (fun r => inRange (r.base, 16 * r.count) a)).map (fun r => Place.descriptors i r)) with
    | some p => p
    | none =>
    match allLinks.find? (fun l => m.transmit[l].any (fun g => inRange (g.base, g.size) a)) with
    | some l => .transmitGuard l
    | none =>
    match allLinks.find? (fun l => m.receive[l].any (fun g => inRange (g.base, g.size) a)) with
    | some l => .receiveGuard l
    | none =>
    match m.phantom.filter (fun b => inRange (b, 512) a) with
    | some b => .phantom (Fin.ofNat 8 ((a - b) / 64)) b
    | none => .unwatched

/-! ### Commands and their results (R179, R180) -/

/-- The record the command unit has dispatched and its owner has not yet taken (R179). -/
def State.dispatched (s : State) : Option (EntryIndex × List Byte × Seq) :=
  match s.command.executing with
  | some ⟨entry, .dispatched record stamp⟩ => some (entry, record, stamp)
  | _ => none

/-- The result entry (R180): 0x03, the command code, the result code, the arguments as fetched but for
the bytes returned or scrubbed. -/
def resultEntry (record : List Byte) (code : ResultCode) (returned : List (Nat × List Byte)) :
    List Byte :=
  returned.foldl (fun r p => patch r p.1 p.2) (patch (patch record 0 [0x03#8]) 2 [code.byte])

/-- The address of a command entry (R175). -/
def State.entryAddress (s : State) (entry : EntryIndex) : Nat :=
  s.steering.map.anchor + 32 * entry.val

/-- The executing command is answered: its result entry is composed and queued as one 32-byte write
(R180). -/
def State.answer (s : State) (record : List Byte) (code : ResultCode)
    (returned : List (Nat × List Byte)) : State :=
  match s.command.executing with
  | none => s
  | some x =>
    ({ s with command := { s.command with executing := some { x with phase := .answered } } }).queueWrite
      ⟨s.entryAddress x.entry, resultEntry record code returned, .result x.entry, none⟩

/-- A link slot argument: above 7 is refused with BAD_ARGUMENT (R179). -/
def linkArg (b : Byte) : Option LinkSlot := if h : b.toNat < 8 then some ⟨b.toNat, h⟩ else none

/-- A KEK slot argument: above 3 is refused (R179). -/
def kekArg (b : Byte) : Option KekIndex := if h : b.toNat < 4 then some ⟨b.toNat, h⟩ else none

/-- Raw ticks since a stamp (R134). -/
def State.ticksSince (s : State) (stamp : Seq) : Nat := s.time.rawTick.toNat - stamp.toNat

end Sys2Proof.Machine
end

