-- ==== Sys2Proof/Machine/Cipher.lean ====
section
/-! DEFINITION. The cipher unit's queues as its requesters use them (R15, R16): making, withholding and
withdrawing requests, the keystream windows of the contexts, and the round-robin. -/

namespace Sys2Proof.Machine

/-- The cyclic order outbound 0 to 7, inbound 0 to 7, key unit (R15). -/
def Requester.index : Requester → Fin 17
  | .outbound l => ⟨l.val, by omega⟩
  | .inbound l => ⟨8 + l.val, by omega⟩
  | .keyUnit => 16

/-- The request the engine has taken and not yet returned. -/
def Engine.taken : Engine → Option CipherRequest
  | .free => none
  | .fetching q _ => some q
  | .busy q _ => some q

/-- The waiting requests of a requester. -/
def CipherUnit.queue (c : CipherUnit) (r : Requester) : List CipherRequest := c.queues[r.index]

/-- The queue of a requester replaced. -/
def CipherUnit.setQueue (c : CipherUnit) (r : Requester) (q : List CipherRequest) : CipherUnit :=
  { c with queues := c.queues.set r.index q }

/-- The requests of a requester not yet returned, one taken by the engine counted (R15). -/
def CipherUnit.outstanding (c : CipherUnit) (r : Requester) : List CipherRequest :=
  (c.engine.taken.filter (fun q => q.requester = r)).toList ++ c.queue r

/-- The payload blocks a context has outstanding (R61). -/
def CipherUnit.outstandingBlocks (c : CipherUnit) (r : Requester) (ident : Nat) : List Nat :=
  (c.outstanding r).filterMap (fun q =>
    match q.purpose with
    | .block i => if q.ident = ident then some i else none
    | .unwrap _ => none
    | .check => none)

/-- A request joins its queue (R15). -/
def CipherUnit.put (c : CipherUnit) (q : CipherRequest) : CipherUnit :=
  c.setQueue q.requester (c.queue q.requester ++ [q])

/-- The waiting requests of a context or job are removed (R16). -/
def CipherUnit.withdraw (c : CipherUnit) (r : Requester) (ident : Nat) : CipherUnit :=
  c.setQueue r ((c.queue r).filter (fun q => q.ident != ident))

/-- The wanted blocks are requested in order while fewer than four requests are outstanding; the rest
wait in the engine (R15, R61). -/
def CipherUnit.feed (c : CipherUnit) (make : Nat → CipherRequest) :
    List Nat → CipherUnit × List Nat
  | [] => (c, [])
  | b :: bs =>
    if (c.outstanding (make b).requester).length < 4 then (c.put (make b)).feed make bs
    else (c, b :: bs)

/-- The link's wire id as the counter block carries it (R7). -/
def Link.wire (x : Link) : Half := x.wireId.getD 0

/-- The request for a block of an outbound frame (R7, R60). -/
def outRequest (l : LinkSlot) (wire : Half) (c : OutContext) (ref : KeyRef) (index : Nat) :
    CipherRequest :=
  ⟨.outbound l, c.ident, .block index,
    counterBlock false wire (c.sequence.getD 0) (c.epoch.getD 0) index, .held ref⟩

/-- The request for a block of an inbound frame (R7, R88). -/
def inRequest (l : LinkSlot) (wire : Half) (c : InContext) (h : Header) (ref : KeyRef)
    (index : Nat) : CipherRequest :=
  ⟨.inbound l, c.ident, .block index, counterBlock true wire h.sequence h.epoch index, .held ref⟩

/-- The outbound context's wanted blocks are requested as its queue has room (R61). -/
def State.feedOut (s : State) (l : LinkSlot) : State :=
  match (s.link l).outContext with
  | none => s
  | some c =>
    match c.keyRef with
    | none => s
    | some ref =>
      let r := s.cipher.feed (outRequest l (s.link l).wire c ref) c.keystream.wanted
      ({ s with cipher := r.1 }).setOut l
        (some { c with keystream := { c.keystream with wanted := r.2 } })

/-- The inbound context's wanted blocks are requested as its queue has room (R90). -/
def State.feedIn (s : State) (l : LinkSlot) : State :=
  match (s.link l).inContext with
  | none => s
  | some c =>
    match c.keyRef, c.header with
    | some ref, some h =>
      let r := s.cipher.feed (inRequest l (s.link l).wire c h ref) c.keystream.wanted
      ({ s with cipher := r.1 }).setIn l
        (some { c with keystream := { c.keystream with wanted := r.2 } })
    | _, _ => s

/-- The outbound window moves to block `w` (R61). -/
def State.moveOutWindow (s : State) (l : LinkSlot) (w : Nat) : State :=
  match (s.link l).outContext with
  | none => s
  | some c =>
    if c.keystream.start = w then s
    else
      let k := c.keystream.moveTo w (lastBlock c.len)
        (s.cipher.outstandingBlocks (.outbound l) c.ident)
      (s.setOut l (some { c with keystream := k })).feedOut l

/-- The inbound window moves to block `w` (R90). -/
def State.moveInWindow (s : State) (l : LinkSlot) (w : Nat) : State :=
  match (s.link l).inContext with
  | none => s
  | some c =>
    match c.header with
    | none => s
    | some h =>
      if c.keystream.start = w then s
      else
        let k := c.keystream.moveTo w (lastBlock h.len)
          (s.cipher.outstandingBlocks (.inbound l) c.ident)
        (s.setIn l (some { c with keystream := k })).feedIn l

/-- An outbound context becomes key-lost (R68): its waiting requests are withdrawn, any gap fill ends,
and it stays lost with its first code. A fill read that still waits for a place in the read queue keeps waiting, is
made in its turn, and its data are discarded on arrival, as those of a read already queued are (log 55). -/
def State.loseOut (s : State) (l : LinkSlot) (code : PartCode) : State :=
  match (s.link l).outContext with
  | none => s
  | some c =>
    if c.lost.isSome then s
    else
      ({ s with cipher := s.cipher.withdraw (.outbound l) c.ident }).setOut l
        (some { c with lost := some code, fill := none, keystream := c.keystream.drop })

/-- An inbound context records a lost code (R93): its waiting requests are withdrawn and it stops
absorbing. A frame refused as REPLAY takes no notice into account, and one whose settlement has begun
is answered at the mark instead. -/
def State.loseIn (s : State) (l : LinkSlot) (code : PartCode) : State :=
  match (s.link l).inContext with
  | none => s
  | some c =>
    if c.lost.isSome ∨ c.early = some .replay ∨ c.phase ≠ .receiving then s
    else
      ({ s with cipher := s.cipher.withdraw (.inbound l) c.ident }).setIn l
        (some { c with lost := some code, keystream := c.keystream.drop })

/-- The lost code of a key reference: KEK_ABSENT for a KEK slot, KEY_LOST for a session key (R68,
R93). -/
def KeyRef.lostCode : KeyRef → PartCode
  | .kek _ _ => .kekAbsent
  | .session _ _ _ _ => .keyLost

/-- An outbound context closes: its waiting requests are withdrawn (R16, R71; log 27). A fill read in the read
queue, or waiting for a place there, is not, and its data are discarded on arrival (R48; log 55). -/
def State.closeOut (s : State) (l : LinkSlot) : State :=
  match (s.link l).outContext with
  | none => s
  | some c =>
    (({ s with cipher := s.cipher.withdraw (.outbound l) c.ident }).forgetAsks (.outbound l)).setOut l
      none

/-- An inbound context closes, and its holding buffers with it (R82; log 27). -/
def State.closeIn (s : State) (l : LinkSlot) : State :=
  match (s.link l).inContext with
  | none => s
  | some c =>
    (({ s with cipher := s.cipher.withdraw (.inbound l) c.ident }).forgetAsks (.inbound l)).setIn l
      none

/-- The requesters in the cyclic order after the pointer (R15). -/
def requestersAfter (pointer : Fin 17) : List (Fin 17) :=
  (List.range 17).map (fun i => pointer + 1 + Fin.ofNat 17 i)

/-- The requester the engine serves next: the first after the pointer with a waiting request (R15). -/
def CipherUnit.next? (c : CipherUnit) : Option (Fin 17 × CipherRequest) :=
  (requestersAfter c.pointer).findSome? (fun i =>
    match c.queues[i] with
    | [] => none
    | q :: _ => some (i, q))

end Sys2Proof.Machine
end

