-- ==== Sys2Proof/Machine/LinkRecords.lean ====
section
/-! DEFINITION. The link unit's shared operations: the causes that move a link between its states
(R18, R161), composing and queueing a replacement (R36, R37), and the transition to CLOSED (R25). -/

namespace Sys2Proof.Machine

/-! ### Causes of R18 raised by the key unit -/

/-- The link's key activates (R18, R116): AWAIT_KEY goes to KEYED, QUARANTINED goes to KEYED with E and A
cleared and LINK_RELEASED posted (R161); KEYED, CLOSING and CLOSED stay. -/
def State.linkActivated (s : State) (l : LinkSlot) : State :=
  let x := s.link l
  match x.state with
  | .awaitKey => s.setLink l { x with state := .keyed }
  | .quarantined =>
    (s.setLink l { x with state := .keyed, health := { x.health with e := 0, a := 0 } }).post
      .healthMonitor (some l) (.linkReleased .activation x.health.e x.health.a)
  | .closed | .keyed | .closing => s

/-- The link's key in force retired without a successor (R18, R106): KEYED and QUARANTINED go to
AWAIT_KEY; leaving quarantine so keeps E and A and posts LINK_RELEASED (R161). -/
def State.linkKeyLost (s : State) (l : LinkSlot) : State :=
  let x := s.link l
  match x.state with
  | .keyed => s.setLink l { x with state := .awaitKey }
  | .quarantined =>
    (s.setLink l { x with state := .awaitKey }).post .healthMonitor (some l)
      (.linkReleased .keyLoss x.health.e x.health.a)
  | .closed | .awaitKey | .closing => s

/-! ### Replacements (R36, R37) -/

/-- The final status (R36): the controller's when nonzero, else the part's code. -/
def finalStatus (controller : Byte) (code : PartCode) : Byte :=
  if controller = 0 then code.byte else controller

/-- The replacement of a slot is composed from its presented copy and the outcome and queued as one
16-byte write; FRAME_DONE is announced when the copy has RPT set (R37). The slot stays pending until
it lands. -/
def State.queueReplacement (s : State) (r : RingIndex) (i : Nat) (status : Byte)
    (o : FrameOutcome) : State :=
  match s.ring r with
  | none => s
  | some ring =>
    match (ring.slot i).copy with
    | none => s
    | some copy =>
      (s.setSlot r i { ring.slot i with pending := true, job := none }).queueWrite
        { address := ring.base + 16 * i
          bytes := replacementBytes copy o.cls status o.len o.epoch o.sequence
          use := .replacement r i
          announce := if descRpt copy then
            some ⟨.frameDone (!ring.outbound) i status, some ring.link, 0⟩ else none }

/-- The outcome of a slot that carried no frame (R37): an outbound replacement keeps the presented
length, an inbound one has length 0; epoch and sequence are 0. -/
def Ring.emptyOutcome (ring : Ring) (i : Nat) : FrameOutcome :=
  ⟨none, if ring.outbound then descLength ((ring.slot i).copy.getD []) else 0, 0, 0⟩

/-- The low 32 bits of a sequence (R37). -/
def lowSequence (q : Seq) : Nat := q.toNat % 2 ^ 32

/-- A replacement lands (R38): the pending flag is cleared, the held code and the copy dropped. -/
def State.replacementLanded (s : State) (r : RingIndex) (i : Nat) : State :=
  s.setSlot r i SlotRecord.clear

/-! ### The transition to CLOSED (R25) -/

/-- A CLOSING link has drained (R25): no context, no pending slot, no renewal job. -/
def State.drained (s : State) (l : LinkSlot) : Bool :=
  (s.link l).state == .closing && (s.link l).outContext.isNone && (s.link l).inContext.isNone &&
    s.pendingSlots (s.link l).outRing == 0 && s.pendingSlots (s.link l).inRing == 0 &&
    !(s.keys.jobs.any (fun j => j.link == l))

/-- Every slot of a ring loses its held code and presented copy (R25), or is cleared (R21, R23). -/
def Ring.cleared (ring : Ring) : Ring :=
  { ring with slots := ring.slots.map (fun _ => SlotRecord.clear) }

/-- Every slot of a link's ring is cleared. -/
def State.clearRing (s : State) (r : Option RingIndex) : State :=
  match r with
  | none => s
  | some r => match s.ring r with
    | none => s
    | some ring => s.setRing r (some ring.cleared)

/-- The health record's running fields cleared, its parameters kept (R152). -/
def Health.restart (h : Health) : Health :=
  { h with e := 0, a := 0, cleanRun := 0, errored := false, silent := false, timer := 0,
           quiet := 0, due := false }

/-- The link's key slots are emptied and zeroized without reports or notices (R25, R106). -/
def State.emptyKeysOf (s : State) (l : LinkSlot) : State :=
  s.mapKeys (fun k => if k.link = l then KeySlot.empty else k)

/-- The per-session fields of a link record as the transition to CLOSED leaves them (R17, R25). -/
def Link.closed (x : Link) : Link :=
  { x with state := .closed, filter := 0, lastKeepalive := none, openStamp := none,
           lastTransmit := none, lastArrival := none, idle := 0, drainStart := none,
           health := x.health.restart }

/-- A waiting CLOSE_LINK of the link is answered (R24, R181). -/
def State.answerClose (s : State) (l : LinkSlot) : State :=
  match s.command.executing with
  | some ⟨_, .closing record m⟩ => if m = l then s.answer record .ok [] else s
  | _ => s

/-- What the monitor has not yet taken of the session that ends is dropped with it: no status of a session
outlasts it (R152, R153; log 3). -/
def State.dropNotices (s : State) (l : LinkSlot) : State :=
  { s with mail := { s.mail with
      statuses := s.mail.statuses.filter (fun n => n.link != l)
      noBuffers := s.mail.noBuffers.filter (· != l)
      arrivals := s.mail.arrivals.filter (· != l)
      quarantines := s.mail.quarantines.filter (fun q => q.1 != l) } }

/-- The transition of a link to CLOSED (R25). -/
def State.closeLink (s : State) (l : LinkSlot) : State :=
  let x := s.link l
  (((((((s.emptyKeysOf l).setLink l x.closed).clearRing x.outRing).clearRing x.inRing).dropNotices
    l).post .linkUnit (some l) .linkClosed).answerClose l)

/-- A link that has drained is closed at once (R25). -/
def State.closeIfDrained (s : State) (l : LinkSlot) : State :=
  if s.drained l then s.closeLink l else s

/-- Every link that has drained is closed (R25). -/
def State.closeDrained (s : State) : State := allLinks.foldl State.closeIfDrained s

end Sys2Proof.Machine
end

