-- ==== Sys2Proof/Machine/KeyUnit.lean ====
section
/-! DEFINITION. The key unit's operations (R104 to R123): finding keys, retirement, activation, the
tests of a boundary, the sequence limits and the inbound requests. -/

namespace Sys2Proof.Machine

/-! ### Finding keys -/

/-- ACTIVE and OVERDUE: the key in force (R57). -/
def KeyState.isCurrent : KeyState → Bool
  | .active | .overdue => true
  | .empty | .pending | .draining => false

/-- The key slot of a link whose state satisfies a test (not EMPTY). -/
def State.findKey (s : State) (l : LinkSlot) (p : KeyState → Bool) : Option KeyIndex :=
  allKeySlots.find? (fun k =>
    (s.key k).state != .empty && (s.key k).link == l && p (s.key k).state)

/-- The link's ACTIVE or OVERDUE key. -/
def State.currentKey (s : State) (l : LinkSlot) : Option KeyIndex := s.findKey l KeyState.isCurrent
/-- The link's PENDING key. -/
def State.pendingKey (s : State) (l : LinkSlot) : Option KeyIndex := s.findKey l (· == .pending)
/-- The link's DRAINING key. -/
def State.drainingKey (s : State) (l : LinkSlot) : Option KeyIndex := s.findKey l (· == .draining)

/-- The reference that names a key slot's present filling (R104). -/
def KeySlot.ref (x : KeySlot) (k : KeyIndex) : KeyRef := .session k x.link x.epoch x.installation

/-- A key slot holds the installation a reference names (R16, R104). -/
def State.holds (s : State) (k : KeyIndex) (l : LinkSlot) (epoch : Half)
    (installation : BitVec 64) : Bool :=
  (s.key k).state != .empty && (s.key k).link == l && (s.key k).epoch == epoch &&
    (s.key k).installation == installation

/-! ### Retirement (R106) -/

/-- The outbound engine takes a retirement notice (R68). -/
def State.noticeOut (s : State) (l : LinkSlot) (ref : KeyRef) : State :=
  match (s.link l).outContext with
  | none => s
  | some c => if c.keyRef = some ref then s.loseOut l .keyLost else s

/-- The inbound engine takes a retirement notice (R93). -/
def State.noticeIn (s : State) (l : LinkSlot) (ref : KeyRef) : State :=
  match (s.link l).inContext with
  | none => s
  | some c => if c.keyRef = some ref then s.loseIn l .keyLost else s

/-- A slot is emptied, both engines receive the notice, and the report is posted (R105, R106): the
retirement without its succession. -/
def State.retireSlot (s : State) (k : KeyIndex) (d : ReportDetail) : State :=
  let x := s.key k
  (((s.setKey k KeySlot.empty).noticeOut x.link (x.ref k)).noticeIn x.link (x.ref k)).post
    .keyUnit (some x.link) d

/-! ### Activation (R113) -/

/-- Step 1: a DRAINING key of the link is cut. -/
def State.cutDraining (s : State) (l : LinkSlot) : State :=
  match s.drainingKey l with
  | none => s
  | some k => s.retireSlot k (.drainCut (s.key k).epoch ((s.key k).drain.getD 0))

/-- Step 2: the key in force is superseded: it drains for the overlap, or retires when that is 0. -/
def State.supersede (s : State) (l : LinkSlot) (overlap : Nat) : State :=
  match s.currentKey l with
  | none => s
  | some k =>
    if overlap = 0 then
      s.retireSlot k (.keyRetired (s.key k).epoch (s.key k).state .superseded)
    else s.setKey k { s.key k with state := .draining, drain := some overlap }

/-- Activation of the link's PENDING key in slot k (R113). -/
def State.activate (s : State) (l : LinkSlot) (k : KeyIndex) (cause : ActivationCause) : State :=
  let x := s.key k
  let superseded := ((s.currentKey l).map (fun c => (s.key c).epoch)).getD 0
  ((((s.cutDraining l).supersede l x.overlap).setKey k
    { x with state := .active, age := some 0 }).linkActivated l).post
      .keyUnit (some l) (.keyActivated x.epoch cause superseded)

/-- Retirement of a key with its succession (R106): after the key in force the PENDING key activates by
expiry, and without one the link is asked to AWAIT_KEY. -/
def State.retire (s : State) (k : KeyIndex) (cause : RetireCause) : State :=
  let x := s.key k
  let s := s.retireSlot k (.keyRetired x.epoch x.state cause)
  if x.state.isCurrent then
    match s.pendingKey x.link with
    | some p => s.activate x.link p .expiry
    | none => s.linkKeyLost x.link
  else s

/-! ### The tests of a boundary (R117 to R120) -/

/-- Ages of keys in force rise and drains fall (R117, R119). -/
def KeySlot.pass (x : KeySlot) : KeySlot :=
  match x.state with
  | .active | .overdue => { x with age := some (x.age.getD 0 + 1) }
  | .draining => { x with drain := some (x.drain.getD 0 - 1) }
  | .empty | .pending => x

/-- R120, 1: the link's keys age and drain. -/
def State.passBoundary (s : State) (l : LinkSlot) : State :=
  s.mapKeys (fun x => if x.link = l then x.pass else x)

/-- R120, 2: a DRAINING key whose drain remaining is 0 retires (R119). -/
def State.drainEndTest (s : State) (l : LinkSlot) : State :=
  match s.drainingKey l with
  | none => s
  | some k => if (s.key k).drain.getD 0 = 0 then s.retire k .drainEnd else s

/-- R120, 3: timed activation (R114): an activation time, time valid, and seconds at least that time. -/
def State.timedActivationTest (s : State) (l : LinkSlot) : State :=
  match s.pendingKey l with
  | none => s
  | some k =>
    match (s.key k).activation with
    | none => s
    | some t =>
      if s.time.valid ∧ t.toNat ≤ s.time.seconds.toNat then s.activate l k .time else s

/-- R120, 4: an ACTIVE key whose age has reached its lifetime becomes OVERDUE (R118). -/
def State.overdueTest (s : State) (l : LinkSlot) : State :=
  match s.currentKey l with
  | none => s
  | some k =>
    if (s.key k).state = .active ∧ (s.key k).lifetime ≤ (s.key k).age.getD 0 then
      (s.setKey k { s.key k with state := .overdue }).post .keyUnit (some l)
        (.keyOverdue (s.key k).epoch ((s.key k).age.getD 0))
    else s

/-- R120, 4: an OVERDUE key whose age has reached lifetime plus overdue grace retires (R118). -/
def State.expiryTest (s : State) (l : LinkSlot) : State :=
  match s.currentKey l with
  | none => s
  | some k =>
    if (s.key k).state = .overdue ∧
        (s.key k).lifetime + (s.link l).grace ≤ (s.key k).age.getD 0 then
      s.retire k .expiry
    else s

/-- The age cause of R117: floor(lifetime × 7 / 8). -/
def KeySlot.dueByAge (x : KeySlot) : Bool := x.lifetime * 7 / 8 ≤ x.age.getD 0

/-- The sequence cause of R117: next sequence at least 2^47. -/
def KeySlot.dueBySequence (x : KeySlot) : Bool := 2 ^ 47 ≤ x.nextSequence.toNat

/-- RENEWAL_DUE is posted and the flag set (R117). -/
def State.reportDue (s : State) (l : LinkSlot) (k : KeyIndex) (bySequence : Bool) : State :=
  (s.setKey k { s.key k with dueReported := true }).post .keyUnit (some l)
    (.renewalDue (s.key k).epoch bySequence ((s.key k).age.getD 0))

/-- R120, 5: the renewal-due test for either cause (R117). Which cause the report names when both hold
is a free value (log 15). -/
def State.dueTest (s : State) (l : LinkSlot) : State :=
  match s.currentKey l with
  | none => s
  | some k =>
    let x := s.key k
    if (s.pendingKey l).isSome ∨ x.dueReported then s
    else if x.dueByAge ∧ x.dueBySequence then
      (s.reportDue l k (Config.dueNamesSequence s.freeCount)).useFree
    else if x.dueByAge then s.reportDue l k false
    else if x.dueBySequence then s.reportDue l k true
    else s

/-- The key unit's step for one link at one boundary, in the order of R120. -/
def State.keyBoundary (s : State) (l : LinkSlot) : State :=
  (((((s.passBoundary l).drainEndTest l).timedActivationTest l).overdueTest l).expiryTest l).dueTest l

/-! ### Sequence limits (R121) -/

/-- After a sequence request answered under key k: the renewal-due test for the sequence cause alone
when the next sequence has reached 2^47 (R117, R121). -/
def State.sequenceDueTest (s : State) (l : LinkSlot) (k : KeyIndex) : State :=
  if (s.key k).dueBySequence ∧ (s.pendingKey l).isNone ∧ (s.key k).dueReported = false then
    s.reportDue l k true
  else s

/-- After the number 2^48 − 1 has been released the key retires (R121). -/
def State.sequenceLimitTest (s : State) (k : KeyIndex) (released : Seq) : State :=
  if released.toNat = 2 ^ 48 - 1 then s.retire k .sequenceLimit else s

/-! ### Inbound requests (R85, R87, R95) -/

/-- What the key unit or the store answers at checks 6 and 7 (R85, R86, R87): a refusal without a key, a
key whose check failed with REPLAY, or a key selected. -/
inductive Selection where
  | refused (code : PartCode)
  | replayed (ref : KeyRef)
  | selected (ref : KeyRef)
  deriving DecidableEq, Repr

/-- A PENDING key may be used now (R85): time not valid, IMMEDIATE, or within its early grace. -/
def KeySlot.early (x : KeySlot) (t : TimeBase) : Bool :=
  match x.activation with
  | none => true
  | some a => !t.valid || a.toNat - x.earlyGrace ≤ t.seconds.toNat

/-- Key selection by epoch with the replay check in the same answer (R85, R87). -/
def State.selectKey (s : State) (l : LinkSlot) (epoch : Half) (q : Seq) : Selection :=
  match allKeySlots.find? (fun k =>
      (s.key k).state != .empty && (s.key k).link == l && (s.key k).epoch == epoch) with
  | none => .refused .noKey
  | some k =>
    let x := s.key k
    if x.state = .pending ∧ x.early s.time = false then .refused .earlyEpoch
    else if x.window.passes q then .selected (x.ref k)
    else .replayed (x.ref k)

/-- The settle request (R95): gone, or the key activated when PENDING and q marked. -/
def State.settleKey (s : State) (k : KeyIndex) (l : LinkSlot) (epoch : Half)
    (installation : BitVec 64) (q : Seq) : State × Bool :=
  if s.holds k l epoch installation then
    let s := if (s.key k).state = .pending then s.activate l k .receive else s
    (s.setKey k { s.key k with window := (s.key k).window.mark q }, true)
  else (s, false)

end Sys2Proof.Machine
end

