-- ==== Sys2Proof/Machine/Renewal.lean ====
section
/-! DEFINITION. The renewal job (R101, R102, R107 to R112): the handoff of a verified renewal, the start
of a job, its way through the store and the cipher unit, its final step and its end. -/

namespace Sys2Proof.Machine

/-- What the engine gives the link unit of a settled frame (R98): class and length of the parsed header,
the epoch of the key reference, the low sequence; without a header all 0. -/
def InContext.frame (c : InContext) : FrameOutcome :=
  match c.header with
  | none => ⟨none, 0, 0, 0⟩
  | some h =>
    ⟨some h.cls, h.len,
      match c.keyRef with
      | some (.session _ _ epoch _) => epoch
      | some (.kek _ _) => 0
      | none => 0,
      lowSequence h.sequence⟩

/-! ### Handoff (R101) -/

/-- The link's renewal job, if it has one. -/
def State.jobOf (s : State) (l : LinkSlot) : Option Job := s.keys.jobs.find? (fun j => j.link == l)

/-- The slot's record keeps what its replacement will carry while the job runs (R101, R102). -/
def State.keepOutcome (s : State) (l : LinkSlot) (c : InContext) : State :=
  match (s.link l).inRing with
  | none => s
  | some r => s.setSlot r c.slot { s.slot r c.slot with job := some c.frame }

/-- A job joins the queue (R107). -/
def State.enqueueJob (s : State) (j : Job) : State :=
  { s with keys := { s.keys with jobs := s.keys.jobs ++ [j] } }

/-- A verified RENEWAL frame is handed to the key unit and its context closes; while the link's previous
job is still there the handoff waits (R101). -/
def State.handOver (s : State) (l : LinkSlot) : State :=
  match (s.link l).inContext with
  | none => s
  | some c =>
    match c.header, c.renewal with
    | some h, some payload =>
      if (s.jobOf l).isSome then s.setIn l (some { c with phase := .awaitingHandoff })
      else
        (((s.keepOutcome l c).enqueueJob
          { ident := s.nextIdent, link := l, payload, epoch := h.epoch, sequence := h.sequence,
            slot := c.slot, step := .queued, half1 := none, half2 := none,
            candidate := none }).nextContext).closeIn l
    | _, _ => s

/-! ### The end of a job (R112) -/

/-- The statuses that RENEWAL_REFUSED reports (R112). -/
def PartCode.refusesRenewal : PartCode → Bool
  | .staleEpoch | .kekAbsent | .checkMismatch | .badRenewal => true
  | .ok | .badDescriptor | .tooLong | .badClass | .linkClosed | .noKey | .keyLost | .misdirected
  | .earlyEpoch | .replay | .quarantined | .tagMismatch | .streamFault | .tooShort | .filtered
  | .absorbedTime | .absorbedRenewal | .renewalRepeat => false

/-- The job's status settles the waiting ring slot, unless the drain limit has already settled it
(R26, R102). -/
def State.settleJob (s : State) (j : Job) (status : PartCode) : State :=
  match (s.link j.link).inRing with
  | none => s
  | some r =>
    match (s.slot r j.slot).job with
    | none => s
    | some o =>
      (s.notifyStatus ⟨j.link, true, status.byte, false⟩).queueReplacement r j.slot status.byte o

/-- The job's entry leaves the queue, its record with it, and its cipher requests are withdrawn (R107,
R112). -/
def State.removeJob (s : State) (j : Job) : State :=
  { s with
    keys := { s.keys with jobs := s.keys.jobs.filter (fun i => i.ident != j.ident) }
    cipher := s.cipher.withdraw .keyUnit j.ident }

/-- A job ends (R112), and a renewal of its link that waited for it is handed over (R101). -/
def State.endJob (s : State) (j : Job) (status : PartCode) : State :=
  let s := s.settleJob j status
  let s := if status.refusesRenewal then
      s.post .keyUnit (some j.link) (.renewalRefused (renewalEpoch j.payload) status)
    else s
  let s := s.removeJob j
  match (s.link j.link).inContext with
  | none => s
  | some c => if c.phase = .awaitingHandoff then s.handOver j.link else s

/-! ### The start of a job (R108) -/

/-- The epoch check of R108: with a key in force its successor, else nonzero and not the DRAINING key's
epoch. -/
def State.epochAcceptable (s : State) (l : LinkSlot) (e : Half) : Bool :=
  match s.currentKey l with
  | some k => epochSuccessor (s.key k).epoch == some e
  | none => e != 0 && !((s.drainingKey l).any (fun k => (s.key k).epoch == e))

/-- A job's record replaced. -/
def State.setJob (s : State) (j : Job) : State :=
  { s with keys := { s.keys with
      jobs := s.keys.jobs.map (fun i => if i.ident = j.ident then j else i) } }

/-- The head job starts, when it has not yet (R107, R108): the epoch check, the slot number, then the
question to the store. A job refused here ends and the next one starts. -/
def State.startJobs : Nat → State → State
  | 0, s => s
  | n + 1, s =>
    match s.keys.jobs with
    | [] => s
    | j :: _ =>
      if j.step = .queued then
        if s.epochAcceptable j.link (renewalEpoch j.payload) = false then
          startJobs n (s.endJob j .staleEpoch)
        else
          match kekArg (renewalKek j.payload) with
          | none => startJobs n (s.endJob j .kekAbsent)
          | some k => (s.setJob { j with step := .askedKek }).askStore (.kekCheck j.ident k)
      else s

/-- More starts than the eight jobs of the queue and the eight renewals that may wait behind them. -/
def jobStarts : Nat := 17

/-- A job ends and the next one starts (R112). -/
def State.finishJob (s : State) (j : Job) (status : PartCode) : State :=
  State.startJobs jobStarts (s.endJob j status)

/-- The running job, when it is the one an answer names and stands at the given step; other answers
are discarded (R16). -/
def State.runningJob (s : State) (ident : Nat) (step : JobStep) : Option Job :=
  match s.keys.jobs with
  | [] => none
  | j :: _ => if j.ident = ident ∧ j.step = step then some j else none

/-! ### Transforms (R109) -/

/-- The request for an unwrap block, under the KEK that the slot holds after `n` erasures (R13, R109). -/
def Job.unwrapRequest (j : Job) (k : KekIndex) (n : Nat) (wire : Half) (half : Nat) : CipherRequest :=
  ⟨.keyUnit, j.ident, .unwrap half, unwrapBlock k.val wire (renewalEpoch j.payload) half,
    .held (.kek k n)⟩

/-- The store has answered the question of R108; the lifetime is the last check, and then the unwrap
blocks are requested (R108, R109). -/
def State.kekAnswered (s : State) (ident : Nat) (k : KekIndex) (usable : Bool) : State :=
  match s.runningJob ident .askedKek with
  | none => s
  | some j =>
    if usable = false then s.finishJob j .kekAbsent
    else if renewalLifetime j.payload < 60 ∨ 31536000 < renewalLifetime j.payload then
      s.finishJob j .badRenewal
    else
      let s := s.setJob { j with step := .unwrapping }
      let wire := (s.link j.link).wire
      let ask := j.unwrapRequest k (s.erasures k) wire
      { s with cipher := (s.cipher.put (ask 1)).put (ask 2) }

/-- An unwrap result returns; with both the candidate is formed and its check block requested
(R109). -/
def State.unwrapReturned (s : State) (ident half : Nat) (output : List Byte) : State :=
  match s.runningJob ident .unwrapping with
  | none => s
  | some j =>
    let key := unwrapHalf j.payload output half
    let j := if half = 1 then { j with half1 := some key } else { j with half2 := some key }
    match j.half1, j.half2 with
    | some a, some b =>
      let s := s.setJob { j with step := .checking, candidate := some (a ++ b) }
      { s with cipher := s.cipher.put ⟨.keyUnit, ident, .check, checkBlock, .candidate⟩ }
    | _, _ => s.setJob j

/-- A key-gone result for an unwrap request (R109). -/
def State.unwrapGone (s : State) (ident : Nat) : State :=
  match s.runningJob ident .unwrapping with
  | none => s
  | some j => s.finishJob j .kekAbsent

/-! ### The final step (R110, R111) -/

/-- A new value of the installation counter; past its last value it is free (R104; log 14). -/
def State.nextInstallation (s : State) : State :=
  if s.keys.installations = BitVec.allOnes 64 then
    ({ s with keys := { s.keys with
        installations := Config.installationAfterWrap s.freeCount } }).useFree
  else { s with keys := { s.keys with installations := s.keys.installations + 1 } }

/-- What an installation or a replacement writes into the slot (R110). -/
def Job.filling (j : Job) (candidate : List Byte) (installation : BitVec 64) : KeySlot :=
  { state := .pending
    link := j.link
    epoch := renewalEpoch j.payload
    installation
    key := candidate
    check := renewalCheck j.payload
    activation := if renewalImmediate j.payload then none else some (renewalActivation j.payload)
    lifetime := renewalLifetime j.payload
    overlap := renewalOverlap j.payload
    earlyGrace := renewalEarlyGrace j.payload
    age := none
    drain := none
    nextSequence := 1
    window := ReplayWindow.fresh
    dueReported := false }

/-- The slot is written, and its report posted (R110). -/
def State.fillKey (s : State) (j : Job) (candidate : List Byte) (k : KeyIndex)
    (report : KeySlot → ReportDetail) : State :=
  let s := s.nextInstallation
  let x := j.filling candidate s.keys.installations
  (s.setKey k x).post .keyUnit (some j.link) (report x)

/-- With IMMEDIATE the key activates in the same step (R111). -/
def State.activateImmediate (s : State) (j : Job) (k : KeyIndex) : State :=
  if renewalImmediate j.payload then s.activate j.link k .immediate else s

/-- A PENDING key is replaced in its slot: the inbound engine hears of the old installation (R110). -/
def State.replaceKey (s : State) (j : Job) (candidate : List Byte) (k : KeyIndex) : State :=
  let old := (s.key k).ref k
  ((s.fillKey j candidate k (fun x => .keyReplaced x.epoch x.check)).noticeIn j.link
    old).activateImmediate j k

/-- A key is installed in an EMPTY slot (R110). -/
def State.installKey (s : State) (j : Job) (candidate : List Byte) (k : KeyIndex) : State :=
  (s.fillKey j candidate k (fun x => .keyInstalled x.epoch x.check x.activation)).activateImmediate
    j k

/-- The lowest-numbered EMPTY slot (R105). -/
def State.emptyKey (s : State) : Option KeyIndex :=
  allKeySlots.find? (fun k => (s.key k).state == .empty)

/-- The final step (R110). A table without an EMPTY slot does not occur (R105; log 43). -/
def State.finalStep (s : State) (j : Job) (candidate : List Byte) : State :=
  if s.epochAcceptable j.link (renewalEpoch j.payload) = false then s.finishJob j .staleEpoch
  else
    match s.pendingKey j.link with
    | some k =>
      if (s.key k).epoch = renewalEpoch j.payload ∧ (s.key k).check = renewalCheck j.payload then
        s.finishJob j .renewalRepeat
      else (s.replaceKey j candidate k).finishJob j .absorbedRenewal
    | none =>
      match s.emptyKey with
      | some k => (s.installKey j candidate k).finishJob j .absorbedRenewal
      | none => s.finishJob j .staleEpoch

/-- The check result returns (R109). -/
def State.checkReturned (s : State) (ident : Nat) (output : List Byte) : State :=
  match s.runningJob ident .checking with
  | none => s
  | some j =>
    if checkOf output = renewalCheck j.payload then s.finalStep j (j.candidate.getD [])
    else s.finishJob j .checkMismatch

end Sys2Proof.Machine
end

