-- ==== Sys2Proof/Machine/Inbound.lean ====
section
/-! DEFINITION. The inbound engine (R81 to R103): opening contexts, taking received bytes, the header
checks, deciphering and the tag, settlement, confirmation and the keepalive filter. -/

namespace Sys2Proof.Machine

/-! ### Opening (R33 case 7, R81) -/

/-- A context with nothing received (R81). -/
def InContext.fresh (ident slot pointer capacity : Nat) : InContext :=
  { ident, slot, pointer, capacity, next := 0, headerBytes := [], header := none, early := none,
    asking := false, keyRef := none, tag := Tag.start, trailer := [], verdict := none,
    keystream := Keystream.none, streamFault := false, lost := none, renewal := none,
    beacon := none, keepalive := none, phase := .receiving, outcome := none }

/-- A context opens on the descriptor d of slot i, presented as ready, in whatever state the link is (R33, case 7,
R81). -/
def State.openInbound (s : State) (l : LinkSlot) (i : Nat) (d : List Byte) : State :=
  (s.setIn l (some (InContext.fresh s.nextIdent i (descPointer d) (descLength d)))).nextContext

/-! ### What a context may do -/

/-- The frame has a usable key (R88): a key reference, no early status but QUARANTINED, no lost code, no
stream fault. -/
def InContext.usable (c : InContext) : Bool :=
  c.keyRef.isSome && (c.early == none || c.early == some .quarantined) && c.lost.isNone &&
    !c.streamFault

/-- The last trailer byte has been taken and the tag it is compared with is not complete (R91). -/
def InContext.awaitsTag (c : InContext) : Bool :=
  c.usable && c.trailer.length == 8 && c.verdict.isNone

/-- The write portion is held (R84, R91): for the key answer, or for the tag. -/
def InContext.holds (c : InContext) : Bool :=
  c.phase == .receiving && (c.asking || c.awaitsTag)

/-- The comparison of R91, once the eight trailer bytes and the tag are there. -/
def InContext.compare (c : InContext) : InContext :=
  if c.awaitsTag then { c with verdict := c.tag.value.map (fun v => tagBytes v == c.trailer) } else c

/-! ### Stream faults (R83, R92) -/

/-- The stream fault flag is set: waiting cipher requests are withdrawn and no more are made (R83). -/
def State.streamFaultIn (s : State) (l : LinkSlot) : State :=
  match (s.link l).inContext with
  | none => s
  | some c =>
    ({ s with cipher := s.cipher.withdraw (.inbound l) c.ident }).setIn l
      (some { c with streamFault := true, keystream := c.keystream.drop })

/-! ### Header checks (R84 to R88) -/

/-- The length a class must have (R84, check 5). -/
def classLength : FrameClass → Option Nat
  | .keepalive => some 8
  | .beacon => some 8
  | .renewal => some 56
  | .data => none
  | .report => none

/-- Checks 1 to 5: an early status, or the class (R84). -/
def headerChecks (x : Link) (capacity : Nat) (h : Header) : PartCode ⊕ FrameClass :=
  if h.format ≠ 0x01 then .inl .badClass
  else if x.wireId ≠ some h.wireId then .inl .misdirected
  else
    match FrameClass.ofCode? h.cls with
    | none => .inl .badClass
    | some cls =>
      if x.maxPayload < h.len ∨ capacity < extentLength h.len then .inl .tooLong
      else if (classLength cls).any (· ≠ h.len) then
        .inl (if cls = .renewal then .badRenewal else .badClass)
      else .inr cls

/-- The holding buffers, created when checks 1 to 5 have passed (R89, R99). -/
def InContext.withBuffers (c : InContext) : FrameClass → InContext
  | .renewal => { c with renewal := some (zeroes 56) }
  | .beacon => { c with beacon := some (zeroes 8) }
  | .keepalive => { c with keepalive := some (zeroes 8) }
  | .data => c
  | .report => c

/-- Check 6 begins (R85, R86): the exchange with the key unit, or for epoch 0 with the retained store,
and no exchange where no key can be. -/
def State.askSelection (s : State) (l : LinkSlot) (c : InContext) (h : Header) (cls : FrameClass) :
    State :=
  let c := c.withBuffers cls
  if h.epoch ≠ 0 then
    (s.setIn l (some { c with asking := true })).askKeyUnit (.selection l c.ident h.epoch h.sequence)
  else if cls ≠ .renewal ∧ cls ≠ .beacon then s.setIn l (some { c with early := some .noKey })
  else
    match (s.link l).kek with
    | none => s.setIn l (some { c with early := some .kekAbsent })
    | some k =>
      (s.setIn l (some { c with asking := true })).askStore (.selection l c.ident k h.sequence)

/-- The byte at offset 15 has been taken: the header is parsed and checked (R84). -/
def State.parseIn (s : State) (l : LinkSlot) (c : InContext) : State :=
  let h := parseHeader c.headerBytes
  let c := { c with header := some h }
  match headerChecks (s.link l) c.capacity h with
  | .inl code => s.setIn l (some { c with early := some code })
  | .inr cls => s.askSelection l c h cls

/-- Check 8 (R88). -/
def quarantineRefuses (x : Link) (cls : Byte) : Bool :=
  x.state == .quarantined && (cls == FrameClass.data.code || cls == FrameClass.report.code)

/-- The answer of checks 6 and 7 arrives (R84 to R88). Without it, and for a context that has closed,
nothing happens (R82). With a usable key block 0 is requested, and with no early status the keystream
window. -/
def State.selectionAnswered (s : State) (l : LinkSlot) (ident : Nat) (a : Selection) : State :=
  match (s.link l).inContext with
  | none => s
  | some c =>
    if c.ident = ident ∧ c.asking then
      let c := { c with asking := false }
      match a with
      | .refused code => s.setIn l (some { c with early := some code })
      | .replayed ref => s.setIn l (some { c with keyRef := some ref, early := some .replay })
      | .selected ref =>
        let c := { c with keyRef := some ref, keystream := ⟨0, [], [0]⟩ }
        match c.header with
        | none => s
        | some h =>
          if quarantineRefuses (s.link l) h.cls then
            (s.setIn l (some { c with early := some .quarantined })).feedIn l
          else if h.len = 0 then (s.setIn l (some c)).feedIn l
          else (s.setIn l (some c)).moveInWindow l 1
    else s

/-! ### Taking bytes (R83, R89 to R92) -/

/-- A byte of a holding buffer. -/
def holdByte (buffer : Option (List Byte)) (offset : Nat) (b : Byte) : Option (List Byte) :=
  buffer.map (fun bs => bs.set offset b)

/-- A payload byte's ciphertext is absorbed, the last one finishing the tag (R91). -/
def InContext.absorb (c : InContext) (len offset : Nat) (b : Byte) : InContext :=
  let tag := c.tag.absorb b
  { c with next := c.next + 1, tag := if offset + 1 = len then tag.finish else tag }

/-- A payload byte taken in order, and the byte stored for it (R89 to R91); none while its keystream or
the tag keys are awaited (R90). -/
def State.takePayload (s : State) (l : LinkSlot) (c : InContext) (h : Header) (offset : Nat)
    (b : Byte) : Option (State × Byte) :=
  if c.usable = false then some (s.setIn l (some { c with next := c.next + 1 }), 0)
  else if c.tag.keys = none then none
  else if c.early = some .quarantined then
    some (s.setIn l (some (c.absorb h.len offset b)), 0)
  else
    match keystreamByte c.keystream.held offset with
    | none => none
    | some k =>
      let plain := b ^^^ k
      let c := { c.absorb h.len offset b with
        renewal := holdByte c.renewal offset plain
        beacon := holdByte c.beacon offset plain
        keepalive := holdByte c.keepalive offset plain }
      let s := s.setIn l (some c)
      let s := if offset + 1 < h.len then s.moveInWindow l (blockOf (offset + 1)) else s
      some (s, if c.renewal.isSome then 0 else plain)

/-- A trailer byte taken in order (R89, R91): stored as written and kept, but zero in a TOO_LONG frame
whose extent does not fit the capacity (R92; log 24). In quarantine it waits for block 0 (R90). -/
def State.takeTrailer (s : State) (l : LinkSlot) (c : InContext) (h : Header) (b : Byte) :
    Option (State × Byte) :=
  if c.usable ∧ c.early = some .quarantined ∧ c.tag.keys = none then none
  else
    let stored := if c.early = some .tooLong ∧ c.capacity < extentLength h.len then 0 else b
    let c := { c with next := c.next + 1, trailer := c.trailer ++ [b] }
    some (s.setIn l (some c.compare), stored)

/-- A header byte taken in order is stored as written; the sixteenth starts the checks (R83, R84). -/
def State.takeHeader (s : State) (l : LinkSlot) (c : InContext) (x : Nat) (b : Byte) : State :=
  let c := { c with next := x + 1, headerBytes := c.headerBytes ++ [b] }
  if x = 15 then s.parseIn l c else s.setIn l (some c)

/-- The engine takes the byte at offset x, and answers what is stored for it (R83); none while the byte
is held. -/
def State.takeByte (s : State) (l : LinkSlot) (c : InContext) (x : Nat) (b : Byte) :
    Option (State × Byte) :=
  if c.holds then none
  else if c.streamFault then some (s, 0)
  else if x ≠ c.next then some (s.streamFaultIn l, 0)
  else
    match c.header with
    | none => some (s.takeHeader l c x b, b)
    | some h =>
      if x < 16 + h.len then s.takePayload l c h (x - 16) b
      else if x < extentLength h.len then s.takeTrailer l c h b
      else some (s.streamFaultIn l, 0)

/-! ### A write portion in a receive guard (R50, R83) -/

/-- The context that takes the byte at an address: the link's open one, until its settlement begins, for
addresses inside its buffer (R50, R83, R94). -/
def State.taker (s : State) (l : LinkSlot) (a : Nat) : Option InContext :=
  (s.link l).inContext.filter (fun c =>
    c.phase == .receiving && decide (c.pointer ≤ a) && decide (a < c.pointer + c.capacity))

/-- The enabled bytes of a write portion are taken in order until one is held; a byte outside the open
buffer is stored as zero, with RING_FAULT once for the portion (R50). -/
def State.storeBytes (s : State) (l : LinkSlot) (p : Portion) :
    List (Option Byte) → State × Portion
  | [] => (s, p)
  | none :: rest => s.storeBytes l { p with stored := p.stored ++ [none] } rest
  | some b :: rest =>
    let a := p.start + p.stored.length
    match s.taker l a with
    | none =>
      (if p.faulted then s else s.fault (some l) p.start).storeBytes l
        { p with stored := p.stored ++ [some 0], faulted := true } rest
    | some c =>
      match s.takeByte l c (a - c.pointer) b with
      | none => (s, p)
      | some r => r.1.storeBytes l { p with stored := p.stored ++ [some r.2] } rest

/-- An access joins the port L requester's accesses, in the order issued (R44, R46). -/
def State.issueL (s : State) (a : Access) : State :=
  { s with steering := { s.steering with
      l := { s.steering.l with accesses := s.steering.l.accesses ++ [a] } } }

/-- The complete beats not yet handed to port M go there, one write each with the enables of the original
(R50; log 17); a beat with no byte enabled writes nothing (R40). -/
def State.issueBeats (s : State) (i : Nat) (p : Portion) : Nat → State × Portion
  | 0 => (s, p)
  | n + 1 =>
    let beat := (p.stored.drop (8 * p.beatsIssued)).take 8
    if beat.length < 8 then (s, p)
    else if beat.any (·.isSome) then
      (s.issueL ⟨i, .store, p.start + 8 * p.beatsIssued, 1, some beat⟩).issueBeats i
        { p with beatsIssued := p.beatsIssued + 1 } n
    else
      s.issueBeats i { p with beatsIssued := p.beatsIssued + 1,
                              beatsPerformed := p.beatsPerformed + 1 } n

/-- The portion is held for the key answer or for the tag (R84, R91). -/
def State.holdsWrites (s : State) (l : LinkSlot) : Bool :=
  (s.link l).inContext.any (fun c => c.holds)

/-- A write portion of a receive guard goes as far as it can (R50, R83, R90). -/
def State.advanceInbound (s : State) (l : LinkSlot) (i : Nat) (p : Portion) : State × Portion :=
  let r := s.storeBytes l { p with started := true } (p.bytes.drop p.stored.length)
  let r := r.1.issueBeats i r.2 p.beats
  let done := r.2.beatsPerformed == p.beats && !(r.1.holdsWrites l)
  (r.1, { r.2 with issued := r.2.beatsIssued == p.beats, done })

/-! ### Cipher results (R16, R91, R93) -/

/-- A block returns to an inbound context (R90, R91). -/
def InContext.takeBlock (c : InContext) (h : Header) (index : Nat) (block : List Byte) :
    InContext :=
  if index = 0 then { c with tag := c.tag.keyed block c.headerBytes h.len }.compare
  else { c with keystream := c.keystream.take index (lastBlock h.len) block }

/-- The result of a transform for an inbound context: used when it names the open context and that still
uses its key, else discarded; a freed place lets the next block be requested (R16, R82, R90, R93). -/
def State.inBlock (s : State) (l : LinkSlot) (ident index : Nat) (block : List Byte) : State :=
  match (s.link l).inContext with
  | none => s
  | some c =>
    match c.header with
    | none => s
    | some h =>
      (if c.ident = ident ∧ c.usable then s.setIn l (some (c.takeBlock h index block)) else s).feedIn l

/-- A key-gone result for an inbound context (R16, R93). -/
def State.inKeyGone (s : State) (l : LinkSlot) (ident : Nat) (ref : KeyRef) : State :=
  match (s.link l).inContext with
  | none => s
  | some c => (if c.ident = ident then s.loseIn l ref.lostCode else s).feedIn l

/-! ### Settlement (R94 to R99, R103) -/

/-- The end of settlement (R98): the final status goes to the monitor, the context closes and the
replacement is queued. -/
def State.endSettlement (s : State) (l : LinkSlot) (c : InContext) (status : Byte)
    (byController : Bool) : State :=
  let s := (s.notifyStatus ⟨l, true, status, byController⟩).closeIn l
  match (s.link l).inRing with
  | none => s
  | some r => s.queueReplacement r c.slot status c.frame

/-- Settlement ends with one of the part's codes. -/
def State.settleWith (s : State) (l : LinkSlot) (c : InContext) (code : PartCode) : State :=
  s.endSettlement l c code.byte false

/-- Confirmation (R94 case 8, R95, R96): the settle request, or the receive commit for epoch 0. -/
def State.confirm (s : State) (l : LinkSlot) (c : InContext) (q : Seq) : State :=
  let s := s.setIn l (some { c with phase := .confirming, outcome := c.early })
  match c.keyRef with
  | none => s
  | some (.kek k n) => s.askStore (.receiveCommit l c.ident k n q)
  | some (.session k m e n) => s.askKeyUnit (.settle l c.ident (.session k m e n) q)

/-- The code that settlement fixes, or none where the frame is to be confirmed: cases 2 to 8 of R94. A
frame of full length whose verdict was not made does not occur (log 26). -/
def InContext.code (c : InContext) (total : Nat) : Option PartCode :=
  match c.early, c.lost, c.header with
  | some early, _, _ =>
    if early = .quarantined ∧ c.verdict = some true then none else some early
  | none, some lost, _ => some lost
  | none, none, header =>
    if c.streamFault then some .streamFault
    else
      match header with
      | none => some .tooShort
      | some h =>
        if c.next < extentLength h.len ∨ total < extentLength h.len then some .tooShort
        else if extentLength h.len < total then some .streamFault
        else if c.verdict = some true then none
        else some .tagMismatch

/-- Settlement at the completion write (R94): the controller's status first. -/
def State.settle (s : State) (l : LinkSlot) (c : InContext) (status : Byte) (total : Nat) : State :=
  if status ≠ 0 then s.endSettlement l c status true
  else
    match c.code total with
    | some code => s.settleWith l c code
    | none => s.confirm l c ((c.header.map (·.sequence)).getD 0)

/-- The keepalive filter (R99): the code and the link's fields. -/
def State.filterKeepalive (s : State) (l : LinkSlot) (plain : List Byte) : State × PartCode :=
  let x := s.link l
  let masked := List.zipWith (· &&& ·) plain x.mask
  let same := x.lastKeepalive == some masked
  let state := if same then (if x.filter = 0 then 1 else 2) else 0
  (s.setLink l { x with filter := state, lastKeepalive := some masked },
    if same ∧ x.filter = 2 then .filtered else .ok)

/-- A verified frame of another class sets the filter state to 0 (R97, R99). -/
def State.restartFilter (s : State) (l : LinkSlot) : State :=
  s.setLink l { s.link l with filter := 0 }

/-- The verified arrival (R98): stamped, and told to the monitor. -/
def State.recordArrival (s : State) (l : LinkSlot) : State :=
  (s.setLink l { s.link l with lastArrival := some s.time.seconds }).notifyArrival l

/-- A verified beacon goes to the time base (R103). -/
def State.handBeacon (s : State) (l : LinkSlot) (payload : List Byte) : State :=
  { s with mail := { s.mail with beacons := s.mail.beacons ++ [(l, payload)] } }

/-- What becomes of a verified frame (R97). -/
def State.verified (s : State) (l : LinkSlot) (c : InContext) (cls : Byte) : State :=
  let s := s.recordArrival l
  match c.outcome, FrameClass.ofCode? cls with
  | some code, _ => (s.restartFilter l).settleWith l c code
  | none, some .keepalive =>
    let r := s.filterKeepalive l (c.keepalive.getD [])
    r.1.settleWith l c r.2
  | none, some .renewal => State.startJobs jobStarts ((s.restartFilter l).handOver l)
  | none, some .beacon =>
    ((s.restartFilter l).handBeacon l (c.beacon.getD [])).settleWith l c .absorbedTime
  | none, some .data => (s.restartFilter l).settleWith l c .ok
  | none, some .report => (s.restartFilter l).settleWith l c .ok
  | none, none => (s.restartFilter l).settleWith l c .ok

/-- The answer of R95 or R96 arrives: confirmed, or the code of a frame that was not. A frame refused as
QUARANTINED keeps that code (R94; log 25); an answer for a context that has closed is discarded
(R82). -/
def State.confirmAnswered (s : State) (l : LinkSlot) (ident : Nat) (refusal : Option PartCode) :
    State :=
  match (s.link l).inContext with
  | none => s
  | some c =>
    if c.ident = ident ∧ c.phase = .confirming then
      match refusal, c.header with
      | some code, _ => s.settleWith l c (c.outcome.getD code)
      | none, some h => s.verified l c h.cls
      | none, none => s
    else s

/-- The drain limit settles an open context with STREAM_FAULT (R26, R82). -/
def State.forceIn (s : State) (l : LinkSlot) : State :=
  match (s.link l).inContext with
  | none => s
  | some c => s.settleWith l c .streamFault

end Sys2Proof.Machine
end

