-- ==== Sys2Proof/Machine/Outbound.lean ====
section
/-! DEFINITION. The outbound engine (R56 to R80): opening contexts, header release, gap fills, serving
read portions byte by byte, key loss and completion. -/

namespace Sys2Proof.Machine

/-! ### Opening (R56, R75, R76) -/

/-- A context with nothing bound (R56). -/
def OutContext.fresh (ident slot pointer len : Nat) (cls : FrameClass) (rpt substituted : Bool)
    (contents presented : List Byte) : OutContext :=
  { ident, slot, pointer, len, cls, rpt, substituted, contents, contentsComplete := false,
    presented, binding := .unbound, keyRef := none, epoch := none, sequence := none,
    header := none, tag := Tag.start, coverage := 0, keystream := Keystream.opened, fill := none,
    lost := none }

/-- The context of a software descriptor presented as ready (R30 case 9, R56). -/
def State.openSoftware (s : State) (l : LinkSlot) (i : Nat) (d presented : List Byte)
    (cls : FrameClass) : State :=
  (s.setOut l (some (OutContext.fresh s.nextIdent i (descPointer d) (descLength d) cls (descRpt d)
    false [] presented))).nextContext

/-- The status contents at a substitution, but for the store's part in byte 7 (R76, 12.2). -/
def State.statusContents (s : State) (l : LinkSlot) : List Byte :=
  let x := s.link l
  let current := (s.currentKey l).map s.key
  let bit (n : Nat) (b : Bool) : Byte := if b then 1#8 <<< n else 0
  leBytes 2 x.health.e ++ [x.state.code] ++ leBytes 1 x.health.a ++
    leBytes 2 ((current.map (fun k => k.epoch.toNat)).getD 0) ++
    [bit 0 s.time.valid ||| bit 1 (x.state == .quarantined) |||
      bit 2 ((current.map (·.dueReported)).getD false) ||| bit 3 x.health.silent, 0x00#8]

/-- A substituted context opens on a slot (R75, R76): its contents are fixed now but for the store's
summary, which is requested. -/
def State.openSubstituted (s : State) (l : LinkSlot) (i pointer : Nat) (presented : List Byte) :
    State :=
  (((s.setOut l (some (OutContext.fresh s.nextIdent i pointer 8 .keepalive false true
    (s.statusContents l) presented))).askStore (.summary l s.nextIdent (s.link l).kek))).nextContext

/-! ### Header release (R57 to R60) -/

/-- The context is the one a request names, and waits for its answer. -/
def OutContext.awaits (c : OutContext) (ident : Nat) (b : Binding) : Bool :=
  c.ident == ident && c.binding == b && c.lost.isNone

/-- Header release begins: the sequence request is made (R57, R58). -/
def State.beginRelease (s : State) (l : LinkSlot) (c : OutContext) : State :=
  (s.setOut l (some { c with binding := .sequenceAsked })).askKeyUnit (.sequence l c.ident)

/-- The frame is bound (R58 to R60): reference, epoch, sequence and header are recorded, block 0 and the
first window are requested. -/
def State.bindOut (s : State) (l : LinkSlot) (c : OutContext) (ref : KeyRef) (epoch : Half)
    (q : Seq) : State :=
  (s.setOut l (some { c with
    binding := .bound
    keyRef := some ref
    epoch := some epoch
    sequence := some q
    header := some (headerBytes c.cls (s.link l).wire c.len epoch q)
    keystream := Keystream.released (lastBlock c.len) })).feedOut l

/-- The key unit had no key in force: the second and third cases of R57. -/
def State.releaseWithoutKey (s : State) (l : LinkSlot) (c : OutContext) : State :=
  match c.cls, c.substituted, (s.link l).kek with
  | .renewal, false, some kek =>
    (s.setOut l (some { c with binding := .commitAsked })).askStore (.transmitCommit l c.ident kek)
  | _, _, _ => s.loseOut l .keyLost

/-! ### Bytes of the extent (R63, R64, R70) -/

/-- A payload byte is enciphered; at coverage it is absorbed, and at len the tag is finished (R64). -/
def OutContext.encipher (c : OutContext) (offset : Nat) (plain key : Byte) : OutContext × Byte :=
  let cipher := plain ^^^ key
  if offset = c.coverage then
    let tag := c.tag.absorb cipher
    ({ c with
        coverage := offset + 1
        tag := if offset + 1 = c.len then tag.finish else tag }, cipher)
  else (c, cipher)

/-- The plaintext byte of a payload offset: of the status contents once complete (R77), or of the
memory beats at hand (R63). -/
def OutContext.plain? (c : OutContext) (fetched : Option (Nat × List Byte)) (offset : Nat) :
    Option Byte :=
  if c.substituted then (if c.contentsComplete then some (byteAt c.contents offset) else none)
  else fetched.bind (fun f => (f.2)[c.pointer + 16 + offset - f.1]?)

/-- A substituted context's payload absorbed up to its end directly from the status contents, as far as
its keystream is held (R77). -/
def OutContext.completeSubstituted (c : OutContext) : Nat → OutContext
  | 0 => c
  | n + 1 =>
    if c.substituted ∧ c.contentsComplete ∧ c.coverage < c.len ∧ c.tag.keys.isSome then
      match keystreamByte c.keystream.held c.coverage with
      | none => c
      | some k => ((c.encipher c.coverage (byteAt c.contents c.coverage) k).1).completeSubstituted n
    else c

/-- The answer to one byte of a read portion, when it is ready (R63): header, enciphered payload,
trailer, zero outside the extent. -/
def OutContext.serveByte (c : OutContext) (fetched : Option (Nat × List Byte)) (a : Nat) :
    Option (OutContext × Byte) :=
  if a < c.pointer ∨ c.pointer + extentLength c.len ≤ a then some (c, 0)
  else
    let x := a - c.pointer
    if x < 16 then c.header.map (fun h => (c, byteAt h x))
    else if x < 16 + c.len then
      match c.plain? fetched (x - 16), keystreamByte c.keystream.held (x - 16), c.tag.keys with
      | some p, some k, some _ => some (c.encipher (x - 16) p k)
      | _, _, _ => none
    else if c.substituted ∧ c.contentsComplete = false then none
    else
      let c := c.completeSubstituted 8
      c.tag.value.map (fun v => (c, byteAt (tagBytes v) (x - 16 - c.len)))

/-- The bytes of a portion answered in order until one is not ready (R40, R63). -/
def OutContext.serve (c : OutContext) (fetched : Option (Nat × List Byte)) :
    List Nat → List Byte → OutContext × List Byte
  | [], answer => (c, answer)
  | a :: rest, answer =>
    match c.serveByte fetched a with
    | none => (c, answer)
    | some r => r.1.serve fetched rest (answer ++ [r.2])

/-- The answer of a key-lost context to a byte (R70): zero, and in the trailer the complement. -/
def OutContext.lostByte (c : OutContext) (a : Nat) : Byte :=
  if c.pointer + 16 + c.len ≤ a ∧ a < c.pointer + extentLength c.len then
    byteAt (lostTrailer c.tag) (a - c.pointer - 16 - c.len)
  else 0

/-! ### Gap fills (R65, R66) -/

/-- The beat that holds a payload offset. -/
def OutContext.beatOf (c : OutContext) (offset : Nat) : Nat := (c.pointer + 16 + offset) / 8 * 8

/-- The next read of a fill (R65): from the beat of the next offset to the beat of the fill end, or to
the end of that 64-byte block. -/
def OutContext.fillRead (c : OutContext) (l : LinkSlot) (f : Fill) : InternalRead :=
  let first := c.beatOf f.next
  let last := min (c.beatOf f.last) (first / 64 * 64 + 56)
  ⟨first, (last - first) / 8 + 1, .fill l c.ident⟩

/-- A gap fill starts (R65): the window follows it and its first read is queued. -/
def State.startFill (s : State) (l : LinkSlot) (first last : Nat) : State :=
  match (s.link l).outContext with
  | none => s
  | some c =>
    let f : Fill := ⟨first, last, true, none⟩
    ((s.setOut l (some { c with fill := some f })).moveOutWindow l (blockOf first)).queueRead
      (c.fillRead l f)

/-- Fill bytes at hand enciphered and absorbed in order while their keystream is held (R66). -/
def OutContext.fillBytes (c : OutContext) (f : Fill) : List Byte → OutContext × Fill
  | [] => (c, f)
  | b :: bs =>
    if f.last < f.next then (c, f)
    else
      match keystreamByte c.keystream.held f.next, c.tag.keys with
      | some k, some _ => (c.encipher f.next b k).1.fillBytes { f with next := f.next + 1 } bs
      | _, _ => (c, f)

/-- A fill goes on as far as it can (R66): data at hand are absorbed; past the fill end it ends; with
the data used up the next read is queued. The window follows the next fill offset, and stays at the block of the
fill end when the fill ends (R61; log 28). -/
def State.advanceFill (s : State) (l : LinkSlot) : State :=
  match (s.link l).outContext with
  | none => s
  | some c =>
    match c.fill with
    | none => s
    | some f =>
      match f.data with
      | none => s
      | some (address, bytes) =>
        let r := c.fillBytes f (bytes.drop (c.pointer + 16 + f.next - address))
        let f := r.2
        if f.last < f.next then
          (s.setOut l (some { r.1 with fill := none })).moveOutWindow l (blockOf f.last)
        else if address + bytes.length ≤ c.pointer + 16 + f.next then
          let f := { f with outstanding := true, data := none }
          ((s.setOut l (some { r.1 with fill := some f })).moveOutWindow l
            (blockOf f.next)).queueRead (r.1.fillRead l f)
        else (s.setOut l (some { r.1 with fill := some f })).moveOutWindow l (blockOf f.next)

/-- A fill read's data arrive (R66): kept when the context is open, not key-lost and filling; otherwise
discarded. -/
def State.fillData (s : State) (l : LinkSlot) (ident : Nat) (bytes : List Byte) : State :=
  match (s.link l).outContext with
  | none => s
  | some c =>
    match c.fill with
    | none => s
    | some f =>
      if c.ident = ident ∧ f.outstanding then
        (s.setOut l (some { c with
          fill := some { f with outstanding := false, data := some (c.beatOf f.next, bytes) }
        })).advanceFill l
      else s

/-! ### Serving a portion (R49, R53, R57, R63 to R67) -/

/-- A portion touches a byte of the range from `a` to `b` − 1. -/
def Portion.touches (p : Portion) (a b : Nat) : Bool :=
  max p.start a < min (p.start + 8 * p.beats) b

/-- The first and the last payload offset a portion touches. -/
def Portion.payloadRange (p : Portion) (pointer len : Nat) : Nat × Nat :=
  (max p.start (pointer + 16) - (pointer + 16),
    min (p.start + 8 * p.beats) (pointer + 16 + len) - 1 - (pointer + 16))

/-- The addresses of a portion not yet answered. -/
def Portion.unanswered (p : Portion) : List Nat :=
  (List.range (8 * p.beats)).map (· + p.start) |>.drop p.answer.length

/-- The portion answered wholly with zeroes (R49, R50, R53). -/
def Portion.zeroed (p : Portion) : Portion :=
  { p with started := true, issued := true, answer := p.answer ++ zeroes (8 * p.beats - p.answer.length),
           done := true }

/-- The portion touches payload bytes of the frame. -/
def Portion.carriesPayload (p : Portion) (c : OutContext) : Bool :=
  p.touches (c.pointer + 16) (c.pointer + 16 + c.len)

/-- The portion is taken once its frame is bound (R61, R65, R67): the window goes to its first payload byte, or
a gap before it, or an uncovered payload before a trailer, starts a fill, which the window follows. -/
def State.takePortion (s : State) (l : LinkSlot) (c : OutContext) (p : Portion) : State :=
  let first := (p.payloadRange c.pointer c.len).1
  if p.carriesPayload c then
    if c.substituted = false ∧ c.coverage < first then s.startFill l c.coverage (first - 1)
    else s.moveOutWindow l (blockOf first)
  else if c.substituted then s
  else if p.touches (c.pointer + 16 + c.len) (c.pointer + extentLength c.len) ∧
      c.coverage < c.len then
    s.startFill l c.coverage (c.len - 1)
  else s

/-- The memory read of the payload beats of a portion, under the port L requester (R63; log 16). -/
def payloadAccess (c : OutContext) (p : Portion) (i : Nat) : Access :=
  let range := p.payloadRange c.pointer c.len
  let first := c.beatOf range.1
  ⟨i, .payload, first, (c.beatOf range.2 - first) / 8 + 1, none⟩

/-- The payload read of a portion is not issued any more (R70). -/
def State.withdrawPayload (s : State) (i : Nat) : State :=
  { s with steering := { s.steering with
      l := { s.steering.l with
        accesses := s.steering.l.accesses.filter
          (fun a => !(a.portion == i && a.use == .payload)) } } }

/-- A taken portion is served (R63, R66): once no fill is in progress, and not before, its memory read is
issued; from then on its bytes are answered as they become ready. The window stays where the taking or the end of
its fill has put it, which covers every block the portion needs (R61; log 28). -/
def State.servePortion (s : State) (l : LinkSlot) (i : Nat) (p : Portion) : State × Portion :=
  match (s.link l).outContext with
  | none => (s, p)
  | some c =>
    if c.fill.isSome then (s, p)
    else
      let s := if !p.issued && p.carriesPayload c && !c.substituted then
          s.issueL (payloadAccess c p i) else s
      let r := c.serve p.fetched p.unanswered p.answer
      (s.setOut l (some r.1),
        { p with issued := true, answer := r.2, done := decide (8 * p.beats ≤ r.2.length) })

/-- A portion of a transmit guard or of a phantom sub-window goes as far as it can (R49, R53, R63).
`returned` is how many of its bytes the master already has. -/
def State.advanceOutbound (s : State) (l : LinkSlot) (phantom : Bool) (i returned : Nat)
    (p : Portion) : State × Portion :=
  match (s.link l).outContext with
  | none => (if p.started then s else s.fault (some l) p.start, p.zeroed)
  | some c =>
    if c.substituted = phantom ∧ p.touches c.pointer (c.pointer + extentLength c.len) then
      if c.lost.isSome then
        let answer := p.answer.take returned ++
          (((List.range (8 * p.beats)).map (fun j => c.lostByte (p.start + j))).drop
            (p.answer.take returned).length)
        (s.withdrawPayload i, { p with started := true, issued := true, answer, done := true })
      else
        match c.binding with
        | .unbound => (s.beginRelease l c, p)
        | .sequenceAsked => (s, p)
        | .commitAsked => (s, p)
        | .bound =>
          (if p.started then s else s.takePortion l c p).servePortion l i { p with started := true }
    else (if p.started then s else s.fault (some l) p.start, p.zeroed)

/-! ### Completion (R71, R78) -/

/-- The last transmit completion is stamped and the idle count cleared; LINE_ABORT goes to the monitor;
the context closes (R71, R78). -/
def State.finishOut (s : State) (l : LinkSlot) (status : Byte) : State :=
  let x := s.link l
  let s := (s.setLink l { x with lastTransmit := some s.time.rawTick, idle := 0 })
  (if status = lineAbort then s.notifyStatus ⟨l, false, status, true⟩ else s).closeOut l

/-- What the replacement of an outbound frame carries (R37, R71): the presented length, the epoch and
the low sequence bound, or 0. -/
def OutContext.outcome (c : OutContext) : FrameOutcome :=
  ⟨none, c.len, c.epoch.getD 0, lowSequence (c.sequence.getD 0)⟩

/-- A completion of a slot with an open outbound context (R71, R78). -/
def State.completeOut (s : State) (l : LinkSlot) (c : OutContext) (r : RingIndex) (status : Byte) :
    State :=
  if c.substituted then s.finishOut l status
  else (s.finishOut l status).queueReplacement r c.slot (finalStatus status (c.lost.getD .ok))
    c.outcome

/-! ### Cipher results (R16, R60, R61, R68) -/

/-- A block returns to an outbound context (R60, R61). -/
def OutContext.takeBlock (c : OutContext) (index : Nat) (block : List Byte) : OutContext :=
  if index = 0 then { c with tag := c.tag.keyed block (c.header.getD []) c.len }
  else { c with keystream := c.keystream.take index (lastBlock c.len) block }

/-- The result of a transform for an outbound context: used when it names the open context and that is
not key-lost, else discarded; a freed place lets the next block be requested (R16, R61). -/
def State.outBlock (s : State) (l : LinkSlot) (ident index : Nat) (block : List Byte) : State :=
  match (s.link l).outContext with
  | none => s
  | some c =>
    let s := if c.ident = ident ∧ c.lost.isNone then s.setOut l (some (c.takeBlock index block))
      else s
    (s.feedOut l).advanceFill l

/-- A key-gone result for an outbound context (R16, R68). -/
def State.outKeyGone (s : State) (l : LinkSlot) (ident : Nat) (ref : KeyRef) : State :=
  match (s.link l).outContext with
  | none => s
  | some c => (if c.ident = ident then s.loseOut l ref.lostCode else s).feedOut l

end Sys2Proof.Machine
end

