-- ==== Sys2Proof/Machine/LinkUnit.lean ====
section
/-! DEFINITION. The link unit at the descriptor areas of port L: presentation of outbound and inbound
descriptors (R30 to R34, R75), and completion writes (R35). -/

namespace Sys2Proof.Machine

/-! ### The ring behind an area -/

/-- The open ring that a classified area still is: the ring record as it was registered, of a link that
is not CLOSED. A rewritten or freed record is answered as a ring whose link is CLOSED (R21, R22;
log 33). -/
def State.openRing (s : State) (r : RingIndex) (area : Area) : Option Ring :=
  (s.ring r).filter (fun ring => ring.area == area && (s.link ring.link).state.isOpen)

/-- OWN forced clear in every slot whose byte 1 is covered (R34). -/
def forceOwnClear (base start : Nat) (data : List Byte) : List Byte :=
  data.mapIdx (fun j b => if (start + j - base) % 16 = 1 then b &&& 0x7F#8 else b)

/-- The region lies wholly in a guard (R31, R33). -/
def liesIn (guard : Option Region) (start len : Nat) : Bool :=
  guard.any (fun g => g.base ≤ start && start + len ≤ g.base + g.size)

/-! ### Outbound presentation (R30 to R32, R75) -/

/-- The classes software may send (R31). -/
def outboundClass (d : List Byte) : Option FrameClass :=
  match FrameClass.ofCode? (descClass d) with
  | some .beacon => none
  | some .data => some .data
  | some .keepalive => some .keepalive
  | some .renewal => some .renewal
  | some .report => some .report
  | none => none

/-- The link may send a frame of the class (R31, last check). -/
def Link.maySend (x : Link) (cls : FrameClass) : Bool :=
  match x.state with
  | .keyed => true
  | .quarantined => true
  | .awaitKey => cls == .renewal && x.kek.isSome
  | .closed => false
  | .closing => false

/-- The checks of R31 in order: the refusal code, or the class of an acceptable descriptor. -/
def outboundCheck (x : Link) (d : List Byte) : PartCode ⊕ FrameClass :=
  if x.state = .closing then .inl .linkClosed
  else if descPointer d % 4 ≠ 0 then .inl .badDescriptor
  else
    match outboundClass d with
    | none => .inl .badClass
    | some cls =>
      if x.maxPayload < descLength d then .inl .tooLong
      else if cls = .keepalive ∧ descLength d ≠ 8 then .inl .badClass
      else if liesIn x.transmit (descPointer d) (extentLength (descLength d)) = false then
        .inl .badDescriptor
      else if x.maySend cls = false then .inl .noKey
      else .inr cls

/-- The hold-off test (R32): 32 × h raw ticks since the last transmit completion, or else since the
opening. -/
def State.holdOffPassed (s : State) (l : LinkSlot) (h : Nat) : Bool :=
  let x := s.link l
  let since := (x.lastTransmit <|> x.openStamp).getD 0
  h == 0 || decide (32 * h ≤ s.ticksSince since)

/-- The link is idle for its keepalive period (R74). -/
def Link.isIdle (x : Link) : Bool := x.keepalive != 0 && decide (x.keepalive < x.idle)

/-- The conditions of R75, but for those that R30 has ruled out: where the sub-window lies. -/
def State.substitution (s : State) (l : LinkSlot) : Option Nat :=
  let x := s.link l
  if (x.state = .keyed ∨ x.state = .quarantined) ∧ x.isIdle then
    s.phantom.map (fun base => base + 64 * l.val)
  else none

/-- The slot's presented copy and held code are recorded (R29 to R31). -/
def State.record (s : State) (r : RingIndex) (i : Nat) (held : Option PartCode) (d : List Byte) :
    State :=
  s.setSlot r i { s.slot r i with held, copy := some d }

/-- Presentation of slot i of an outbound ring, of which memory holds d, by the first case of R30. -/
def State.presentOut (s : State) (r : RingIndex) (l : LinkSlot) (i : Nat) (d : List Byte) :
    State × List Byte :=
  let slot := s.slot r i
  if slot.pending then (s, withOwnClear d)
  else
    match slot.held, (s.link l).outContext with
    | some _, _ => (s, asRefused (slot.copy.getD d))
    | none, some c => (s, if c.slot = i then c.presented else withOwnClear d)
    | none, none =>
      if descOwn d = false then
        match s.substitution l with
        | some pointer =>
          (s.openSubstituted l i pointer (asSubstituted d pointer), asSubstituted d pointer)
        | none => (s, d)
      else if descSkip d then (s.record r i none d, d)
      else
        match outboundCheck (s.link l) d with
        | .inl code => (s.record r i (some code) d, asRefused d)
        | .inr cls =>
          if s.holdOffPassed l (descHoldOff d) then
            ((s.record r i none d).openSoftware l i d (asReady d) cls, asReady d)
          else (s, withOwnClear d)

/-! ### Inbound presentation (R33) -/

/-- The checks of R33 case 6, in order. `closing`: the link was CLOSING when the controller made the read. R24 and
R33 refuse such a read with LINK_CLOSED; one made before CLOSE_LINK was dispatched is not refused for it, and may
open a context in CLOSING, as R81 has it, until the drain is forced, after which the link keeps none (R26; log 47). -/
def inboundCheck (x : Link) (closing : Bool) (d : List Byte) : Option PartCode :=
  if closing ∨ (x.state = .closing ∧ x.drainStart = none) then some .linkClosed
  else if descPointer d % 4 ≠ 0 then some .badDescriptor
  else if descLength d < 24 then some .badDescriptor
  else if liesIn x.receive (descPointer d) (descLength d) = false then some .badDescriptor
  else none

/-- Presentation of slot i of an inbound ring, of which memory holds d, by the first case of R33; `closing` as in
`inboundCheck`. -/
def State.presentIn (s : State) (r : RingIndex) (l : LinkSlot) (i : Nat) (closing : Bool)
    (d : List Byte) : State × List Byte :=
  let slot := s.slot r i
  if slot.pending then (s.notifyNoBuffer l, withOwnClear d)
  else
    match slot.held, (s.link l).inContext with
    | some _, _ => (s, asRefused (slot.copy.getD d))
    | none, some _ => (s.notifyNoBuffer l, withOwnClear d)
    | none, none =>
      if descOwn d = false then (s.notifyNoBuffer l, d)
      else if descSkip d then (s.record r i none d, d)
      else
        match inboundCheck (s.link l) closing d with
        | some code => (s.record r i (some code) d, asRefused d)
        | none => ((s.record r i none d).openInbound l i d, d)

/-- A RING_FAULT of the link unit (R34, R35). -/
def State.ringFault (s : State) (l : LinkSlot) (address : Nat) : State :=
  s.post .linkUnit (some l) (.ringFault address)

/-- A port L read of a descriptor area is answered once memory has given its bytes (R30, R33, R34;
log 19), whichever slot it reads, since the order of the slots, WRAP and STAY are the controller's part of the
contract (R28): of a closed ring with OWN forced clear, of other than one whole slot the same with RING_FAULT,
else presented. `alone`: the transaction touches no other ring, which would be a second slot (log 20); `closing` as
in `inboundCheck`. -/
def State.presentRead (s : State) (r : RingIndex) (area : Area) (start : Nat) (data : List Byte)
    (alone closing : Bool) : State × List Byte :=
  match s.openRing r area with
  | none => (s, forceOwnClear area.base start data)
  | some ring =>
    if (start - ring.base) % 16 = 0 ∧ data.length = 16 ∧ alone then
      let i := (start - ring.base) / 16
      if ring.outbound then s.presentOut r ring.link i data else s.presentIn r ring.link i closing data
    else (s.ringFault ring.link start, forceOwnClear area.base start data)

/-! ### Completion (R35) -/

/-- A completion of a slot that carries no context: a held refusal (its final status goes to the monitor
on an inbound ring, R36) or a software skip (R29; log 31). None where there is nothing to complete. -/
def State.completeIdle (s : State) (r : RingIndex) (ring : Ring) (i : Nat) (status : Byte) :
    Option State :=
  match (ring.slot i).held, (ring.slot i).copy with
  | some code, _ =>
    let final := finalStatus status code
    let s := if ring.outbound then s else s.notifyStatus ⟨ring.link, true, final, status != 0⟩
    some (s.queueReplacement r i final (ring.emptyOutcome i))
  | none, some d =>
    if descSkip d then
      some (s.queueReplacement r i (finalStatus status .ok) (ring.emptyOutcome i))
    else none
  | none, none => none

/-- A completion write for slot i, by the slot's case (R35); none where it is discarded. -/
def State.completeSlot (s : State) (r : RingIndex) (ring : Ring) (i : Nat) (status : Byte)
    (total : Nat) : Option State :=
  if (ring.slot i).pending then none
  else if ring.outbound then
    match (s.link ring.link).outContext.filter (fun c => c.slot == i) with
    | some c => some (s.completeOut ring.link c r status)
    | none => s.completeIdle r ring i status
  else
    match (s.link ring.link).inContext.filter (fun c => c.slot == i && c.phase == .receiving) with
    | some c =>
      some ((s.setSlot r i { ring.slot i with pending := true }).settle ring.link c status total)
    | none => s.completeIdle r ring i status

/-- The slots whose bytes 0 to 3 a write of a descriptor area enables whole: slot, status and length
written (R35). -/
def completionsOf (base start : Nat) (bytes : List (Option Byte)) : List (Nat × Byte × Nat) :=
  (List.range (bytes.length / 8)).filterMap (fun beat =>
    if (start + 8 * beat - base) % 16 = 0 then
      match (bytes.drop (8 * beat)).take 4 with
      | [some status, some _, some low, some high] =>
        some ((start + 8 * beat - base) / 16, status, leNat [low, high])
      | _ => none
    else none)

/-- The completions of a write in ascending order, and whether one was discarded (log 21). -/
def State.completeAll (s : State) (r : RingIndex) (area : Area) (discarded : Bool) :
    List (Nat × Byte × Nat) → State × Bool
  | [] => (s, discarded)
  | (i, status, total) :: rest =>
    match (s.openRing r area).bind (fun ring => s.completeSlot r ring i status total) with
    | some t => t.completeAll r area discarded rest
    | none => s.completeAll r area true rest

/-- A port L write of a descriptor area (R35): its completions are taken; RING_FAULT is posted when one is
discarded, or when the write enables anything but the bytes 0 to 3 of one slot. -/
def State.completeWrite (s : State) (r : RingIndex) (area : Area) (start : Nat)
    (bytes : List (Option Byte)) : State :=
  let completions := completionsOf area.base start bytes
  let enabled := bytes.reduceOption.length
  let clean := enabled == 0 || (enabled == 4 && completions.length == 1)
  let t := s.completeAll r area false completions
  if t.2 || !clean then t.1.ringFault area.link start else t.1

/-! ### The drain limit (R26, R73) -/

/-- An open outbound context is key-lost at the drain limit, so that a held read is answered (R70,
R73). -/
def State.loseAtLimit (s : State) (l : LinkSlot) : State := s.loseOut l .keyLost

/-- The context then closes; a software frame's replacement carries KEY_LOST (R26, R73), whatever code the
frame was lost with before (log 45). -/
def State.forceOut (s : State) (l : LinkSlot) : State :=
  match (s.link l).outContext with
  | none => s
  | some c =>
    let s := s.closeOut l
    if c.substituted then s
    else
      match (s.link l).outRing with
      | none => s
      | some r => s.queueReplacement r c.slot PartCode.keyLost.byte c.outcome

/-- The slots of a ring whose replacement waits for a renewal job are replaced with LINK_CLOSED
(R26). -/
def State.forceJobs (s : State) (l : LinkSlot) : State :=
  match (s.link l).inRing with
  | none => s
  | some r =>
    match s.ring r with
    | none => s
    | some ring =>
      (List.range ring.slots.length).foldl (fun s i =>
        match (s.slot r i).job with
        | none => s
        | some o =>
          (s.notifyStatus ⟨l, true, PartCode.linkClosed.byte, false⟩).queueReplacement r i
            PartCode.linkClosed.byte o) s

end Sys2Proof.Machine
end

