-- ==== Sys2Proof/Machine/Ports.lean ====
section
/-! DEFINITION. The steering unit and the port M arbiter (R40 to R54): accepting and cutting transactions,
handling the portions, reassembling the answer, and performing what port M is granted. -/

namespace Sys2Proof.Machine

/-! ### Cutting (R43) -/

/-- A portion of one beat at an address, with the beat's bytes for a write. -/
def beatPortion (m : RegionMap) (q : BusRequest) (a : Nat) : Portion :=
  { place := m.place a, start := a, beats := 1, bytes := (q.bytes.drop (a - q.start)).take 8 }

/-- Maximal runs of beats with the same classification, from the beats' addresses (R43; log 18). -/
def cutBeats (m : RegionMap) (q : BusRequest) : List Nat → List Portion
  | [] => []
  | a :: rest =>
    let one := beatPortion m q a
    match cutBeats m q rest with
    | [] => [one]
    | p :: ps =>
      if p.place = one.place then
        { one with beats := p.beats + 1, bytes := one.bytes ++ p.bytes } :: ps
      else one :: p :: ps

/-- The transaction inside the part (R41, R43). -/
def cutRequest (m : RegionMap) (q : BusRequest) : Transaction :=
  { request := q
    portions := cutBeats m q ((List.range q.beats).map (fun i => q.start + 8 * i))
    returned := [] }

/-! ### Ports -/

/-- One of the two ports. -/
def State.port (s : State) : Bool → Port
  | true => s.steering.l
  | false => s.steering.p

/-- One of the two ports replaced; `true` is port L. -/
def State.setPort (s : State) (onL : Bool) (x : Port) : State :=
  if onL then { s with steering := { s.steering with l := x } }
  else { s with steering := { s.steering with p := x } }

/-- The ports accept transactions: not before power-on has finished, and not while RESET is asserted
(R54). -/
def State.accepts (s : State) : Bool := s.lines.powered && !s.lines.resetAsserted

/-- A memory access of a port joins its requester (R44, R46). -/
def State.issue (s : State) (onL : Bool) (a : Access) : State :=
  s.setPort onL { s.port onL with accesses := (s.port onL).accesses ++ [a] }

/-! ### Handling a portion (R44) -/

/-- A portion that needs no memory is done at once: a discarded write. -/
def Portion.discarded (p : Portion) : Portion :=
  { p with started := true, issued := true, done := true }

/-- A portion to memory unchanged: one memory transaction under its port's requester (R44). -/
def State.passPortion (s : State) (onL isRead : Bool) (i : Nat) (p : Portion) : State × Portion :=
  (s.issue onL ⟨i, .plain, p.start, p.beats, if isRead then none else some p.bytes⟩,
    { p with started := true, issued := true })

/-- What port P reads at a byte of the phantom window (R53): the header once released, the contents once
complete and the tag once complete of an open substituted context, else zero. -/
def State.phantomByte (s : State) (base a : Nat) : Byte :=
  let x := (a - base) % 64
  match (s.link (Fin.ofNat 8 ((a - base) / 64))).outContext.filter (·.substituted) with
  | none => 0
  | some c =>
    if x < 16 then byteAt (c.header.getD []) x
    else if x < 24 then (if c.contentsComplete then byteAt c.contents (x - 16) else 0)
    else if x < 32 then byteAt ((c.tag.value.map tagBytes).getD []) (x - 24)
    else 0

/-- A port P portion: the phantom window is answered by the part, all else goes to memory (R44, R53). -/
def State.advanceP (s : State) (isRead : Bool) (i : Nat) (p : Portion) : State × Portion :=
  match p.place with
  | .phantom _ base =>
    if isRead then
      (s, { p.discarded with
        answer := (List.range (8 * p.beats)).map (fun j => s.phantomByte base (p.start + j)) })
    else (s, p.discarded)
  | .unwatched => s.passPortion false isRead i p
  | .commandRing => s.passPortion false isRead i p
  | .reportRing _ _ => s.passPortion false isRead i p
  | .descriptors _ _ => s.passPortion false isRead i p
  | .transmitGuard _ => s.passPortion false isRead i p
  | .receiveGuard _ => s.passPortion false isRead i p

/-- A port L read portion with its owner (R44). The link unit reads a portion of a descriptor area in one memory
transaction, however many slots it covers (log 16), and notes whether the area's link is CLOSING (log 47). -/
def State.advanceReadL (s : State) (i returned : Nat) (p : Portion) : State × Portion :=
  match p.place with
  | .unwatched => s.passPortion true true i p
  | .commandRing => s.passPortion true true i p
  | .reportRing _ _ => s.passPortion true true i p
  | .descriptors _ area =>
    (s.issue true
      ⟨i, .descriptor ((s.link area.link).state == .closing), p.start, p.beats, none⟩,
      { p with started := true, issued := true })
  | .transmitGuard l => s.advanceOutbound l false i returned p
  | .receiveGuard l => (s.fault (some l) p.start, p.zeroed)
  | .phantom l _ => s.advanceOutbound l true i returned p

/-- A port L write portion with its owner (R44, R49 to R51, R53). -/
def State.advanceWriteL (s : State) (i : Nat) (p : Portion) : State × Portion :=
  match p.place with
  | .unwatched => s.passPortion true false i p
  | .commandRing => (s.fault none p.start, p.discarded)
  | .reportRing _ _ => (s.fault none p.start, p.discarded)
  | .descriptors r area => (s.completeWrite r area p.start p.bytes, p.discarded)
  | .transmitGuard l => (s.fault (some l) p.start, p.discarded)
  | .receiveGuard l => s.advanceInbound l i p
  | .phantom l _ => (s.fault (some l) p.start, p.discarded)

/-- The portion goes to memory unchanged (R44). -/
def Portion.isPlain (onL isRead : Bool) (p : Portion) : Bool :=
  match p.place with
  | .unwatched => true
  | .commandRing => !onL || isRead
  | .reportRing _ _ => !onL || isRead
  | .descriptors _ _ => !onL
  | .transmitGuard _ => !onL
  | .receiveGuard _ => !onL
  | .phantom _ _ => false

/-- The portion waits for port M only: its access is made and its owner has nothing more to do. -/
def Portion.atMemory (onL isRead : Bool) (p : Portion) : Bool :=
  p.started && (p.isPlain onL isRead ||
    (match p.place with | .descriptors _ _ => true | _ => false))

/-- One portion goes as far as it can. A memory portion is issued once every earlier portion's access has
been; a portion with an owner begins once every earlier portion is done (R43; log 18). -/
def State.advance (s : State) (onL isRead earlierIssued earlierDone : Bool) (i returned : Nat)
    (p : Portion) : State × Portion :=
  if p.done || p.atMemory onL isRead then (s, p)
  else if (if p.isPlain onL isRead then earlierIssued else p.started || earlierDone) = false then
    (s, p)
  else if onL = false then s.advanceP isRead i p
  else if isRead then s.advanceReadL i returned p
  else s.advanceWriteL i p

/-- The portions of a transaction in ascending order (R43); `offset` is the place of the first one's
bytes in the answer, `returned` the number of bytes the master already has. -/
def State.advanceAll (s : State) (onL isRead : Bool) (returned : Nat) :
    Nat → Nat → Bool → Bool → List Portion → State × List Portion
  | _, _, _, _, [] => (s, [])
  | i, offset, earlierIssued, earlierDone, p :: ps =>
    let r := s.advance onL isRead earlierIssued earlierDone i (returned - offset) p
    let rest := r.1.advanceAll onL isRead returned (i + 1) (offset + 8 * p.beats)
      (earlierIssued && (r.2.issued || r.2.done)) (earlierDone && r.2.done) ps
    (rest.1, r.2 :: rest.2)

/-- The read beats that are ready, in ascending order up to the first that is not (R40). -/
def readyBytes : List Portion → List Byte
  | [] => []
  | p :: ps =>
    if p.answer.length = 8 * p.beats then p.answer ++ readyBytes ps
    else p.answer.take (p.answer.length / 8 * 8)

/-- The transaction of a port goes as far as it can (R41, R43). -/
def State.advanceTransaction (s : State) (onL : Bool) (t : Transaction) : State × Transaction :=
  let r := s.advanceAll onL t.request.isRead t.returned.length 0 0 true true t.portions
  (r.1, { t with portions := r.2, returned := if t.request.isRead then readyBytes r.2 else [] })

/-- Every portion is done. -/
def Transaction.complete (t : Transaction) : Bool := t.portions.all (·.done)

/-- The answer of a complete transaction (R40). -/
def Transaction.answer (t : Transaction) : BusAnswer :=
  if t.request.isRead then .data t.returned else .acknowledged

/-- The transaction inside a port is handled, and answered when complete (R41, R43). -/
def State.handle (s : State) (onL : Bool) : State :=
  match (s.port onL).current with
  | none => s
  | some t =>
    let r := s.advanceTransaction onL t
    if r.2.complete then
      r.1.setPort onL { r.1.port onL with current := none, answered := some r.2.answer }
    else r.1.setPort onL { r.1.port onL with current := some r.2 }

/-- A port goes on: its transaction is handled, and once it is answered the next one that a held master
presents is accepted and classified under the map of that moment (R41, R42, R54; log 22). -/
def State.runPort (onL : Bool) : Nat → State → State
  | 0, s => s
  | n + 1, s =>
    match (s.port onL).current with
    | none =>
      match (s.port onL).presented with
      | [] => s
      | q :: rest =>
        if s.accepts then
          runPort onL n (s.setPort onL { s.port onL with
            current := some (cutRequest s.steering.map q), presented := rest })
        else s
    | some _ =>
      let u := s.handle onL
      if (u.port onL).current.isNone then runPort onL n u else u

/-- Steps enough for the transaction inside and every one presented. -/
def Port.steps (x : Port) : Nat := 2 * x.presented.length + 2

/-- A port goes as far as it can. -/
def State.run (s : State) (onL : Bool) : State := s.runPort onL (s.port onL).steps

/-- What every step ends with: a held port L transaction that can go on does, and a CLOSING link that has
drained closes (R25, R41). -/
def State.resume (s : State) : State := (s.run true).closeDrained

/-- A master presents a transaction (R40, R41). -/
def State.present (s : State) (onL : Bool) (q : BusRequest) : State :=
  let s := s.setPort onL { s.port onL with presented := (s.port onL).presented ++ [q] }
  (s.run onL).closeDrained

/-! ### Port M (R45, R46, R48) -/

/-- A requester has a transaction waiting. -/
def State.waits (s : State) : MemoryRequester → Bool
  | .p => s.steering.p.accesses != []
  | .l => s.steering.l.accesses != []
  | .internal => s.internal.presenting.isSome

/-- The cyclic order after the pointer (R46). -/
def MemoryRequester.after : MemoryRequester → List MemoryRequester
  | .p => [.l, .internal, .p]
  | .l => [.internal, .p, .l]
  | .internal => [.p, .l, .internal]

/-- A command's result stands in memory and the command unit has not yet heard of it (R48, R180). -/
def State.resultUntaken (s : State) : Bool :=
  s.completions.any (fun c => match c with
    | .landed (.result _) => true
    | _ => false)

/-- The requester granted next (R46). While a result in memory waits for the command unit nothing is granted,
so that who reads 0x03 there finds the new region map in force (R180; log 48). -/
def State.granted (s : State) : Option MemoryRequester :=
  if s.resultUntaken then none else s.arbiter.after.find? s.waits

/-- The observations of a port P write portion: one for each entry whose byte 0 it enables (R45). -/
def observations (p : Portion) : List Completion :=
  let entries (base : Nat) (make : Nat → Byte → Completion) : List Completion :=
    (p.bytes.zipIdx).filterMap (fun b =>
      if (p.start + b.2 - base) % 32 = 0 then
        b.1.map (fun v => make ((p.start + b.2 - base) / 32) v)
      else none)
  match p.place with
  | .commandRing => entries (p.start / 1024 * 1024) (fun e v => .commandWrite (Fin.ofNat 32 e) v)
  | .reportRing number base => entries base (fun e v => .reportWrite number e v)
  | .unwatched => []
  | .descriptors _ _ => []
  | .transmitGuard _ => []
  | .receiveGuard _ => []
  | .phantom _ _ => []

/-- The portion of an access after port M has performed it, with what memory gave. -/
def Portion.served (p : Portion) (use : AccessUse) (address : Nat) (data : List Byte) : Portion :=
  match use with
  | .plain => { p with answer := data, done := true }
  | .descriptor _ => { p with answer := data, done := true }
  | .payload => { p with fetched := some (address, data) }
  | .store => { p with beatsPerformed := p.beatsPerformed + 1 }

/-- A portion of a port's transaction after its access. -/
def State.serve (s : State) (onL : Bool) (i : Nat) (f : Portion → Portion) : State :=
  match (s.port onL).current with
  | none => s
  | some t =>
    s.setPort onL { s.port onL with
      current := some { t with portions := t.portions.modify i f } }

/-- The place of the portion an access belongs to. -/
def State.placeOf (s : State) (onL : Bool) (i : Nat) : Option Portion :=
  (s.port onL).current.bind (fun t => t.portions[i]?)

/-- The transaction inside a port touches one descriptor area only (R34). -/
def State.oneRing (s : State) (onL : Bool) : Bool :=
  (s.port onL).current.any (fun t => (t.portions.filter (fun p =>
    match p.place with | .descriptors _ _ => true | _ => false)).length == 1)

/-- Port M performs an access of a port's requester whole (R46): a write goes to memory, and in a ring it
is observed (R45); a read gives its bytes to the portion, those of a descriptor through the link
unit. -/
def State.performAccess (s : State) (onL : Bool) (a : Access) : State :=
  match a.write with
  | some bytes =>
    let observed := if onL then [] else ((s.placeOf onL a.portion).map observations).getD []
    ({ s with
      memory := memWriteBytes s.memory a.address bytes
      completions := s.completions ++ observed }).serve onL a.portion
        (fun p => p.served a.use a.address [])
  | none =>
    let data := memReadBytes s.memory a.address (8 * a.beats)
    let r := match a.use, (s.placeOf onL a.portion).map (·.place) with
      | .descriptor closing, some (.descriptors r area) =>
        s.presentRead r area a.address data (s.oneRing onL) closing
      | _, _ => (s, data)
    r.1.serve onL a.portion (fun p => p.served a.use a.address r.2)

/-- A port's requester is granted: its oldest access is performed, and the port goes on. -/
def State.grantPort (s : State) (onL : Bool) : State :=
  match (s.port onL).accesses with
  | [] => s
  | a :: rest =>
    ((s.setPort onL { s.port onL with accesses := rest }).performAccess onL a).run onL

/-- The internal master is granted: the request it presents is performed, its place in the queue frees,
and what port M performed is kept for the block that asked (R46 to R48). -/
def State.grantInternal (s : State) : State :=
  match s.internal.presenting with
  | none => s
  | some .reads =>
    match s.internal.reads with
    | [] => s
    | r :: rest =>
      let data := memReadBytes s.memory r.address (8 * r.beats)
      let s := { s with
        internal := { s.internal with reads := rest, presenting := none }
        completions := s.completions ++ [Completion.data r.use data] }
      let s := s.admitWaitingRead
      { s with internal := s.internal.present }
  | some .writes =>
    match s.internal.writes with
    | [] => s
    | w :: rest =>
      let s := { s with
        internal := { s.internal with writes := rest, presenting := none }
        memory := memWriteBytes s.memory w.address (w.bytes.map some)
        completions := s.completions ++ [Completion.landed w.use] }
      let s := s.admitWaitingWrite
      { s with internal := s.internal.present }

/-- The arbiter grants port M (R46). -/
def State.grant (s : State) : State :=
  match s.granted with
  | none => s
  | some .p => ({ s with arbiter := .p }).grantPort false
  | some .l => ({ s with arbiter := .l }).grantPort true
  | some .internal => ({ s with arbiter := .internal }).grantInternal

end Sys2Proof.Machine
end

