-- ==== Sys2Proof/Machine/PowerSteps.lean ====
section
/-! DEFINITION. Power, reset, supply and the RETAIN line: POWER_ON, WARM_RESET, RESET_RELEASE, RETAIN_FALL,
RETAIN_RISE, MAIN_POWER_LOSS, VSTBY_LOSS (R54, R125, R126, R130). -/

namespace Sys2Proof.Machine

/-- The anchor that straps name: × 16 MiB (R42, R175). -/
def anchorOf (straps : Byte) : Nat := straps.toNat * 2 ^ 24

/-- Every volatile record of the part takes its reset value, under a region map that holds the command ring
at the anchor alone (R15, R17, R29, R42, R46, R47, R52, R104, R107, R124, R134, R135, R151, R168, R169,
R176). Kept: the lines, the ports, frame memory, the KEK slots and the marker, the model's counters and
the queue. -/
def State.resetBlocks (s : State) (anchor : Nat) : State :=
  { s with
    steering := { s.steering with map := RegionMap.reset anchor }
    arbiter := .internal
    internal := InternalMaster.reset
    completions := []
    links := Vector.replicate 8 Link.reset
    rings := Vector.replicate 16 none
    phantom := none
    cipher := CipherUnit.reset
    keys := KeyUnit.reset
    store := { s.store with requests := [], waiting := [], staging := none }
    time := TimeBase.reset
    reports := ReportUnit.reset
    command := CommandUnit.reset
    mail := Mail.none }

/-- A warm reset answers the transaction inside a port: zeroes for every beat not yet returned, an
acknowledgement for a write; an access not yet granted is discarded (R54). Held masters stay held. -/
def Port.answerReset (x : Port) : Port :=
  match x.current with
  | none => { x with accesses := [] }
  | some t =>
    let rest := zeroes (8 * t.request.beats - t.returned.length)
    { x with
      current := none
      accesses := []
      answered := some (if t.request.isRead then .data (t.returned ++ rest) else .acknowledged) }

/-- Main power takes the transactions inside the ports, and what was answered, with it. -/
def Port.powerLost (x : Port) : Port := { x with current := none, accesses := [], answered := none }

/-- A function of both ports. -/
def State.mapPorts (s : State) (f : Port → Port) : State :=
  { s with steering := { s.steering with p := f s.steering.p, l := f s.steering.l } }

/-- Both ports accept what held masters present (R54). -/
def State.runBoth (s : State) : State := ((s.run false).run true).closeDrained

/-- What the RETAIN line writes into the marker (R125, R126). -/
def markerOf (retain : Bool) : Marker := if retain then .live else .parked

/-! ### The power-on check (R126) -/

/-- The slots that the check makes INVALID. -/
def RetainedStore.invalidated (x : RetainedStore) : List Bool :=
  if x.cellsLost then [true, true, true, true]
  else
    match x.marker with
    | .parked => [false, false, false, false]
    | .live => x.slots.toList.map (fun k => k.state == .loaded)

/-- A slot after the check. -/
def RetainedStore.checkSlot (x : RetainedStore) (k : KekSlot) : KekSlot :=
  if x.cellsLost || (x.marker == .live && k.state == .loaded) then KekSlot.blank .invalid else k

/-- The report of the check, if it makes one. -/
def RetainedStore.checkReport (x : RetainedStore) : Option ReportDetail :=
  if x.cellsLost then some (.storeInvalid true x.invalidated)
  else if x.marker = .live then some (.storeInvalid false x.invalidated)
  else none

/-- The power-on check: slots, report, and the marker from RETAIN (R126). The report unit takes STORE_INVALID
in the same step, because its queue holds it before anything else can be posted (R174). -/
def State.checkStore (s : State) : State :=
  let x := s.store
  let s := { s with store := { x with
    slots := mapTable x.slots x.checkSlot
    marker := markerOf s.lines.retain
    cellsLost := false } }
  match x.checkReport with
  | none => s
  | some d => { s with reports := s.reports.take ⟨d, none, 0⟩ }

/-- POWER_ON (R54, R126): it happens when main power is absent (log 35), and VSTBY is present again with it
(log 42). -/
def execPowerOn (straps : Byte) (s : State) : Host.Outcome State Fault Refusal :=
  .next (if s.lines.powered then s
    else
      (({ s with lines := { s.lines with powered := true, vstby := true } }).resetBlocks
        (anchorOf straps)).checkStore.runBoth)

/-- WARM_RESET: RESET is asserted (R54); without main power only the line changes (log 35). -/
def execWarmReset (straps : Byte) (s : State) : Host.Outcome State Fault Refusal :=
  let s := { s with lines := { s.lines with resetAsserted := true } }
  .next (if s.lines.powered then (s.resetBlocks (anchorOf straps)).mapPorts Port.answerReset else s)

/-- RESET_RELEASE: the ports accept transactions again, those of held masters first (R54). -/
def execResetRelease (s : State) : Host.Outcome State Fault Refusal :=
  .next ({ s with lines := { s.lines with resetAsserted := false } }).runBoth

/-- RETAIN_FALL (R125): with main power, a LIVE store parks and its staging record is zeroized. -/
def execRetainFall (s : State) : Host.Outcome State Fault Refusal :=
  let s := { s with lines := { s.lines with retain := false } }
  .next (if s.lines.powered ∧ s.store.marker = .live then
      { s with store := { s.store with marker := .parked, staging := none } }
    else s)

/-- RETAIN_RISE (R125): with main power, the store unparks. -/
def execRetainRise (s : State) : Host.Outcome State Fault Refusal :=
  let s := { s with lines := { s.lines with retain := true } }
  .next (if s.lines.powered then { s with store := { s.store with marker := .live } } else s)

/-! ### Loss of main power (R126, R130) -/

/-- A KEK slot whose cells were being written as a whole: any state, and when that is LOADED any contents;
an EMPTY or INVALID slot holds no key material (R124, R126; log 13). -/
def tornSlot (n : Nat) : KekSlot :=
  match (Config.tornStateCode n).toNat with
  | 0 => KekSlot.blank .empty
  | 1 => ⟨.loaded, (List.range 32).map (Config.tornKeyByte n), Config.tornCounter n,
      Config.tornHighWater n⟩
  | _ => KekSlot.blank .invalid

/-- The slot that the command at the store writes: an acceptable LOAD_KEK part 2, or ERASE_KEK (R132,
R133). -/
def State.commandWrites (s : State) : Option KekIndex :=
  match s.dispatched with
  | none => none
  | some (_, record, _) =>
    let code := (byteAt record 1).toNat
    if code = 0x0D then kekArg (byteAt record 3)
    else if code = 0x0C ∧ byteAt record 3 = 2 then
      (kekArg (byteAt record 4)).filter (fun k =>
        s.store.staging.any (fun st => st.slot == k) && (s.kek k).state != .loaded)
    else none

/-- What the write under way leaves in the retained cells: a free value in the cells it writes, the rest as
it stood (R126, R130; log 13). A PARKED store writes nothing. -/
def State.tear (s : State) : State :=
  if s.store.marker = .parked then s
  else
    match s.store.requests with
    | .transmitCommit _ _ k :: _ =>
      if (s.kek k).state = .loaded ∧ (s.kek k).transmit ≠ BitVec.allOnes 48 then
        (s.setKek k { s.kek k with transmit := Config.tornCounter s.freeCount }).useFree
      else s
    | .receiveCommit _ _ k n q :: _ =>
      if (s.kek k).state = .loaded ∧ s.erasures k = n ∧ (s.kek k).highWater.toNat < q.toNat then
        (s.setKek k { s.kek k with highWater := Config.tornCounter s.freeCount }).useFree
      else s
    | .command :: _ =>
      match s.commandWrites with
      | some k => (s.setKek k (tornSlot s.freeCount)).useFree
      | none => s
    | .summary _ _ _ :: _ => s
    | .selection _ _ _ _ :: _ => s
    | .kekCheck _ _ :: _ => s
    | .keyFetch _ :: _ => s
    | [] => s

/-- The retained cells are lost when neither supply feeds them (R124, R126). -/
def State.feedCells (s : State) : State :=
  { s with store := { s.store with
    cellsLost := s.store.cellsLost || !(s.lines.powered || s.lines.vstby) } }

/-- MAIN_POWER_LOSS (R126, R130): every volatile record is lost, the retained cells keep what they hold when
VSTBY is present and are lost when it is not, and frame memory keeps its contents (log 8). -/
def execMainPowerLoss (s : State) : Host.Outcome State Fault Refusal :=
  .next (if s.lines.powered then
      let t := (s.tear.resetBlocks s.steering.map.anchor).mapPorts Port.powerLost
      ({ t with lines := { t.lines with powered := false } }).feedCells
    else s)

/-- VSTBY_LOSS (R124, R126): VSTBY is absent; without main power the retained cells are lost (log 42). -/
def execVstbyLoss (s : State) : Host.Outcome State Fault Refusal :=
  .next ({ s with lines := { s.lines with vstby := false } }).feedCells

end Sys2Proof.Machine
end

