-- ==== Sys2Proof/Machine/CommandRecord.lean ====
section
/-! DEFINITION. The command record of 12.4: the command that 32 fetched bytes hold, and the record
that holds a command. The owner reads the bytes the table names and ignores the rest (R184). -/

namespace Sys2Proof.Machine

/-- The command a fetched record holds, by its command code (R179, 12.4); none for a code that names
no command. -/
def decodeRecord (r : List Byte) : Option Instr :=
  let b (i : Nat) : Byte := byteAt r i
  let half (i : Nat) : Half := BitVec.ofNat 16 (fieldAt r i 2)
  let long (i : Nat) : Long := BitVec.ofNat 32 (fieldAt r i 4)
  match (b 1).toNat with
  | 0x01 => some .nop
  | 0x02 => some (.configLink (b 3) (half 4) (half 6) (b 8) (half 9) (b 11) (slice r 12 8))
  | 0x03 => some (.setGuard (b 3) (b 4) (long 5) (long 9))
  | 0x04 => some (.setRing (b 3) (b 4) (long 5) (half 9))
  | 0x05 => some (.clearRing (b 3) (b 4))
  | 0x06 => some (.openLink (b 3))
  | 0x07 => some (.closeLink (b 3))
  | 0x08 => some (.queryLink (b 3))
  | 0x09 => some (.setPhantom (b 3) (long 4))
  | 0x0A => some (.resetFilter (b 3))
  | 0x0B => some (.retireKey (b 3) (b 4))
  | 0x0C =>
    let counter : Seq := BitVec.ofNat 48 (fieldAt r 21 6)
    if b 3 = 2 then some (.loadKekPart2 (b 4) (slice r 5 16) counter)
    else some (.loadKekPart1 (b 3) (b 4) (slice r 5 16) counter)
  | 0x0D => some (.eraseKek (b 3))
  | 0x0E => some (.setTime (long 3) (half 7))
  | 0x0F => some (.setDrift (half 3))
  | 0x10 => some (.configClock (long 3) (b 7) (b 8))
  | 0x11 => some .measureClock
  | 0x12 => some (.configMonitor (b 3) (half 4) (half 6) (half 8) (b 10) (b 11) (b 12) (b 13))
  | 0x13 => some (.releaseLink (b 3))
  | 0x14 => some (.setReportRing (long 3) (half 7))
  | _ => none

/-- A posted record: byte 0 POSTED, the code, a zero result byte, the arguments, zeroes to 32. -/
def record (code : Byte) (arguments : List Byte) : List Byte :=
  let r := [0x01#8, code, 0x00#8] ++ arguments
  r ++ zeroes (32 - r.length)

/-- The record that posts a command (12.4); none for a step that is no command of the ring. -/
def encodeRecord : Instr → Option (List Byte)
  | .nop => some (record 0x01 [])
  | .configLink link wireId maxPayload keepalive grace binding mask =>
    some (record 0x02 ([link] ++ leBytes 2 wireId.toNat ++ leBytes 2 maxPayload.toNat ++
      [keepalive] ++ leBytes 2 grace.toNat ++ [binding] ++ mask))
  | .setGuard link direction base size =>
    some (record 0x03 ([link, direction] ++ leBytes 4 base.toNat ++ leBytes 4 size.toNat))
  | .setRing link direction base slots =>
    some (record 0x04 ([link, direction] ++ leBytes 4 base.toNat ++ leBytes 2 slots.toNat))
  | .clearRing link direction => some (record 0x05 [link, direction])
  | .openLink link => some (record 0x06 [link])
  | .closeLink link => some (record 0x07 [link])
  | .queryLink link => some (record 0x08 [link])
  | .setPhantom present base => some (record 0x09 ([present] ++ leBytes 4 base.toNat))
  | .resetFilter link => some (record 0x0A [link])
  | .retireKey link keyState => some (record 0x0B [link, keyState])
  | .loadKekPart1 part slot half counter =>
    some (record 0x0C ([part, slot] ++ half ++ leBytes 6 counter.toNat))
  | .loadKekPart2 slot half counter =>
    some (record 0x0C ([2, slot] ++ half ++ leBytes 6 counter.toNat))
  | .eraseKek slot => some (record 0x0D [slot])
  | .setTime seconds fraction =>
    some (record 0x0E (leBytes 4 seconds.toNat ++ leBytes 2 fraction.toNat))
  | .setDrift value => some (record 0x0F (leBytes 2 value.toNat))
  | .configClock fRef k autoPeriod => some (record 0x10 (leBytes 4 fRef.toNat ++ [k, autoPeriod]))
  | .measureClock => some (record 0x11 [])
  | .configMonitor link t d u i m r options =>
    some (record 0x12 ([link] ++ leBytes 2 t.toNat ++ leBytes 2 d.toNat ++ leBytes 2 u.toNat ++
      [i, m, r, options]))
  | .releaseLink link => some (record 0x13 [link])
  | .setReportRing base entries =>
    some (record 0x14 (leBytes 4 base.toNat ++ leBytes 2 entries.toNat))
  | .powerOn _ | .warmReset _ | .resetRelease | .retainFall | .retainRise | .portPRead _ _
  | .portPWrite _ _ | .portLRead _ _ | .portLWrite _ _ | .portMGrant | .internalWriteLanded
  | .internalReadData | .commandPosting | .commandFetch | .cipherTake | .cipherResult | .keyFetch
  | .sequenceRequest _ | .transmitCommit | .stateSummaryRequest | .keySelection _ | .kekSelection
  | .settleRequest _ | .receiveCommit | .kekCheck | .quarantineRequest _
  | .correctedSecondBoundary | .drainEnd _ | .keyOverdue _ | .keyExpiry _ | .silenceTimeout _
  | .autoMeasurementStart | .measurementWindowClose | .beaconAbsorb _ | .drainLimitExpiry _
  | .intervalEnd _ | .finalStatus _ | .noBufferEvent _ | .verifiedArrival _ | .reportPosting _
  | .reportWriterTake | .reportClearObserved | .rawTick | .refclkRisingEdge | .mainPowerLoss
  | .vstbyLoss => none

/-- The owner takes a dispatched command: the step happens when the dispatched record holds exactly
this command, and otherwise nothing is due (R179; logs 2, 10). -/
def State.offered (s : State) (c : Instr) : Option (List Byte × Seq) :=
  match s.dispatched with
  | some (_, rec, stamp) => if decodeRecord rec = some c then some (rec, stamp) else none
  | none => none

end Sys2Proof.Machine
end

