-- ==== Sys2Proof/Machine/BusSteps.lean ====
section
/-! DEFINITION. The bus steps: transactions on ports P and L, grants of port M, and what port M has done
delivered to the block that asked (R40 to R48), with the command ring's posting, fetch and dispatch
(R176 to R180). -/

namespace Sys2Proof.Machine

/-! ### Transactions (R40, R43, R44) -/

/-- A read is presented; what is no transaction is refused (R40; log 23). -/
def State.presentRequestRead (s : State) (onL : Bool) (start : Long) (beats : Nat) :
    Host.Outcome State Fault Refusal :=
  if beatCountLegal beats = false then .refused .malformedTransaction
  else if beatsInSpace start beats = false then .fault .beyondAddressSpace
  else .next (s.present onL ⟨true, firstBeat start, beats, []⟩)

/-- A write is presented; what is no transaction is refused (R40; log 23). -/
def State.presentRequestWrite (s : State) (onL : Bool) (start : Long) (bytes : List (Option Byte)) :
    Host.Outcome State Fault Refusal :=
  if writeLegal bytes = false then .refused .malformedTransaction
  else if beatsInSpace start (bytes.length / 8) = false then .fault .beyondAddressSpace
  else .next (s.present onL ⟨false, firstBeat start, bytes.length / 8, bytes⟩)

/-- PORT_P_READ (R44). -/
def execPortPRead (start : Long) (beats : Nat) (s : State) : Host.Outcome State Fault Refusal :=
  s.presentRequestRead false start beats

/-- PORT_P_WRITE (R44). -/
def execPortPWrite (start : Long) (bytes : List (Option Byte)) (s : State) :
    Host.Outcome State Fault Refusal :=
  s.presentRequestWrite false start bytes

/-- PORT_L_READ (R43). -/
def execPortLRead (start : Long) (beats : Nat) (s : State) : Host.Outcome State Fault Refusal :=
  s.presentRequestRead true start beats

/-- PORT_L_WRITE (R43). -/
def execPortLWrite (start : Long) (bytes : List (Option Byte)) (s : State) :
    Host.Outcome State Fault Refusal :=
  s.presentRequestWrite true start bytes

/-- PORT_M_GRANT (R46). -/
def execPortMGrant (s : State) : Host.Outcome State Fault Refusal := .next s.grant.closeDrained

/-! ### Landings (R38, R48, R169, R171, R180) -/

/-- The oldest completion of port M, when it is one the step is for (log 4). -/
def State.takeCompletion (s : State) : Option (Completion × State) :=
  match s.completions with
  | [] => none
  | c :: rest => some (c, { s with completions := rest })

/-- A command's result has landed: its entry leaves the queue, and the region map follows the blocks'
records (R180; log 30). -/
def State.resultLanded (s : State) : State :=
  { s with
    command := ⟨s.command.queue.tail, none⟩
    steering := { s.steering with map := s.ownMap } }

/-- The report ring is replaced or made absent: every flag cleared, the write index 0 (R169). -/
def State.replaceReportRing (s : State) (ring : Option (Nat × Nat)) : State :=
  { s with reports := { s.reports with
      ring := ring.map (fun r => ⟨r.1, r.2, s.reports.rings⟩)
      rings := s.reports.rings + 1
      valid := 0
      writeIndex := 0 } }

/-- A waiting SET_REPORT_RING takes effect (R169, R181). -/
def State.finishReportRing (s : State) : State :=
  match s.command.executing with
  | some ⟨_, .replacingRing record ring⟩ => (s.replaceReportRing ring).answer record .ok []
  | _ => s

/-- A record has landed: its flag is set, the write index moves on, and nothing is in flight (R171). -/
def State.recordLanded (s : State) (entry : Nat) : State :=
  let entries := (s.reports.ring.map (·.entries)).getD 1
  ({ s with reports := { s.reports with
      valid := setFlag s.reports.valid entry
      writeIndex := if s.reports.writeIndex + 1 < entries then s.reports.writeIndex + 1 else 0
      inFlight := none } }).finishReportRing

/-- The requesting block hears that its write has landed (R48). -/
def State.landed (s : State) : WriteUse → State
  | .replacement ring slot => s.replacementLanded ring slot
  | .result _ => s.resultLanded
  | .record entry => s.recordLanded entry

/-- INTERNAL_WRITE_LANDED (R48). -/
def execInternalWriteLanded (s : State) : Host.Outcome State Fault Refusal :=
  .next (match s.takeCompletion with
    | some (.landed use, t) => (t.landed use).resume
    | _ => s)

/-! ### Read data, dispatch (R48, R66, R178, R179) -/

/-- The commands whose owner is the retained store join its queue (R127). -/
def forStore (code : Nat) : Bool := code == 0x0C || code == 0x0D

/-- A fetched record: withdrawn unless its byte 0 is 0x01, answered at once when its code names no command,
else dispatched with the raw tick of its dispatch (R24, R178, R179). -/
def State.recordFetched (s : State) (entry : EntryIndex) (bytes : List Byte) : State :=
  match s.command.executing with
  | some ⟨e, .fetching⟩ =>
    if e ≠ entry then s
    else if byteAt bytes 0 ≠ 0x01 then { s with command := ⟨s.command.queue.tail, none⟩ }
    else if (decodeRecord bytes).isNone then s.answer bytes .unknownCommand []
    else
      let s := { s with command := { s.command with
        executing := some ⟨e, .dispatched bytes s.time.rawTick⟩ } }
      if forStore (byteAt bytes 1).toNat then s.askStore .command else s
  | _ => s

/-- The requesting block takes the data of its read (R48). -/
def State.readData (s : State) (use : ReadUse) (bytes : List Byte) : State :=
  match use with
  | .fetch entry => s.recordFetched entry bytes
  | .fill link ident => s.fillData link ident bytes

/-- INTERNAL_READ_DATA (R48). -/
def execInternalReadData (s : State) : Host.Outcome State Fault Refusal :=
  .next (match s.takeCompletion with
    | some (.data use bytes, t) => (t.readData use bytes).resume
    | _ => s)

/-! ### Posting and fetch (R177, R178) -/

/-- An observation joins the queue when it posts an entry that is not in it (R177). -/
def State.commandObserved (s : State) (entry : EntryIndex) (value : Byte) : State :=
  if value = 0x01 ∧ entry ∉ s.command.queue then
    { s with command := { s.command with queue := s.command.queue ++ [entry] } }
  else s

/-- COMMAND_POSTING (R177). -/
def execCommandPosting (s : State) : Host.Outcome State Fault Refusal :=
  .next (match s.takeCompletion with
    | some (.commandWrite entry value, t) => t.commandObserved entry value
    | _ => s)

/-- COMMAND_FETCH (R178): the head entry executes from the moment its fetch is issued (R176). -/
def execCommandFetch (s : State) : Host.Outcome State Fault Refusal :=
  .next (match s.command.executing, s.command.queue with
    | none, entry :: _ =>
      ({ s with command := { s.command with executing := some ⟨entry, .fetching⟩ } }).queueRead
        ⟨s.entryAddress entry, 4, .fetch entry⟩
    | _, _ => s)

end Sys2Proof.Machine
end

