-- ==== Sys2Proof/Machine/LinkCommands.lean ====
section
/-! DEFINITION. The commands of the command unit, the link unit, the two engines and the key unit: NOP,
CONFIG_LINK, SET_GUARD, SET_RING, CLEAR_RING, OPEN_LINK, CLOSE_LINK, QUERY_LINK, SET_PHANTOM, RESET_FILTER,
RETIRE_KEY (R19 to R27, R52, R100, R122, R182). -/

namespace Sys2Proof.Machine

/-- What an owner answers: its new state, the result code and the bytes returned (R179). -/
abbrev Answer := State × ResultCode × List (Nat × List Byte)

/-- A refused command changes no state (R179). -/
def State.refuse (s : State) (code : ResultCode) : Answer := (s, code, [])

/-- A command carried out that returns no bytes. -/
def State.accept (s : State) : Answer := (s, .ok, [])

/-- The owner takes the dispatched command and answers it; a step whose command is not the dispatched one
is not due (R179, R180; logs 2, 10). -/
def State.carryOut (s : State) (c : Instr) (f : State → Answer) : State :=
  match s.offered c with
  | none => s
  | some (record, _) => let a := f s; a.1.answer record a.2.1 a.2.2

/-- NOP (R182). -/
def execNop (s : State) : Host.Outcome State Fault Refusal :=
  .next (s.carryOut .nop State.accept)

/-! ### Configuring a link (R19 to R22) -/

/-- A KEK binding byte (12.4): 0 to 3, or 0xFF for none. -/
def bindingArg (b : Byte) : Option (Option KekIndex) :=
  if b = 0xFF then some none else (kekArg b).map some

/-- Another link record holds the wire id (R19). -/
def State.wireTaken (s : State) (l : LinkSlot) (wire : Half) : Bool :=
  allLinks.any (fun m => m != l && (s.link m).wireId == some wire)

/-- CONFIG_LINK's checks in order, and its effect (R19). -/
def State.configLink (s : State) (link : Byte) (wireId maxPayload : Half) (keepalive : Byte)
    (grace : Half) (binding : Byte) (mask : List Byte) : Answer :=
  match linkArg link, bindingArg binding with
  | some l, some kek =>
    let x := s.link l
    if x.state ≠ .closed then s.refuse .wrongState
    else if maxPayload.toNat < 64 ∨ 8192 < maxPayload.toNat ∨ wireId = 0 ∨ s.wireTaken l wireId then
      s.refuse .badArgument
    else (s.setLink l { x with
      wireId := some wireId
      maxPayload := maxPayload.toNat
      keepalive := keepalive.toNat
      grace := grace.toNat
      kek, mask
      filter := 0
      lastKeepalive := none }).accept
  | _, _ => s.refuse .badArgument

/-- CONFIG_LINK (R19). -/
def execConfigLink (link : Byte) (wireId maxPayload : Half) (keepalive : Byte) (grace : Half)
    (binding : Byte) (mask : List Byte) (s : State) : Host.Outcome State Fault Refusal :=
  .next (s.carryOut (.configLink link wireId maxPayload keepalive grace binding mask)
    (fun s => s.configLink link wireId maxPayload keepalive grace binding mask))

/-- A direction byte (12.4): false for 0 (transmit, outbound), true for 1 (receive, inbound). -/
def directionArg (b : Byte) : Option Bool :=
  if b = 0 then some false else if b = 1 then some true else none

/-- A link record with one guard replaced. -/
def Link.withGuard (x : Link) (inbound : Bool) (g : Option Region) : Link :=
  if inbound then { x with receive := g } else { x with transmit := g }

/-- The base and size that a guard may have (R20). -/
def guardLegal (base size : Nat) : Bool :=
  base % 4096 == 0 && size % 4096 == 0 && decide (size ≤ 2 ^ 24) && decide (base + size ≤ 2 ^ 32)

/-- SET_GUARD's checks in order, and its effect (R20). The guard replaced is left out of the
comparison. -/
def State.setGuard (s : State) (link direction : Byte) (base size : Nat) : Answer :=
  match linkArg link, directionArg direction with
  | some l, some inbound =>
    let x := s.link l
    if x.state ≠ .closed then s.refuse .wrongState
    else if size = 0 then (s.setLink l (x.withGuard inbound none)).accept
    else if guardLegal base size = false then s.refuse .badArgument
    else if (s.setLink l (x.withGuard inbound none)).ownMap.meets (base, size) then
      s.refuse .overlap
    else (s.setLink l (x.withGuard inbound (some ⟨base, size⟩))).accept
  | _, _ => s.refuse .badArgument

/-- SET_GUARD (R20). -/
def execSetGuard (link direction : Byte) (base size : Long) (s : State) :
    Host.Outcome State Fault Refusal :=
  .next (s.carryOut (.setGuard link direction base size)
    (fun s => s.setGuard link direction base.toNat size.toNat))

/-- The ring of one direction of a link record. -/
def Link.ringOf (x : Link) (inbound : Bool) : Option RingIndex :=
  if inbound then x.inRing else x.outRing

/-- A link record with the ring of one direction replaced. -/
def Link.withRing (x : Link) (inbound : Bool) (r : Option RingIndex) : Link :=
  if inbound then { x with inRing := r } else { x with outRing := r }

/-- A ring record freed. -/
def State.freeRing (s : State) (r : Option RingIndex) : State :=
  match r with
  | none => s
  | some r => s.setRing r none

/-- The ring record that SET_RING writes: the link's own of that direction, else the lowest-numbered free
one (R21). -/
def State.ringFor (s : State) (l : LinkSlot) (inbound : Bool) : Option RingIndex :=
  ((s.link l).ringOf inbound) <|> (allRings.find? (fun r => (s.ring r).isNone))

/-- The base and slot count that a ring may have (R21). -/
def ringLegal (base slots : Nat) : Bool :=
  base % 16 == 0 && decide (2 ≤ slots) && decide (slots ≤ 256) &&
    decide (base + 16 * slots ≤ 2 ^ 32)

/-- SET_RING's checks in order, and its effect (R21). A table without a free record for a link that lacks a
ring does not occur (log 43). -/
def State.registerRing (s : State) (link direction : Byte) (base slots : Nat) : Answer :=
  match linkArg link, directionArg direction with
  | some l, some inbound =>
    let x := s.link l
    if x.state ≠ .closed then s.refuse .wrongState
    else if ringLegal base slots = false then s.refuse .badArgument
    else if (s.freeRing (x.ringOf inbound)).ownMap.meets (base, 16 * slots) then s.refuse .overlap
    else
      match s.ringFor l inbound with
      | none => s.refuse .wrongState
      | some r =>
        ((s.setRing r (some ⟨l, !inbound, base, List.replicate slots SlotRecord.clear⟩)).setLink l
          (x.withRing inbound (some r))).accept
  | _, _ => s.refuse .badArgument

/-- SET_RING (R21). -/
def execSetRing (link direction : Byte) (base : Long) (slots : Half) (s : State) :
    Host.Outcome State Fault Refusal :=
  .next (s.carryOut (.setRing link direction base slots)
    (fun s => s.registerRing link direction base.toNat slots.toNat))

/-- CLEAR_RING's checks in order, and its effect (R22). -/
def State.removeRing (s : State) (link direction : Byte) : Answer :=
  match linkArg link, directionArg direction with
  | some l, some inbound =>
    let x := s.link l
    if x.state ≠ .closed then s.refuse .wrongState
    else ((s.freeRing (x.ringOf inbound)).setLink l (x.withRing inbound none)).accept
  | _, _ => s.refuse .badArgument

/-- CLEAR_RING (R22). -/
def execClearRing (link direction : Byte) (s : State) : Host.Outcome State Fault Refusal :=
  .next (s.carryOut (.clearRing link direction) (fun s => s.removeRing link direction))

/-! ### Opening, closing, querying (R23, R24, R27) -/

/-- A link record that OPEN_LINK may open (R23). -/
def Link.configured (x : Link) : Bool :=
  x.wireId.isSome && x.outRing.isSome && x.inRing.isSome && x.transmit.isSome && x.receive.isSome

/-- The link record as OPEN_LINK starts it (R23, R74, R152). -/
def Link.opened (x : Link) (stamp : Seq) : Link :=
  { x with state := .awaitKey, openStamp := some stamp, lastTransmit := none, lastArrival := none,
           filter := 0, lastKeepalive := none, idle := 0, health := x.health.restart }

/-- OPEN_LINK's checks and effect (R23). -/
def State.openLink (s : State) (link : Byte) : Answer :=
  match linkArg link with
  | none => s.refuse .badArgument
  | some l =>
    let x := s.link l
    if x.state ≠ .closed then s.refuse .wrongState
    else if x.configured = false then s.refuse .badArgument
    else (((s.setLink l (x.opened s.time.rawTick)).clearRing x.outRing).clearRing x.inRing).accept

/-- OPEN_LINK (R23). -/
def execOpenLink (link : Byte) (s : State) : Host.Outcome State Fault Refusal :=
  .next (s.carryOut (.openLink link) (fun s => s.openLink link))

/-- The drain begins (R24): the link is CLOSING, the limit counted from the dispatch, and the command waits
for CLOSED. -/
def State.startDrain (s : State) (l : LinkSlot) (record : List Byte) (stamp : Seq) : State :=
  let s := s.setLink l { s.link l with state := .closing, drainStart := some stamp }
  match s.command.executing with
  | none => s
  | some x => { s with command := { s.command with
      executing := some { x with phase := .closing record l } } }

/-- CLOSE_LINK (R24, R25). On a link that is CLOSED, or CLOSING already, it is refused (log 39). -/
def execCloseLink (link : Byte) (s : State) : Host.Outcome State Fault Refusal :=
  .next (match s.offered (.closeLink link) with
    | none => s
    | some (record, stamp) =>
      match linkArg link with
      | none => s.answer record .badArgument []
      | some l =>
        match (s.link l).state with
        | .closed => s.answer record .wrongState []
        | .closing => s.answer record .wrongState []
        | .awaitKey => (s.startDrain l record stamp).closeDrained
        | .keyed => (s.startDrain l record stamp).closeDrained
        | .quarantined => (s.startDrain l record stamp).closeDrained)

/-- The epoch of a key, or 0 (R27). -/
def State.epochOf (s : State) (k : Option KeyIndex) : Nat :=
  (k.map (fun k => (s.key k).epoch.toNat)).getD 0

/-- The flags of the snapshot (R27, 12.4); bits 5 to 7 are 0 (log 56). -/
def State.queryFlags (s : State) (l : LinkSlot) : Byte :=
  let x := s.link l
  let bit (n : Nat) (b : Bool) : Byte := if b then 1#8 <<< n else 0
  bit 0 ((s.currentKey l).any (fun k => (s.key k).state == .overdue)) ||| bit 1 x.health.silent |||
    bit 2 x.outContext.isSome ||| bit 3 x.inContext.isSome ||| bit 4 x.kek.isSome

/-- The snapshot of a link from argument byte 4 (R27, 12.4). -/
def State.snapshot (s : State) (l : LinkSlot) : List Byte :=
  let x := s.link l
  [x.state.code] ++ leBytes 2 x.wire.toNat ++ leBytes 2 (s.epochOf (s.currentKey l)) ++
    [s.queryFlags l] ++ leBytes 2 (s.epochOf (s.pendingKey l)) ++
    leBytes 2 (s.epochOf (s.drainingKey l)) ++ leBytes 2 x.health.e ++ leBytes 1 x.health.a ++
    leBytes 1 x.filter ++ leBytes 2 (s.pendingSlots x.outRing) ++ leBytes 2 (s.pendingSlots x.inRing)

/-- QUERY_LINK's check and answer (R27). -/
def State.queryLink (s : State) (link : Byte) : Answer :=
  match linkArg link with
  | none => s.refuse .badArgument
  | some l => (s, .ok, [(4, s.snapshot l)])

/-- QUERY_LINK (R27). -/
def execQueryLink (link : Byte) (s : State) : Host.Outcome State Fault Refusal :=
  .next (s.carryOut (.queryLink link) (fun s => s.queryLink link))

/-! ### The engines' commands (R52, R100) -/

/-- SET_PHANTOM's checks in order, and its effect (R52). -/
def State.placePhantom (s : State) (present : Byte) (base : Nat) : Answer :=
  if allLinks.any (fun l => (s.link l).state != .closed) then s.refuse .wrongState
  else if present = 0 then ({ s with phantom := none }).accept
  else if present ≠ 1 ∨ base % 512 ≠ 0 then s.refuse .badArgument
  else if ({ s with phantom := none }).ownMap.meets (base, 512) then s.refuse .overlap
  else ({ s with phantom := some base }).accept

/-- SET_PHANTOM (R52). -/
def execSetPhantom (present : Byte) (base : Long) (s : State) : Host.Outcome State Fault Refusal :=
  .next (s.carryOut (.setPhantom present base) (fun s => s.placePhantom present base.toNat))

/-- RESET_FILTER's check and effect (R100). -/
def State.resetFilter (s : State) (link : Byte) : Answer :=
  match linkArg link with
  | none => s.refuse .badArgument
  | some l => (s.setLink l { s.link l with filter := 0, lastKeepalive := none }).accept

/-- RESET_FILTER (R100). -/
def execResetFilter (link : Byte) (s : State) : Host.Outcome State Fault Refusal :=
  .next (s.carryOut (.resetFilter link) (fun s => s.resetFilter link))

/-! ### RETIRE_KEY (R122) -/

/-- The key that RETIRE_KEY's state byte names (12.4); none for a byte that names no state. -/
def State.namedKey (s : State) (l : LinkSlot) (keyState : Byte) : Option (Option KeyIndex) :=
  if keyState = 0 then some (s.pendingKey l)
  else if keyState = 1 then some (s.currentKey l)
  else if keyState = 2 then some (s.drainingKey l)
  else none

/-- RETIRE_KEY's checks in order, and its effect (R122). -/
def State.retireKey (s : State) (link keyState : Byte) : Answer :=
  match linkArg link with
  | none => s.refuse .badArgument
  | some l =>
    match s.namedKey l keyState with
    | none => s.refuse .badArgument
    | some none => s.refuse .wrongState
    | some (some k) => (s.retire k .command).accept

/-- RETIRE_KEY (R122). -/
def execRetireKey (link keyState : Byte) (s : State) : Host.Outcome State Fault Refusal :=
  .next (if (s.offered (.retireKey link keyState)).isSome then
      (s.carryOut (.retireKey link keyState) (fun s => s.retireKey link keyState)).resume
    else s)

end Sys2Proof.Machine
end

