-- ==== Sys2Proof/Machine/StoreSteps.lean ====
section
/-! DEFINITION. The retained store's steps: LOAD_KEK and ERASE_KEK (R131 to R133), and the requests of its
queue (R125, R127 to R130): transmit commit, state summary, KEK selection, receive commit, KEK check. -/

namespace Sys2Proof.Machine

/-- A KEK slot may be used: LOADED, and the store LIVE (R16, R125, R128). -/
def State.kekUsable (s : State) (k : KekIndex) : Bool :=
  s.store.marker == .live && (s.kek k).state == .loaded

/-- The KEK of a reference, where the store may still use it (R16): its slot is usable, and no erase has
taken the KEK of the reference away, though another may have been loaded since (R69, R133). -/
def State.usableKek (s : State) : KeyRef → Option (List Byte)
  | .kek k n => if s.kekUsable k ∧ s.erasures k = n then some (s.kek k).key else none
  | .session _ _ _ _ => none

/-- The store takes the request at the head of its queue (R127). -/
def State.takeRequest (s : State) : Option (StoreRequest × State) :=
  match s.store.requests with
  | [] => none
  | r :: rest => some (r, { s with store := s.store.tookHead r rest })

/-! ### Loading and erasing (R131 to R133) -/

/-- The store takes a command when its request is at the head of the queue (R127, R181). -/
def State.carryOutAtStore (s : State) (c : Instr) (f : State → Answer) : State :=
  match s.takeRequest with
  | some (.command, t) => if (s.offered c).isSome then t.carryOut c f else s
  | _ => s

/-- The 16 key bytes of a LOAD_KEK result are zero (R132, R180). -/
def keyScrub : List (Nat × List Byte) := [(5, zeroes 16)]

/-- LOAD_KEK part 1: the checks in order, then the staging record (R131). -/
def State.loadPart1 (s : State) (part slot : Byte) (half : List Byte) (counter : Seq) : Answer :=
  match kekArg slot with
  | none => (s, .badArgument, keyScrub)
  | some k =>
    if part ≠ 1 then (s, .badArgument, keyScrub)
    else if s.store.marker = .parked then (s, .storeParked, keyScrub)
    else if (s.kek k).state = .loaded then (s, .wrongState, keyScrub)
    else ({ s with store := { s.store with staging := some ⟨k, half, counter⟩ } }, .ok, keyScrub)

/-- LOAD_KEK_PART_1 (R131). -/
def execLoadKekPart1 (part slot : Byte) (half : List Byte) (counter : Seq) (s : State) :
    Host.Outcome State Fault Refusal :=
  .next (s.carryOutAtStore (.loadKekPart1 part slot half counter)
    (fun s => s.loadPart1 part slot half counter))

/-- LOAD_KEK part 2: the checks in order, then the slot in one step (R132). -/
def State.loadPart2 (s : State) (slot : Byte) (half : List Byte) (counter : Seq) : Answer :=
  match kekArg slot with
  | none => (s, .badArgument, keyScrub)
  | some k =>
    if s.store.marker = .parked then (s, .storeParked, keyScrub)
    else
      match s.store.staging.filter (fun st => st.slot == k) with
      | none => (s, .wrongState, keyScrub)
      | some st =>
        if (s.kek k).state = .loaded then (s, .wrongState, keyScrub)
        else
          let s := s.setKek k ⟨.loaded, st.half ++ half, st.counter, counter⟩
          ({ s with store := { s.store with staging := none } }, .ok, keyScrub)

/-- LOAD_KEK_PART_2 (R132). -/
def execLoadKekPart2 (slot : Byte) (half : List Byte) (counter : Seq) (s : State) :
    Host.Outcome State Fault Refusal :=
  .next (s.carryOutAtStore (.loadKekPart2 slot half counter)
    (fun s => s.loadPart2 slot half counter))

/-- The engine keeps the KEK that it is fetching and an erase is about to take away: a transform taken before
the erase completes with the old KEK (R133). -/
def State.keepFetched (s : State) (k : KekIndex) : State :=
  match s.cipher.engine with
  | .fetching q none =>
    if q.key = .held (s.kekRef k) then
      s.setEngine (.fetching q (s.usableKek (s.kekRef k)))
    else s
  | .fetching _ (some _) => s
  | .busy _ _ => s
  | .free => s

/-- ERASE_KEK: the checks in order, then the slot EMPTY (R133). -/
def State.eraseSlot (s : State) (slot : Byte) : Answer :=
  match kekArg slot with
  | none => s.refuse .badArgument
  | some k =>
    if s.store.marker = .parked then s.refuse .storeParked
    else ((s.keepFetched k).eraseKek k).accept

/-- ERASE_KEK (R133). -/
def execEraseKek (slot : Byte) (s : State) : Host.Outcome State Fault Refusal :=
  .next (s.carryOutAtStore (.eraseKek slot) (fun s => s.eraseSlot slot))

/-! ### Requests (R127 to R130) -/

/-- The answer to a transmit commit (R59, R129): the frame is bound to the KEK, or key-lost. An answer for
a context that has closed is discarded (R127). -/
def State.commitAnswered (s : State) (l : LinkSlot) (ident : Nat) (k : KekIndex) (q : Option Seq) :
    State :=
  match (s.link l).outContext.filter (fun c => c.awaits ident .commitAsked) with
  | none => s
  | some c =>
    match q with
    | some q => s.bindOut l c (s.kekRef k) 0 q
    | none => s.loseOut l .kekAbsent

/-- A transmit commit (R129): the counter raised and written, or failure. -/
def State.transmitCommit (s : State) (l : LinkSlot) (ident : Nat) (k : KekIndex) : State :=
  let x := s.kek k
  if s.kekUsable k ∧ x.transmit ≠ BitVec.allOnes 48 then
    (s.setKek k { x with transmit := x.transmit + 1 }).commitAnswered l ident k
      (some (x.transmit + 1))
  else s.commitAnswered l ident k none

/-- TRANSMIT_COMMIT (R129). -/
def execTransmitCommit (s : State) : Host.Outcome State Fault Refusal :=
  .next (match s.takeRequest with
    | some (.transmitCommit l ident k, t) => (t.transmitCommit l ident k).resume
    | _ => s)

/-- The answer to a state summary completes the status contents (R76, R128, 12.2). -/
def State.summarize (s : State) (l : LinkSlot) (ident : Nat) (slot : Option KekIndex) : State :=
  match (s.link l).outContext.filter (fun c => c.ident == ident && c.substituted) with
  | none => s
  | some c =>
    let summary := markerBit s.store.marker ||| kekSummaryBits (slot.map (fun k => (s.kek k).state))
    s.setOut l (some { c with contents := c.contents.set 7 summary, contentsComplete := true })

/-- STATE_SUMMARY_REQUEST (R128). -/
def execStateSummaryRequest (s : State) : Host.Outcome State Fault Refusal :=
  .next (match s.takeRequest with
    | some (.summary l ident slot, t) => (t.summarize l ident slot).resume
    | _ => s)

/-- A KEK selection with the high-water check (R86, R87, R128). -/
def State.selectKek (s : State) (k : KekIndex) (q : Seq) : Selection :=
  if s.kekUsable k = false then .refused .kekAbsent
  else if (s.kek k).highWater.toNat < q.toNat then .selected (s.kekRef k)
  else .replayed (s.kekRef k)

/-- KEK_SELECTION (R86). -/
def execKekSelection (s : State) : Host.Outcome State Fault Refusal :=
  .next (match s.takeRequest with
    | some (.selection l ident k q, t) => (t.selectionAnswered l ident (t.selectKek k q)).resume
    | _ => s)

/-- A receive commit (R96, R130): refused, or the high-water raised and the frame confirmed. One taken
after an erase of its KEK fails, whatever has been loaded since (R133). -/
def State.receiveCommit (s : State) (l : LinkSlot) (ident : Nat) (k : KekIndex) (n : Nat) (q : Seq) :
    State :=
  if s.usableKek (.kek k n) = none then s.confirmAnswered l ident (some .kekAbsent)
  else if (s.kek k).highWater.toNat < q.toNat then
    (s.setKek k { s.kek k with highWater := q }).confirmAnswered l ident none
  else s.confirmAnswered l ident (some .replay)

/-- RECEIVE_COMMIT (R96). -/
def execReceiveCommit (s : State) : Host.Outcome State Fault Refusal :=
  .next (match s.takeRequest with
    | some (.receiveCommit l ident k n q, t) => (t.receiveCommit l ident k n q).resume
    | _ => s)

/-- KEK_CHECK (R108, R128). -/
def execKekCheck (s : State) : Host.Outcome State Fault Refusal :=
  .next (match s.takeRequest with
    | some (.kekCheck job k, t) => (t.kekAnswered job k (t.kekUsable k)).resume
    | _ => s)

end Sys2Proof.Machine
end

