-- ==== Sys2Proof/Machine/CipherSteps.lean ====
section
/-! DEFINITION. The cipher unit's steps: CIPHER_TAKE, CIPHER_RESULT, and the key fetch from the retained
store, KEY_FETCH (R15, R16, R128). -/

namespace Sys2Proof.Machine

/-- A transform's output returns to the context or the job that asked; it is discarded when that is no
longer there (R16). -/
def State.deliver (s : State) (q : CipherRequest) (output : List Byte) : State :=
  match q.requester, q.purpose with
  | .outbound l, .block i => s.outBlock l q.ident i output
  | .inbound l, .block i => s.inBlock l q.ident i output
  | .keyUnit, .unwrap half => s.unwrapReturned q.ident half output
  | .keyUnit, .check => s.checkReturned q.ident output
  | _, _ => s

/-- A key-gone result (R16): delivered in the step that finds the key gone (log 34). -/
def State.deliverGone (s : State) (q : CipherRequest) : State :=
  match q.requester, q.key with
  | .outbound l, .held ref => s.outKeyGone l q.ident ref
  | .inbound l, .held ref => s.inKeyGone l q.ident ref
  | .keyUnit, _ => s.unwrapGone q.ident
  | _, .candidate => s

/-- The engine computes the transform under a key (R6, R16). -/
def State.transform (s : State) (q : CipherRequest) (key : List Byte) : State :=
  s.setEngine (.busy q (blockTransform key q.input))

/-- The candidate key of a job, zero when the job has ended (R16, R107). -/
def State.candidateOf (s : State) (ident : Nat) : List Byte :=
  (((s.keys.jobs.find? (fun j => j.ident == ident)).bind (·.candidate))).getD (zeroes 32)

/-- The engine takes a request and fetches its key: a session key or the candidate at once, a KEK from the
retained store (R16, R127). -/
def State.engineTakes (s : State) (q : CipherRequest) : State :=
  match q.key with
  | .candidate => s.transform q (s.candidateOf q.ident)
  | .held (.session k l epoch installation) =>
    if s.holds k l epoch installation then s.transform q (s.key k).key else s.deliverGone q
  | .held (.kek k _) => (s.setEngine (.fetching q none)).askStore (.keyFetch k)

/-- CIPHER_TAKE (R15, R16): the free engine takes the oldest request of the next requester. -/
def execCipherTake (s : State) : Host.Outcome State Fault Refusal :=
  .next (match s.cipher.engine, s.cipher.next? with
    | .free, some (i, q) =>
      let rest := s.cipher.queues[i].drop 1
      (({ s with cipher := { s.cipher with
        queues := s.cipher.queues.set i rest, pointer := i } }).engineTakes q).resume
    | _, _ => s)

/-- CIPHER_RESULT (R16): the transform ends, the engine is free, and the result returns. -/
def execCipherResult (s : State) : Host.Outcome State Fault Refusal :=
  .next (match s.cipher.engine with
    | .busy q output => ((s.setEngine .free).deliver q output).resume
    | .fetching _ _ => s
    | .free => s)

/-- The KEK that a fetch brings the engine: none, which is key-gone, while the store is PARKED (R16, R125); else
the one kept from an erase that came after the transform was taken (R133), or a copy of the slot's key where the
request may use it (R128). -/
def State.fetchedKek (s : State) (q : CipherRequest) (kept : Option (List Byte)) : Option (List Byte) :=
  match s.store.marker, kept, q.key with
  | .parked, _, _ => none
  | .live, some key, _ => some key
  | .live, none, .held ref => s.usableKek ref
  | .live, none, .candidate => none

/-- The store answers the key fetch: the engine computes the transform, or the request is key-gone (R125,
R128). A park between the taking and the fetch makes it key-gone, also after an erase there, which alone does not
(log 51). -/
def State.keyFetched (s : State) : State :=
  match s.cipher.engine with
  | .fetching q kept =>
    match s.fetchedKek q kept with
    | some key => s.transform q key
    | none => (s.setEngine .free).deliverGone q
  | .busy _ _ => s
  | .free => s

/-- KEY_FETCH (R128). -/
def execKeyFetch (s : State) : Host.Outcome State Fault Refusal :=
  .next (match s.takeRequest with
    | some (.keyFetch _, t) => t.keyFetched.resume
    | _ => s)

end Sys2Proof.Machine
end

