-- ==== Sys2Proof/Machine/KeySteps.lean ====
section
/-! DEFINITION. The key unit's steps: SEQUENCE_REQUEST, KEY_SELECTION, SETTLE_REQUEST (R58, R85, R95, R121),
and the tests of a boundary as steps of their own, DRAIN_END, KEY_OVERDUE, KEY_EXPIRY (R118, R119;
log 5). -/

namespace Sys2Proof.Machine

/-- The key unit takes the oldest request that satisfies a test (log 3). -/
def State.takeKeyRequest (s : State) (p : KeyRequest → Bool) : Option (KeyRequest × State) :=
  (takeFirst p s.keys.requests).map (fun r =>
    (r.1, { s with keys := { s.keys with requests := r.2 } }))

/-- A sequence request of a link. -/
def KeyRequest.isSequence (l : LinkSlot) : KeyRequest → Bool
  | .sequence m _ => m == l
  | .selection _ _ _ _ => false
  | .settle _ _ _ _ => false

/-- A selection of a link. -/
def KeyRequest.isSelection (l : LinkSlot) : KeyRequest → Bool
  | .sequence _ _ => false
  | .selection m _ _ _ => m == l
  | .settle _ _ _ _ => false

/-- A settle request of a link. -/
def KeyRequest.isSettle (l : LinkSlot) : KeyRequest → Bool
  | .sequence _ _ => false
  | .selection _ _ _ _ => false
  | .settle m _ _ _ => m == l

/-- The next sequence after one is released; none is released above 2^48 − 1, whose release retires the
key (R121). -/
def sequenceAfter (q : Seq) : Seq := if q = BitVec.allOnes 48 then q else q + 1

/-- The key unit answers a sequence request (R58, R121): the number is released and the frame bound, then
the two tests; without a key in force the engine goes on to the other cases of R57. A number released for
a context that has closed stays consumed. -/
def State.answerSequence (s : State) (l : LinkSlot) (ident : Nat) : State :=
  let waiting := (s.link l).outContext.filter (fun c => c.awaits ident .sequenceAsked)
  match s.currentKey l with
  | some k =>
    let x := s.key k
    let s := s.setKey k { x with nextSequence := sequenceAfter x.nextSequence }
    let s := match waiting with
      | none => s
      | some c => s.bindOut l c (x.ref k) x.epoch x.nextSequence
    (s.sequenceDueTest l k).sequenceLimitTest k x.nextSequence
  | none =>
    match waiting with
    | none => s
    | some c => s.releaseWithoutKey l c

/-- SEQUENCE_REQUEST (R58). -/
def execSequenceRequest (link : LinkSlot) (s : State) : Host.Outcome State Fault Refusal :=
  .next (match s.takeKeyRequest (KeyRequest.isSequence link) with
    | some (.sequence l ident, t) => (t.answerSequence l ident).resume
    | _ => s)

/-- KEY_SELECTION (R85, R87). -/
def execKeySelection (link : LinkSlot) (s : State) : Host.Outcome State Fault Refusal :=
  .next (match s.takeKeyRequest (KeyRequest.isSelection link) with
    | some (.selection l ident epoch q, t) =>
      (t.selectionAnswered l ident (t.selectKey l epoch q)).resume
    | _ => s)

/-- The key unit answers a settle request (R95): gone, or marked and the frame confirmed. -/
def State.answerSettle (s : State) (l : LinkSlot) (ident : Nat) (ref : KeyRef) (q : Seq) : State :=
  match ref with
  | .kek _ _ => s
  | .session k m epoch installation =>
    let r := s.settleKey k m epoch installation q
    r.1.confirmAnswered l ident (if r.2 then none else some .keyLost)

/-- SETTLE_REQUEST (R95). -/
def execSettleRequest (link : LinkSlot) (s : State) : Host.Outcome State Fault Refusal :=
  .next (match s.takeKeyRequest (KeyRequest.isSettle link) with
    | some (.settle l ident ref q, t) => (t.answerSettle l ident ref q).resume
    | _ => s)

/-- DRAIN_END (R119). -/
def execDrainEnd (link : LinkSlot) (s : State) : Host.Outcome State Fault Refusal :=
  .next (s.drainEndTest link).resume

/-- KEY_OVERDUE (R118). -/
def execKeyOverdue (link : LinkSlot) (s : State) : Host.Outcome State Fault Refusal :=
  .next (s.overdueTest link)

/-- KEY_EXPIRY (R118). -/
def execKeyExpiry (link : LinkSlot) (s : State) : Host.Outcome State Fault Refusal :=
  .next (s.expiryTest link).resume

end Sys2Proof.Machine
end

