-- ==== Sys2Proof/Machine/TimeSteps.lean ====
section
/-! DEFINITION. The time base's steps: RAW_TICK, REFCLK_RISING_EDGE, CORRECTED_SECOND_BOUNDARY with what its
readers do, SILENCE_TIMEOUT, AUTO_MEASUREMENT_START, MEASUREMENT_WINDOW_CLOSE, BEACON_ABSORB, SET_TIME,
SET_DRIFT, CONFIG_CLOCK, MEASURE_CLOCK, DRAIN_LIMIT_EXPIRY (R26, R74, R134 to R149, R162). -/

namespace Sys2Proof.Machine

/-! ### What a tick makes due -/

/-- The part runs: main power is present and RESET is released (R54, R135). -/
def State.running (s : State) : Bool := s.lines.powered && !s.lines.resetAsserted

/-- A corrected second boundary is due (R136). -/
def TimeBase.boundaryDue (t : TimeBase) : Bool := decide (t.length ≤ t.ticks)

/-- The measurement window closes (R140). -/
def TimeBase.windowDue (t : TimeBase) : Bool :=
  t.measurement.any (fun m => m.windowOpen && decide (2 ^ m.k ≤ m.count))

/-- The drain limit of R24, in raw ticks. -/
def drainLimit : Nat := 65536

/-- The drain limit of a CLOSING link has expired (R24, R26). -/
def State.limitDue (s : State) (l : LinkSlot) : Bool :=
  (s.link l).state == .closing &&
    (s.link l).drainStart.any (fun t => decide (drainLimit ≤ s.ticksSince t))

/-- Something that a tick made due has not yet been taken; the next tick waits for it (log 6). -/
def State.tickWaits (s : State) : Bool :=
  s.time.boundaryDue || s.time.windowDue ||
    allLinks.any (fun l => (s.link l).health.due || s.limitDue l)

/-! ### Raw ticks and REFCLK (R134, R140, R155) -/

/-- The raw tick counter after a tick; past its last value it is free (R134; log 14). -/
def State.countTick (s : State) : State :=
  if s.time.rawTick = BitVec.allOnes 48 then
    ({ s with time := { s.time with rawTick := Config.rawTickAfterWrap s.freeCount } }).useFree
  else { s with time := { s.time with rawTick := s.time.rawTick + 1 } }

/-- A measurement at a tick (R139, R140): the window opens, or its count rises (log 29). -/
def Measurement.tick (m : Measurement) : Measurement :=
  if m.windowOpen then { m with count := m.count + 1 } else { m with windowOpen := true }

/-- The interval timer of an open link at a tick (R155). -/
def Health.tick (h : Health) : Health :=
  { h with timer := h.timer + 1, due := h.due || decide (h.i * 512 ≤ h.timer + 1) }

/-- A link record at a tick. -/
def Link.tick (x : Link) : Link := if x.state.isOpen then { x with health := x.health.tick } else x

/-- The time base's own part of a tick (R136, R140). -/
def TimeBase.tick (t : TimeBase) : TimeBase :=
  { t with ticks := t.ticks + 1, measurement := t.measurement.map Measurement.tick }

/-- One raw tick (R134, R136, R140, R155). -/
def State.tick (s : State) : State :=
  let s := s.countTick
  { s with time := s.time.tick, links := mapTable s.links Link.tick }

/-- RAW_TICK (R134). While an event that an earlier tick made due waits, and while the part does not run,
it is not due (logs 6, 35). -/
def execRawTick (s : State) : Host.Outcome State Fault Refusal :=
  .next (if s.running ∧ s.tickWaits = false then s.tick else s)

/-- An edge in an open window raises N, saturating at 2^32 − 1; at a count of 2^k the window has closed
(R140). -/
def Measurement.edge (m : Measurement) : Measurement :=
  if m.windowOpen ∧ m.count < 2 ^ m.k then { m with edges := satAdd (2 ^ 32 - 1) m.edges 1 } else m

/-- REFCLK_RISING_EDGE (R140). -/
def execRefclkRisingEdge (s : State) : Host.Outcome State Fault Refusal :=
  .next { s with time := { s.time with measurement := s.time.measurement.map Measurement.edge } }

/-! ### Measurement (R139 to R143) -/

/-- A measurement starts in IDLE (R139); in MEASURING a start is dropped. -/
def TimeBase.startMeasurement (t : TimeBase) (automatic : Bool) : TimeBase :=
  match t.measurement with
  | some _ => t
  | none => { t with measurement := some ⟨t.fRef, t.k, automatic, false, 0, 0⟩ }

/-- The nearest whole number to a / b, a half rounded away from zero (R142). -/
def roundRatio (a : Int) (b : Nat) : Int :=
  let n : Int := ((2 * a.natAbs + b) / (2 * b) : Nat)
  if a < 0 then -n else n

/-- The drift word held in its range (R142, R148). -/
def clampDrift (v : Int) : Int := max (-4096) (min 4095 v)

/-- X = f_ref × 2^k (R141). -/
def Measurement.x (m : Measurement) : Nat := m.fRef * 2 ^ m.k
/-- Y = N × 32,768 (R141). -/
def Measurement.y (m : Measurement) : Nat := m.edges * 32768

/-- The measurement is valid (R141): within 500 ppm, N neither 0 nor saturated. -/
def Measurement.valid (m : Measurement) : Bool :=
  m.edges != 0 && m.edges != 2 ^ 32 - 1 &&
    decide (((m.x : Int) - m.y).natAbs * 2000 ≤ m.x)

/-- C′ of a valid measurement (R142). -/
def Measurement.drift (m : Measurement) : Int := roundRatio (2 ^ 25 * ((m.x : Int) - m.y)) m.y

/-- A report of the time base. -/
def State.postTime (s : State) (d : ReportDetail) : State := s.post .timeBase none d

/-- The evaluation of R141 and R142. -/
def State.evaluateMeasurement (s : State) (m : Measurement) : State :=
  let s := { s with time := { s.time with measurement := none } }
  if m.valid = false then s.postTime (.refOutOfRange m.edges m.fRef m.k)
  else
    let formed := m.drift
    let applied := clampDrift formed
    let s := { s with time := { s.time with c := applied } }
    let s := if applied = formed then s else s.postTime (.oscTolerance formed applied)
    s.postTime (.clockMeasured m.edges applied m.automatic)

/-- MEASUREMENT_WINDOW_CLOSE (R141, R142). -/
def execMeasurementWindowClose (s : State) : Host.Outcome State Fault Refusal :=
  .next (match s.time.measurement with
    | some m => if s.time.windowDue then s.evaluateMeasurement m else s
    | none => s)

/-- The auto count has reached 60 × the auto period (R143): it returns to 0 and a measurement starts, or is
dropped. -/
def TimeBase.autoStart (t : TimeBase) : TimeBase :=
  if t.autoPeriod ≠ 0 ∧ 60 * t.autoPeriod ≤ t.autoCount then
    ({ t with autoCount := 0 }).startMeasurement true
  else t

/-- AUTO_MEASUREMENT_START (R143; log 5). -/
def execAutoMeasurementStart (s : State) : Host.Outcome State Fault Refusal :=
  .next { s with time := s.time.autoStart }

/-! ### The corrected second boundary (R136, R137) -/

/-- The boundary's step of the time base (R136). -/
def TimeBase.boundary (t : TimeBase) : TimeBase :=
  let sum := t.f + t.c
  let slew := max (-32) (min 32 t.s)
  { t with
    seconds := t.seconds + 1
    ticks := 0
    f := sum % 1024
    s := t.s - slew
    length := (32768 + sum / 1024 - slew).toNat }

/-- The auto count rises (R143). -/
def TimeBase.countAuto (t : TimeBase) : TimeBase :=
  if t.autoPeriod = 0 then t else { t with autoCount := t.autoCount + 1 }

/-- An open link's idle and quiet counts rise (R74, R162). -/
def Link.second (x : Link) : Link :=
  if x.state.isOpen then
    { x with idle := satAdd 256 x.idle 1,
             health := { x.health with quiet := satAdd 765 x.health.quiet 1 } }
  else x

/-- The link enters silence (R162, R163). -/
def State.enterSilence (s : State) (l : LinkSlot) (cause : SilenceCause) : State :=
  (s.setHealth l { (s.link l).health with silent := true }).post .healthMonitor (some l)
    (.linkSilent cause (s.link l).lastArrival)

/-- The silence timeout (R162): an open link with a keepalive period whose quiet count has reached three of
them, and that is not silent yet. -/
def State.silenceTest (s : State) (l : LinkSlot) : State :=
  let x := s.link l
  if x.state.isOpen ∧ x.keepalive ≠ 0 ∧ 3 * x.keepalive ≤ x.health.quiet ∧
      x.health.silent = false then
    s.enterSilence l .timeout
  else s

/-- The boundary and what its readers do (R120, R137, R143) as one step (log 5). R137 imposes no order among
the readers, and the links are independent: the model takes the key unit for links 0 to 7 in ascending order,
then the idle and quiet counts, then the silence tests of links 0 to 7, then the auto count, and the postings
of the step have that order (log 50). -/
def State.boundary (s : State) : State :=
  let s := { s with time := s.time.boundary }
  let s := allLinks.foldl State.keyBoundary s
  let s := { s with links := mapTable s.links Link.second }
  let s := allLinks.foldl State.silenceTest s
  { s with time := s.time.countAuto.autoStart }

/-- CORRECTED_SECOND_BOUNDARY (R136, R137). -/
def execCorrectedSecondBoundary (s : State) : Host.Outcome State Fault Refusal :=
  .next (if s.time.boundaryDue then s.boundary.resume else s)

/-- SILENCE_TIMEOUT (R162; log 5). -/
def execSilenceTimeout (link : LinkSlot) (s : State) : Host.Outcome State Fault Refusal :=
  .next (s.silenceTest link)

/-! ### Beacons and the time commands (R144 to R149) -/

/-- Δ between a given time and the part's own, in raw ticks (R144). -/
def TimeBase.delta (t : TimeBase) (seconds : Long) (fraction : Half) : Int :=
  ((seconds.toNat * 32768 + fraction.toNat / 2 : Nat) : Int) -
    ((t.seconds.toNat * 32768 + t.ticks : Nat) : Int)

/-- The step (R146). -/
def TimeBase.stepTo (t : TimeBase) (seconds : Long) (fraction : Half) : TimeBase :=
  { t with seconds, ticks := min (fraction.toNat / 2) (t.length - 1), s := 0, valid := true }

/-- The step with its report (R146). -/
def State.stepTime (s : State) (seconds : Long) (fraction : Half) (byCommand : Bool) : State :=
  let delta := s.time.delta seconds fraction
  ({ s with time := s.time.stepTo seconds fraction }).postTime
    (.timeStepped (saturate32 delta) seconds byCommand s.time.valid)

/-- What the time base does with a beacon (R144, R145, R146). -/
def State.absorbBeacon (s : State) (payload : List Byte) : State :=
  let seconds := beaconSeconds payload
  let fraction := beaconFraction payload
  let delta := s.time.delta seconds fraction
  if s.time.valid = false ∨ beaconStep payload ∨ 65536 < delta.natAbs then
    s.stepTime seconds fraction false
  else { s with time := { s.time with s := delta } }

/-- BEACON_ABSORB (R144). -/
def execBeaconAbsorb (link : LinkSlot) (s : State) : Host.Outcome State Fault Refusal :=
  .next (match takeFirst (fun b => b.1 == link) s.mail.beacons with
    | none => s
    | some ((_, payload), rest) =>
      ({ s with mail := { s.mail with beacons := rest } }).absorbBeacon payload)

/-- SET_TIME's effect and the bytes it returns (R147, 12.4). -/
def State.applyTime (s : State) (seconds : Long) (fraction : Half) : Answer :=
  (s.stepTime seconds fraction true, .ok,
    [(9, leBytes 4 s.time.seconds.toNat ++ leBytes 2 s.time.ticks ++
      signedBytes 4 (saturate32 (s.time.delta seconds fraction)))])

/-- SET_TIME (R147). -/
def execSetTime (seconds : Long) (fraction : Half) (s : State) : Host.Outcome State Fault Refusal :=
  .next (s.carryOut (.setTime seconds fraction) (fun s => s.applyTime seconds fraction))

/-- SET_DRIFT's effect and the bytes it returns (R148, 12.4). -/
def State.applyDrift (s : State) (value : Half) : Answer :=
  let applied := clampDrift (signed16 value)
  ({ s with time := { s.time with c := applied } }, .ok,
    [(5, signedBytes 2 s.time.c ++ signedBytes 2 applied)])

/-- SET_DRIFT (R148). -/
def execSetDrift (value : Half) (s : State) : Host.Outcome State Fault Refusal :=
  .next (s.carryOut (.setDrift value) (fun s => s.applyDrift value))

/-- CONFIG_CLOCK's check and effect (R149). -/
def State.configureClock (s : State) (fRef : Nat) (k autoPeriod : Byte) : Answer :=
  if fRef < 8000 ∨ 25000000 < fRef ∨ k.toNat < 10 ∨ 15 < k.toNat then s.refuse .badArgument
  else
    ({ s with time := { s.time with
      fRef, k := k.toNat, autoPeriod := autoPeriod.toNat, autoCount := 0 } }).accept

/-- CONFIG_CLOCK (R149). -/
def execConfigClock (fRef : Long) (k autoPeriod : Byte) (s : State) :
    Host.Outcome State Fault Refusal :=
  .next (s.carryOut (.configClock fRef k autoPeriod)
    (fun s => s.configureClock fRef.toNat k autoPeriod))

/-- MEASURE_CLOCK's check and effect (R139). -/
def State.measure (s : State) : Answer :=
  match s.time.measurement with
  | some _ => s.refuse .busy
  | none => ({ s with time := s.time.startMeasurement false }).accept

/-- MEASURE_CLOCK (R139). -/
def execMeasureClock (s : State) : Host.Outcome State Fault Refusal :=
  .next (s.carryOut .measureClock State.measure)

/-! ### The drain limit (R26) -/

/-- The drain limit forces the drain (R26, R73, R82): a held read of the outbound context is answered, both
contexts close, held writes are released, and slots that wait for a job are replaced. What a held master
presents on port L is accepted after that. The replacements of this one step begin to wait together where the
write queue is full, and R47 lets them join in either order; the model's order is outbound, inbound, then the
slots that wait for a job in ascending order (log 54). -/
def State.forceDrain (s : State) (l : LinkSlot) : State :=
  let s := s.setLink l { s.link l with drainStart := none }
  ((((s.loseAtLimit l).handle true).forceOut l).forceIn l).forceJobs l

/-- DRAIN_LIMIT_EXPIRY (R26). -/
def execDrainLimitExpiry (link : LinkSlot) (s : State) : Host.Outcome State Fault Refusal :=
  .next (if s.limitDue link then (s.forceDrain link).resume else s)

end Sys2Proof.Machine
end

