-- ==== Sys2Proof/Machine/HealthSteps.lean ====
section
/-! DEFINITION. The health monitor's steps: INTERVAL_END, FINAL_STATUS, NO_BUFFER_EVENT, VERIFIED_ARRIVAL,
QUARANTINE_REQUEST, and its commands CONFIG_MONITOR and RELEASE_LINK (R151 to R165). -/

namespace Sys2Proof.Machine

/-! ### Interval evaluation (R156, R157, R159) -/

/-- The interval is judged errored (R156). -/
def Health.isErrored (h : Health) : Bool := h.errored || h.silent

/-- E after the interval (R156). -/
def Health.nextError (h : Health) : Nat :=
  if h.isErrored then satAdd 65535 h.e h.d else h.e - h.u

/-- The clean run after the interval (R156). -/
def Health.nextClean (h : Health) : Nat :=
  if h.isErrored then 0 else if h.nextError = 0 then satAdd 255 h.cleanRun 1 else 0

/-- The alarm test is met (R157). -/
def Health.alarms (h : Health) : Bool := decide (h.t ≤ h.nextError)

/-- A after the alarm test (R157). -/
def Health.nextAlarm (h : Health) : Nat := if h.alarms then satAdd 255 h.a 1 else h.a

/-- The record after an evaluation: E, the clean run, the alarm, forgiveness, the errored flag and the timer
(R155, R156, R157, R159). -/
def Health.evaluate (h : Health) : Health :=
  let forgives := decide (h.r ≤ h.nextClean)
  { h with
    e := if h.alarms then 0 else h.nextError
    a := if forgives then 0 else h.nextAlarm
    cleanRun := if forgives then 0 else h.nextClean
    errored := false
    timer := 0
    due := false }

/-- The monitor asks for quarantine (R157, step 4). -/
def State.askQuarantine (s : State) (l : LinkSlot) (a : Nat) : State :=
  { s with mail := { s.mail with quarantines := s.mail.quarantines ++ [(l, a)] } }

/-- The evaluation of a link's interval (R156, R157, R159). -/
def State.evaluateInterval (s : State) (l : LinkSlot) : State :=
  let h := (s.link l).health
  let s := s.setHealth l h.evaluate
  if h.alarms then
    let s := s.post .healthMonitor (some l) (.healthAlarm h.nextError h.nextAlarm)
    if h.m ≠ 0 ∧ h.m ≤ h.nextAlarm then s.askQuarantine l h.nextAlarm else s
  else s

/-- INTERVAL_END (R155, R156). -/
def execIntervalEnd (link : LinkSlot) (s : State) : Host.Outcome State Fault Refusal :=
  .next (if (s.link link).health.due then s.evaluateInterval link else s)

/-! ### What the monitor hears (R153, R154, R162 to R164) -/

/-- The errored flag set. -/
def State.setErrored (s : State) (l : LinkSlot) : State :=
  s.setHealth l { (s.link l).health with errored := true }

/-- A final status (R153, R163): ignored for a CLOSED link (R152). -/
def State.takeStatus (s : State) (n : StatusNotice) : State :=
  if (s.link n.link).state = .closed then s
  else
    let s := if n.errs then s.setErrored n.link else s
    if n.isAbort ∧ (s.link n.link).health.silent = false then
      s.enterSilence n.link (if n.inbound then .inboundAbort else .outboundAbort)
    else s

/-- FINAL_STATUS (R153). -/
def execFinalStatus (link : LinkSlot) (s : State) : Host.Outcome State Fault Refusal :=
  .next (match takeFirst (fun n => n.link == link) s.mail.statuses with
    | none => s
    | some (n, rest) => ({ s with mail := { s.mail with statuses := rest } }).takeStatus n)

/-- A no-buffer event (R154). -/
def State.takeNoBuffer (s : State) (l : LinkSlot) : State :=
  if (s.link l).state.isOpen ∧ (s.link l).health.noBuffer then s.setErrored l else s

/-- NO_BUFFER_EVENT (R154). -/
def execNoBufferEvent (link : LinkSlot) (s : State) : Host.Outcome State Fault Refusal :=
  .next (match takeFirst (· == link) s.mail.noBuffers with
    | none => s
    | some (l, rest) => ({ s with mail := { s.mail with noBuffers := rest } }).takeNoBuffer l)

/-- A verified arrival (R164). -/
def State.takeArrival (s : State) (l : LinkSlot) : State :=
  let h := (s.link l).health
  if (s.link l).state = .closed then s
  else
    let s := s.setHealth l { h with quiet := 0, silent := false }
    if h.silent then s.post .healthMonitor (some l) (.linkHeard h.quiet) else s

/-- VERIFIED_ARRIVAL (R164). -/
def execVerifiedArrival (link : LinkSlot) (s : State) : Host.Outcome State Fault Refusal :=
  .next (match takeFirst (· == link) s.mail.arrivals with
    | none => s
    | some (l, rest) => ({ s with mail := { s.mail with arrivals := rest } }).takeArrival l)

/-! ### Quarantine (R158, R160) -/

/-- The link unit takes a quarantine request (R158): a KEYED link is quarantined, and the monitor clears A
and reports; in any other state nothing happens. -/
def State.quarantine (s : State) (l : LinkSlot) (a : Nat) : State :=
  let x := s.link l
  if x.state = .keyed then
    (s.setLink l { x with state := .quarantined, health := { x.health with a := 0 } }).post
      .healthMonitor (some l) (.linkQuarantined a)
  else s

/-- QUARANTINE_REQUEST (R158). -/
def execQuarantineRequest (link : LinkSlot) (s : State) : Host.Outcome State Fault Refusal :=
  .next (match takeFirst (fun q => q.1 == link) s.mail.quarantines with
    | none => s
    | some ((l, a), rest) => ({ s with mail := { s.mail with quarantines := rest } }).quarantine l a)

/-- RELEASE_LINK's checks and effect (R160). -/
def State.releaseLink (s : State) (link : Byte) : Answer :=
  match linkArg link with
  | none => s.refuse .badArgument
  | some l =>
    let x := s.link l
    if x.state ≠ .quarantined then s.refuse .wrongState
    else
      ((s.setLink l { x with state := .keyed, health := { x.health with e := 0, a := 0 } }).post
        .healthMonitor (some l) (.linkReleased .command x.health.e x.health.a)).accept

/-- RELEASE_LINK (R160). -/
def execReleaseLink (link : Byte) (s : State) : Host.Outcome State Fault Refusal :=
  .next (s.carryOut (.releaseLink link) (fun s => s.releaseLink link))

/-! ### CONFIG_MONITOR (R165) -/

/-- CONFIG_MONITOR's checks and effect (R165); bit 0 of the options byte is the no-buffer option
(12.4). -/
def State.configureMonitor (s : State) (link : Byte) (t d u : Half) (i m r options : Byte) :
    Answer :=
  match linkArg link with
  | none => s.refuse .badArgument
  | some l =>
    if t = 0 ∨ i = 0 ∨ r = 0 then s.refuse .badArgument
    else (s.setHealth l { (s.link l).health with
      t := t.toNat, d := d.toNat, u := u.toNat, i := i.toNat, m := m.toNat, r := r.toNat,
      noBuffer := options.getLsbD 0 }).accept

/-- CONFIG_MONITOR (R165). -/
def execConfigMonitor (link : Byte) (t d u : Half) (i m r options : Byte) (s : State) :
    Host.Outcome State Fault Refusal :=
  .next (s.carryOut (.configMonitor link t d u i m r options)
    (fun s => s.configureMonitor link t d u i m r options))

end Sys2Proof.Machine
end

