-- ==== Sys2Proof/Machine/ReportSteps.lean ====
section
/-! DEFINITION. The report unit's steps: REPORT_POSTING, REPORT_WRITER_TAKE, REPORT_CLEAR_OBSERVED, and
SET_REPORT_RING (R168 to R174). -/

namespace Sys2Proof.Machine

/-- REPORT_POSTING (R168): the report unit takes the oldest posting, when it is the named block's: the
pending queue is kept in the order of posting (logs 2, 3, 49). -/
def execReportPosting (source : ReportSource) (s : State) : Host.Outcome State Fault Refusal :=
  .next (match s.mail.reports with
    | [] => s
    | (block, r) :: rest =>
      if block = source then
        { s with mail := { s.mail with reports := rest }, reports := s.reports.take r }
      else s)

/-- A SET_REPORT_RING has been dispatched and has not yet taken effect: the writer takes nothing, so that
the record in flight at the dispatch is the last one before it (R169, R170; log 53). -/
def State.ringWaits (s : State) : Bool :=
  match s.command.executing with
  | some ⟨_, .replacingRing _ _⟩ => true
  | some ⟨_, .dispatched record _⟩ => byteAt record 1 == 0x14
  | _ => false

/-- The writer may take a report (R170): where it will be written, and the report. -/
def State.writable (s : State) : Option (ReportRing × Report × List Report) :=
  match s.reports.ring, s.reports.queue with
  | some ring, r :: rest =>
    if s.reports.inFlight = none ∧ s.ringWaits = false ∧
        s.reports.flag s.reports.writeIndex = false then some (ring, r, rest)
    else none
  | _, _ => none

/-- REPORT_WRITER_TAKE (R170): the record is composed, the lost count with it and then 0, and is in
flight. -/
def execReportWriterTake (s : State) : Host.Outcome State Fault Refusal :=
  .next (match s.writable with
    | none => s
    | some (ring, r, rest) =>
      let entry := s.reports.writeIndex
      ({ s with reports := { s.reports with
          queue := rest, lost := 0, inFlight := some entry } }).queueWrite
        ⟨ring.base + 32 * entry, recordBytes r s.reports.lost s.time.valid s.time.seconds,
          .record entry, none⟩)

/-- A clearing write is observed (R172): bit 0 clear clears the entry's flag; an observation of a ring since
replaced is ignored. -/
def State.clearObserved (s : State) (number entry : Nat) (value : Byte) : State :=
  if s.reports.ring.any (fun r => r.number == number) ∧ value.getLsbD 0 = false then
    { s with reports := { s.reports with valid := clearFlag s.reports.valid entry } }
  else s

/-- REPORT_CLEAR_OBSERVED (R172). -/
def execReportClearObserved (s : State) : Host.Outcome State Fault Refusal :=
  .next (match s.takeCompletion with
    | some (.reportWrite number entry value, t) => t.clearObserved number entry value
    | _ => s)

/-- The base and entry count that a report ring may have (R169). -/
def reportRingLegal (base entries : Nat) : Bool :=
  base % 32 == 0 && decide (16 ≤ entries) && decide (entries ≤ 1024) &&
    decide (base + 32 * entries ≤ 2 ^ 32)

/-- SET_REPORT_RING's checks in order (R169): a refusal, or the ring to set. The present ring is left out of
the comparison. -/
def State.checkReportRing (s : State) (base entries : Nat) : ResultCode ⊕ Option (Nat × Nat) :=
  if entries = 0 then .inr none
  else if reportRingLegal base entries = false then .inl .badArgument
  else if (({ s with reports := { s.reports with ring := none } }).ownMap).meets
      (base, 32 * entries) then .inl .overlap
  else .inr (some (base, entries))

/-- SET_REPORT_RING takes effect at once, or waits while a record is in flight (R169, R181). -/
def State.setReportRing (s : State) (record : List Byte) (ring : Option (Nat × Nat)) : State :=
  match s.reports.inFlight, s.command.executing with
  | some _, some x => { s with command := { s.command with
      executing := some { x with phase := .replacingRing record ring } } }
  | _, _ => (s.replaceReportRing ring).answer record .ok []

/-- SET_REPORT_RING (R169). A refusal is answered in this step, also while a record is in flight; only an accepted
command waits for the landing (log 57). -/
def execSetReportRing (base : Long) (entries : Half) (s : State) :
    Host.Outcome State Fault Refusal :=
  .next (match s.offered (.setReportRing base entries) with
    | none => s
    | some (record, _) =>
      match s.checkReportRing base.toNat entries.toNat with
      | .inl code => s.answer record code []
      | .inr ring => s.setReportRing record ring)

end Sys2Proof.Machine
end

