-- ==== Sys2Proof/Machine/Dispatch.lean ====
section
/-! DEFINITION. One arm per command: the direct call of its meaning. -/

namespace Sys2Proof.Machine

/-- The effect of a command on everything but the queue. -/
def exec (i : Instr) (s : State) : Host.Outcome State Fault Refusal :=
  match i with
  | .powerOn straps => Sys2Proof.Machine.execPowerOn straps s
  | .warmReset straps => Sys2Proof.Machine.execWarmReset straps s
  | .resetRelease => Sys2Proof.Machine.execResetRelease s
  | .retainFall => Sys2Proof.Machine.execRetainFall s
  | .retainRise => Sys2Proof.Machine.execRetainRise s
  | .portPRead start beats => Sys2Proof.Machine.execPortPRead start beats s
  | .portPWrite start bytes => Sys2Proof.Machine.execPortPWrite start bytes s
  | .portLRead start beats => Sys2Proof.Machine.execPortLRead start beats s
  | .portLWrite start bytes => Sys2Proof.Machine.execPortLWrite start bytes s
  | .portMGrant => Sys2Proof.Machine.execPortMGrant s
  | .internalWriteLanded => Sys2Proof.Machine.execInternalWriteLanded s
  | .internalReadData => Sys2Proof.Machine.execInternalReadData s
  | .commandPosting => Sys2Proof.Machine.execCommandPosting s
  | .commandFetch => Sys2Proof.Machine.execCommandFetch s
  | .nop => Sys2Proof.Machine.execNop s
  | .configLink link wireId maxPayload keepalive grace binding mask => Sys2Proof.Machine.execConfigLink link wireId maxPayload keepalive grace binding mask s
  | .setGuard link direction base size => Sys2Proof.Machine.execSetGuard link direction base size s
  | .setRing link direction base slots => Sys2Proof.Machine.execSetRing link direction base slots s
  | .clearRing link direction => Sys2Proof.Machine.execClearRing link direction s
  | .openLink link => Sys2Proof.Machine.execOpenLink link s
  | .closeLink link => Sys2Proof.Machine.execCloseLink link s
  | .queryLink link => Sys2Proof.Machine.execQueryLink link s
  | .setPhantom present base => Sys2Proof.Machine.execSetPhantom present base s
  | .resetFilter link => Sys2Proof.Machine.execResetFilter link s
  | .retireKey link keyState => Sys2Proof.Machine.execRetireKey link keyState s
  | .loadKekPart1 part slot half counter => Sys2Proof.Machine.execLoadKekPart1 part slot half counter s
  | .loadKekPart2 slot half counter => Sys2Proof.Machine.execLoadKekPart2 slot half counter s
  | .eraseKek slot => Sys2Proof.Machine.execEraseKek slot s
  | .setTime seconds fraction => Sys2Proof.Machine.execSetTime seconds fraction s
  | .setDrift value => Sys2Proof.Machine.execSetDrift value s
  | .configClock fRef k autoPeriod => Sys2Proof.Machine.execConfigClock fRef k autoPeriod s
  | .measureClock => Sys2Proof.Machine.execMeasureClock s
  | .configMonitor link t d u interval m r options => Sys2Proof.Machine.execConfigMonitor link t d u interval m r options s
  | .releaseLink link => Sys2Proof.Machine.execReleaseLink link s
  | .setReportRing base entries => Sys2Proof.Machine.execSetReportRing base entries s
  | .cipherTake => Sys2Proof.Machine.execCipherTake s
  | .cipherResult => Sys2Proof.Machine.execCipherResult s
  | .keyFetch => Sys2Proof.Machine.execKeyFetch s
  | .sequenceRequest link => Sys2Proof.Machine.execSequenceRequest link s
  | .transmitCommit => Sys2Proof.Machine.execTransmitCommit s
  | .stateSummaryRequest => Sys2Proof.Machine.execStateSummaryRequest s
  | .keySelection link => Sys2Proof.Machine.execKeySelection link s
  | .kekSelection => Sys2Proof.Machine.execKekSelection s
  | .settleRequest link => Sys2Proof.Machine.execSettleRequest link s
  | .receiveCommit => Sys2Proof.Machine.execReceiveCommit s
  | .kekCheck => Sys2Proof.Machine.execKekCheck s
  | .quarantineRequest link => Sys2Proof.Machine.execQuarantineRequest link s
  | .correctedSecondBoundary => Sys2Proof.Machine.execCorrectedSecondBoundary s
  | .drainEnd link => Sys2Proof.Machine.execDrainEnd link s
  | .keyOverdue link => Sys2Proof.Machine.execKeyOverdue link s
  | .keyExpiry link => Sys2Proof.Machine.execKeyExpiry link s
  | .silenceTimeout link => Sys2Proof.Machine.execSilenceTimeout link s
  | .autoMeasurementStart => Sys2Proof.Machine.execAutoMeasurementStart s
  | .measurementWindowClose => Sys2Proof.Machine.execMeasurementWindowClose s
  | .beaconAbsorb link => Sys2Proof.Machine.execBeaconAbsorb link s
  | .drainLimitExpiry link => Sys2Proof.Machine.execDrainLimitExpiry link s
  | .intervalEnd link => Sys2Proof.Machine.execIntervalEnd link s
  | .finalStatus link => Sys2Proof.Machine.execFinalStatus link s
  | .noBufferEvent link => Sys2Proof.Machine.execNoBufferEvent link s
  | .verifiedArrival link => Sys2Proof.Machine.execVerifiedArrival link s
  | .reportPosting source => Sys2Proof.Machine.execReportPosting source s
  | .reportWriterTake => Sys2Proof.Machine.execReportWriterTake s
  | .reportClearObserved => Sys2Proof.Machine.execReportClearObserved s
  | .rawTick => Sys2Proof.Machine.execRawTick s
  | .refclkRisingEdge => Sys2Proof.Machine.execRefclkRisingEdge s
  | .mainPowerLoss => Sys2Proof.Machine.execMainPowerLoss s
  | .vstbyLoss => Sys2Proof.Machine.execVstbyLoss s

end Sys2Proof.Machine
end

