-- ==== Sys2Proof/Safety.lean ====
section
/-! DEFINITION. What claims speak of: the part of the state that the engines' steps leave alone, what port M
writes, and the invariants of a safe run. -/

namespace Sys2Proof.Machine

/-! ### What the engines and the link unit leave alone -/

/-- The records that no step of the engines, the link unit or the ports' handling changes: frame memory and
what port M has done, lines, arbiter, region map, phantom window, retained cells and staging record, time
base, report unit, command queue, and the queue of commands. -/
structure Still where
  lines : Lines
  map : RegionMap
  arbiter : MemoryRequester
  completions : List Completion
  memory : List Host.Cell
  phantom : Option Nat
  kekSlots : Vector KekSlot 4
  erasures : Vector Nat 4
  marker : Marker
  cellsLost : Bool
  staging : Option Staging
  time : TimeBase
  reports : ReportUnit
  commandQueue : List EntryIndex
  pending : List Instr
  deriving DecidableEq, Repr

/-- Those records of a state. -/
def State.still (s : State) : Still :=
  { lines := s.lines, map := s.steering.map, arbiter := s.arbiter, completions := s.completions,
    memory := s.memory, phantom := s.phantom, kekSlots := s.store.slots, erasures := s.store.erasures,
    marker := s.store.marker, cellsLost := s.store.cellsLost, staging := s.store.staging, time := s.time,
    reports := s.reports, commandQueue := s.command.queue, pending := s.pending }

/-! ### Ports and port M -/

/-- A port with no transaction inside, none presented and no access waiting. -/
def Port.quiet (x : Port) : Bool :=
  x.current.isNone && x.presented.isEmpty && x.accesses.isEmpty

/-- The byte that a write of `bytes` from address `a` stores at address `x`; none where it stores none (R40). -/
def writtenByte (a : Nat) (bytes : List (Option Byte)) (x : Nat) : Option Byte :=
  if a ≤ x then (bytes[x - a]?).join else none

/-- A place whose portions on a port go to memory unchanged (R44). -/
def Place.isPlain (onL isRead : Bool) : Place → Bool
  | .unwatched => true
  | .commandRing => !onL || isRead
  | .reportRing _ _ => !onL || isRead
  | .descriptors _ _ => !onL
  | .transmitGuard _ => !onL
  | .receiveGuard _ => !onL
  | .phantom _ _ => false

/-- Every beat of a transaction lies in one place (R43). -/
def State.beatsIn (s : State) (start : Long) (beats : Nat) (pl : Place) : Bool :=
  (List.range beats).all (fun i => s.steering.map.place (firstBeat start + 8 * i) == pl)

/-- The link whose RING_FAULT a port L read of a place is answered with: a receive guard, and a transmit
guard or phantom sub-window of a link with no outbound context (R49, R50, R53). -/
def State.strayRead (s : State) : Place → Option LinkSlot
  | .receiveGuard l => some l
  | .transmitGuard l => if (s.link l).outContext.isNone then some l else none
  | .phantom l _ => if (s.link l).outContext.isNone then some l else none
  | .unwatched => none
  | .commandRing => none
  | .reportRing _ _ => none
  | .descriptors _ _ => none

/-- A place where a port L write is discarded with RING_FAULT, and the link of that report (R49, R51,
R53). -/
def Place.strayWrite : Place → Option (Option LinkSlot)
  | .commandRing => some none
  | .reportRing _ _ => some none
  | .transmitGuard l => some (some l)
  | .phantom l _ => some (some l)
  | .unwatched => none
  | .descriptors _ _ => none
  | .receiveGuard _ => none

/-- The RING_FAULT that the steering unit posts (R49 to R51, R53). -/
def ringFaultPosting (link : Option LinkSlot) (address : Nat) : ReportSource × Report :=
  (.steering, ⟨.ringFault address, link, 0⟩)

/-- OWN set and SKIP clear: the line controller may use the descriptor (R30, R33). -/
def readsReady (d : List Byte) : Bool := descOwn d && !descSkip d

/-! ### Bytes of an outbound frame (R8, R63, R64) -/

/-- The keystream of the payload offsets from `first` to `last` is held (R8, R61). -/
def OutContext.holdsKeystream (c : OutContext) (first last : Nat) : Prop :=
  ∀ o, first ≤ o → o ≤ last → (c.keystream.held.lookup (1 + o / 16)).isSome = true

/-- The ciphertext of a payload offset, the plaintext given by offset (R8). -/
def OutContext.cipherAt (c : OutContext) (plain : Nat → Byte) (o : Nat) : Byte :=
  plain o ^^^ byteAt ((c.keystream.held.lookup (1 + o / 16)).getD []) (o % 16)

/-- What a read of address `a` is answered with: header, ciphertext, the tag's bytes, zero outside the extent
(R63). -/
def OutContext.answerAt (c : OutContext) (header : List Byte) (plain : Nat → Byte) (tag a : Nat) :
    Byte :=
  if a < c.pointer ∨ c.pointer + 24 + c.len ≤ a then 0
  else if a < c.pointer + 16 then byteAt header (a - c.pointer)
  else if a < c.pointer + 16 + c.len then c.cipherAt plain (a - c.pointer - 16)
  else BitVec.ofNat 8 (tag / 256 ^ (a - c.pointer - 16 - c.len))

/-- The tag when coverage has come to `upto`: the ciphertext from the present coverage on absorbed in order, and
the tag finished where the payload ends (R64). -/
def OutContext.tagThrough (c : OutContext) (plain : Nat → Byte) (upto : Nat) : Tag :=
  let t := c.tag.absorbAll ((List.range (upto - c.coverage)).map
    (fun j => c.cipherAt plain (c.coverage + j)))
  if c.coverage < upto ∧ upto = c.len then t.finish else t

/-! ### Renewal jobs (R101, R102, R107, R112) -/

/-- The job is the only one, stands at a step, and no renewal of its link waits behind it. -/
def State.onlyJob (s : State) (j : Job) (step : JobStep) : Prop :=
  s.keys.jobs = [j] ∧ j.step = step ∧
    ∀ c, (s.link j.link).inContext = some c → c.phase ≠ .awaitingHandoff

/-- From `s` to `u` that job has ended with a status (R102, R112): the queue is empty, RENEWAL_REFUSED is posted
for the four refusals, and the slot that waits for the job is replaced with the status, of which the monitor
hears; where no slot waits any more, nothing is replaced. -/
def State.jobEnded (s u : State) (j : Job) (status : PartCode) : Prop :=
  u.keys.jobs = [] ∧
    (status ∈ [.staleEpoch, .kekAbsent, .checkMismatch, .badRenewal] →
      (.keyUnit, ⟨.renewalRefused (renewalEpoch j.payload) status, some j.link, 0⟩) ∈
        u.mail.reports) ∧
    (∀ q ring copy o, (s.link j.link).inRing = some q → s.ring q = some ring →
      (ring.slot j.slot).job = some o → (ring.slot j.slot).copy = some copy →
      u.mail.statuses = s.mail.statuses ++ [⟨j.link, true, status.byte, false⟩] ∧
      ∃ w ∈ u.internal.writes ++ u.internal.waitingWrites,
        w.use = .replacement q j.slot ∧ byteAt w.bytes 0 = status.byte) ∧
    ((∀ q, (s.link j.link).inRing = some q → (s.slot q j.slot).job = none) →
      u.mail.statuses = s.mail.statuses ∧ u.internal = s.internal)

/-! ### Invariants -/

/-- The registers of the time base lie in the ranges the manual gives them (R134 to R136, R139, R145,
R149). -/
def TimeBase.ranged (t : TimeBase) : Bool :=
  decide (-4096 ≤ t.c) && decide (t.c ≤ 4095) && decide (0 ≤ t.f) && decide (t.f ≤ 1023) &&
    decide (t.s.natAbs ≤ 65536) && decide (32732 ≤ t.length) && decide (t.length ≤ 32804) &&
    decide (t.ticks ≤ t.length) && decide (8000 ≤ t.fRef) && decide (t.fRef ≤ 25000000) &&
    decide (10 ≤ t.k) && decide (t.k ≤ 15)

/-- The phantom window's base is a multiple of 512, in the outbound engine's record and in the map (R52). -/
def State.phantomAligned (s : State) : Bool :=
  s.phantom.all (fun b => b % 512 == 0) && s.steering.map.phantom.all (fun b => b % 512 == 0)

/-- No two of the watched regions share a byte (R42). -/
def RegionMap.disjoint (m : RegionMap) : Bool :=
  decide (m.ranges.Pairwise (fun a b => rangesMeet a b = false))

/-- No two watched regions share a byte, in the map in force, in the blocks' own records, and with the report
ring that a waiting SET_REPORT_RING will set (R42, R169). -/
def State.regionsDisjoint (s : State) : Bool :=
  s.steering.map.disjoint && s.ownMap.disjoint &&
    (match s.command.executing with
      | some ⟨_, .replacingRing _ (some r)⟩ =>
        !(({ s with reports := { s.reports with ring := none } }).ownMap.meets
          (r.1, 32 * r.2))
      | _ => true)

/-- Two key slots never hold two keys of one link in the same standing: in force, PENDING, or DRAINING
(R104, R105). -/
def State.oneKeyPerStanding (s : State) : Bool :=
  allKeySlots.all (fun j => allKeySlots.all (fun k =>
    j == k || (s.key j).state == .empty || (s.key k).state == .empty ||
      (s.key j).link != (s.key k).link ||
      ((s.key j).state != (s.key k).state &&
        !((s.key j).state.isCurrent && (s.key k).state.isCurrent))))

/-- The report unit's record in flight is for an entry whose flag is clear (R170, R171). -/
def ReportUnit.flightClear (u : ReportUnit) : Bool :=
  match u.inFlight with
  | none => true
  | some e => !u.flag e

/-- The parameters T, I and R of a health record are not 0 (R165). -/
def Health.legal (h : Health) : Bool := decide (1 ≤ h.t) && decide (1 ≤ h.i) && decide (1 ≤ h.r)

/-- Frame memory is canonical, the time base in range, the command queue free of duplicates, the record in
flight is for a clear entry, and the phantom window is aligned. -/
def State.safe (s : State) : Bool :=
  memWf s.memory && s.time.ranged && decide s.command.queue.Nodup && s.reports.flightClear &&
    s.phantomAligned

/-- The KEK binding byte of CONFIG_LINK (12.4). -/
def bindingByte : Option KekIndex → Byte
  | none => 0xFF
  | some k => BitVec.ofNat 8 k.val

/-- The direction byte of SET_GUARD, SET_RING and CLEAR_RING (12.4). -/
def directionByte (inbound : Bool) : Byte := if inbound then 1 else 0

/-! ### Commands by what they touch -/

/-- The steps of the engines, the link unit, the key unit and the monitor that touch none of the records of
`State.still`. -/
def isEngineStep : Instr → Bool
  | .cipherTake | .cipherResult | .keyFetch | .sequenceRequest _ | .stateSummaryRequest
  | .keySelection _ | .kekSelection | .settleRequest _ | .kekCheck | .quarantineRequest _
  | .drainEnd _ | .keyOverdue _ | .keyExpiry _ | .silenceTimeout _ | .drainLimitExpiry _
  | .intervalEnd _ | .finalStatus _ | .noBufferEvent _ | .verifiedArrival _
  | .portPRead _ _ | .portPWrite _ _ | .portLRead _ _ | .portLWrite _ _ | .commandFetch
  | .nop | .configLink _ _ _ _ _ _ _ | .setGuard _ _ _ _ | .setRing _ _ _ _ | .clearRing _ _
  | .openLink _ | .closeLink _ | .queryLink _ | .resetFilter _ | .retireKey _ _
  | .configMonitor _ _ _ _ _ _ _ _ | .releaseLink _ => true
  | .powerOn _ | .warmReset _ | .resetRelease | .retainFall | .retainRise | .portMGrant
  | .internalWriteLanded | .internalReadData | .commandPosting | .setPhantom _ _
  | .loadKekPart1 _ _ _ _ | .loadKekPart2 _ _ _ | .eraseKek _ | .setTime _ _ | .setDrift _
  | .configClock _ _ _ | .measureClock | .setReportRing _ _ | .transmitCommit | .receiveCommit
  | .correctedSecondBoundary | .autoMeasurementStart | .measurementWindowClose | .beaconAbsorb _
  | .reportPosting _ | .reportWriterTake | .reportClearObserved | .rawTick | .refclkRisingEdge
  | .mainPowerLoss | .vstbyLoss => false

end Sys2Proof.Machine
end

