-- ==== Sys2Proof/Certificates/Slice0/Obligations.lean ====
section
/-! DEFINITION. The statements for the provers, from the numbered rules of the manual. Where a step ends with
`resume` or `closeDrained`, `u` names the state before that ending: a held port L transaction that can go on
does (R41), and a CLOSING link that has drained closes (R25). -/

section
open Sys2Proof Sys2Proof.Machine

/-! ### Steps and commands -/

/-- A step takes the command at the front of the queue and runs it on the rest; on an empty queue the part idles
(log 1). -/
def Obligations.StepRunsTheFrontCommand : Prop :=
  (∀ (c : Instr) (rest : List Instr) (s : State),
      step { s with pending := c :: rest } = exec c { s with pending := rest }) ∧
  (∀ s : State, s.pending = [] → step s = .next s)

/-- Every well-formed command runs in every state, and none changes the queue of waiting commands. What is no
transaction of R40 stops by name: no beat or more than 8, bytes that are no whole beats, beats past the last
address (log 23). -/
def Obligations.OnlyMalformedTransactionsStop : Prop :=
  (∀ (c : Instr) (s : State), c.wellFormed = true → ∃ t : State, exec c s = .next t) ∧
  (∀ (c : Instr) (s t : State), exec c s = .next t → t.pending = s.pending) ∧
  ((∀ (start : Long) (beats : Nat) (s : State), beats = 0 ∨ 8 < beats →
        exec (.portPRead start beats) s = .refused .malformedTransaction ∧
        exec (.portLRead start beats) s = .refused .malformedTransaction) ∧
      (∀ (start : Long) (beats : Nat) (s : State), 1 ≤ beats → beats ≤ 8 →
        2 ^ 32 < start.toNat / 8 * 8 + 8 * beats →
        exec (.portPRead start beats) s = .fault .beyondAddressSpace ∧
        exec (.portLRead start beats) s = .fault .beyondAddressSpace) ∧
      (∀ (start : Long) (bytes : List (Option Byte)) (s : State),
        bytes.length % 8 ≠ 0 ∨ bytes.length = 0 ∨ 64 < bytes.length →
        exec (.portPWrite start bytes) s = .refused .malformedTransaction ∧
        exec (.portLWrite start bytes) s = .refused .malformedTransaction) ∧
      (∀ (start : Long) (bytes : List (Option Byte)) (s : State),
        bytes.length % 8 = 0 → bytes.length ≠ 0 → bytes.length ≤ 64 →
        2 ^ 32 < start.toNat / 8 * 8 + bytes.length →
        exec (.portPWrite start bytes) s = .fault .beyondAddressSpace ∧
        exec (.portLWrite start bytes) s = .fault .beyondAddressSpace))

/-! ### Records (12.4, 12.5) -/

/-- The record of every well-formed command of the ring is a posted 32-byte entry that decodes to the command,
at every value of every argument (12.4). -/
def Obligations.CommandRecordsDecodeToTheirCommand : Prop :=
  ∀ (c : Instr) (r : List Byte), c.wellFormed = true → encodeRecord c = some r →
    r.length = 32 ∧ byteAt r 0 = 0x01#8 ∧ byteAt r 2 = 0x00#8 ∧ decodeRecord r = some c

/-- A fetched entry decodes to a command exactly when its code is one of 0x01 to 0x14, and that command is a
well-formed one of the ring; four entries written out from the table of 12.4 decode to their commands. -/
def Obligations.EntriesDecodeToWellFormedCommands : Prop :=
  (∀ r : List Byte, r.length = 32 →
      ((decodeRecord r).isSome = true ↔ 1 ≤ (byteAt r 1).toNat ∧ (byteAt r 1).toNat ≤ 0x14) ∧
      ∀ c, decodeRecord r = some c → c.wellFormed = true ∧ (encodeRecord c).isSome = true) ∧
  (decodeRecord ([0x01, 0x02, 0x00, 0x03, 0x34, 0x12, 0x00, 0x08, 0x1E, 0x58, 0x02, 0xFF,
        1, 2, 3, 4, 5, 6, 7, 8] ++ zeroes 12) =
      some (.configLink 3 0x1234 0x0800 30 600 0xFF [1, 2, 3, 4, 5, 6, 7, 8]) ∧
    decodeRecord ([0x01, 0x04, 0x00, 0x07, 0x01, 0x00, 0x10, 0x20, 0x30, 0x00, 0x01] ++ zeroes 21) =
      some (.setRing 7 1 0x30201000 256) ∧
    decodeRecord ([0x01, 0x0F, 0x00, 0x9C, 0xFF] ++ zeroes 27) = some (.setDrift 0xFF9C) ∧
    decodeRecord ([0x01, 0x14, 0x00, 0x00, 0x00, 0x01, 0x00, 0x10, 0x00] ++ zeroes 23) =
      some (.setReportRing 0x00010000 16))

/-- A report record is 32 bytes: VALID, kind, link or 0xFF, repeat count, lost count, time valid, zero,
seconds, the details from byte 12, and zeroes after them (R185). The bits of byte 6 and of the slot flags that 12.5
does not name are 0 by the model's choice (log 56). A check value has 8 bytes. Records of the
kinds written out from the table of 12.5: each kind's code, and its fields in their order and widths. -/
def Obligations.ReportRecordLayout : Prop :=
  (∀ (r : Report) (lost : Nat) (valid : Bool) (seconds : Long),
    (∀ epoch check activation, r.detail = .keyInstalled epoch check activation → check.length = 8) →
    (∀ epoch check, r.detail = .keyReplaced epoch check → check.length = 8) →
    let b := recordBytes r lost valid seconds
    b.length = 32 ∧ byteAt b 0 = 0x01#8 ∧ byteAt b 1 = r.detail.kind ∧
      byteAt b 2 = (match r.link with | some l => BitVec.ofNat 8 l.val | none => 0xFF#8) ∧
      byteAt b 3 = BitVec.ofNat 8 r.repeats ∧ slice b 4 2 = leBytes 2 lost ∧
      byteAt b 6 = (if valid then 1#8 else 0#8) ∧ byteAt b 7 = 0x00#8 ∧
      slice b 8 4 = leBytes 4 seconds.toNat ∧
      slice b 12 20 = r.detail.bytes ++ zeroes (20 - r.detail.bytes.length)) ∧
  (let written (d : ReportDetail) (kind : Byte) (details : List Byte) : Prop :=
    recordBytes ⟨d, some 2, 3⟩ 0x0504 true 0x09080706 =
      [0x01, kind, 2, 3, 4, 5, 1, 0, 6, 7, 8, 9] ++ details ++ zeroes (20 - details.length)
  written (.frameDone true 5 0x4E) 0x01 [1, 5, 0x4E] ∧
    written (.keyInstalled 0x0102 [1, 2, 3, 4, 5, 6, 7, 8] (some 0x0A0B0C0D)) 0x02
      [2, 1, 1, 2, 3, 4, 5, 6, 7, 8, 0x0D, 0x0C, 0x0B, 0x0A, 0] ∧
    written (.keyInstalled 0x0102 [1, 2, 3, 4, 5, 6, 7, 8] none) 0x02
      [2, 1, 1, 2, 3, 4, 5, 6, 7, 8, 0, 0, 0, 0, 1] ∧
    written (.keyReplaced 0x0102 [8, 7, 6, 5, 4, 3, 2, 1]) 0x03 [2, 1, 8, 7, 6, 5, 4, 3, 2, 1] ∧
    written (.keyActivated 0x0102 .receive 0x0304) 0x04 [2, 1, 2, 4, 3] ∧
    written (.keyOverdue 0x0102 86400) 0x05 [2, 1, 0x80, 0x51, 1, 0] ∧
    written (.keyRetired 0x0102 .overdue .sequenceLimit) 0x06 [2, 1, 3, 3] ∧
    written (.renewalDue 0x0102 true 75600) 0x07 [2, 1, 1, 0x50, 0x27, 1, 0] ∧
    written (.drainCut 0x0102 300) 0x08 [2, 1, 0x2C, 1] ∧
    written (.renewalRefused 0x0102 .staleEpoch) 0x09 [2, 1, 0x52] ∧
    written (.healthAlarm 320 3) 0x0A [0x40, 1, 3] ∧
    written (.linkQuarantined 3) 0x0B [3] ∧
    written (.linkReleased .keyLoss 320 3) 0x0C [2, 0x40, 1, 3] ∧
    written (.linkSilent .outboundAbort (some 0x0A0B0C0D)) 0x0D
      [2, 1, 0x0D, 0x0C, 0x0B, 0x0A] ∧
    written (.linkSilent .timeout none) 0x0D [0, 0, 0, 0, 0, 0] ∧
    written (.linkHeard 300) 0x0E [0x2C, 1] ∧ written .linkClosed 0x0F [] ∧
    written (.ringFault 0x0A0B0C0D) 0x10 [0x0D, 0x0C, 0x0B, 0x0A] ∧
    written (.clockMeasured 2048000 (-5) true) 0x11 [0, 0x40, 0x1F, 0, 0xFB, 0xFF, 1] ∧
    written (.oscTolerance (-5000) (-4096)) 0x12 [0x78, 0xEC, 0xFF, 0xFF, 0, 0xF0] ∧
    written (.refOutOfRange 7 2048000 15) 0x13 [7, 0, 0, 0, 0, 0x40, 0x1F, 0, 15] ∧
    written (.timeStepped (-2) 1800000000 true false) 0x14
      [0xFE, 0xFF, 0xFF, 0xFF, 0, 0xD2, 0x49, 0x6B, 1, 0] ∧
    written (.storeInvalid true [true, false, true, false]) 0x15 [1, 5])

/-! ### Reset, power and supply -/

/-- The reset values the manual gives (R15, R17, R29, R42, R46, R47, R52, R74, R104, R107, R124, R134, R135,
R139, R151, R168, R169, R173, R176), written out for every link, ring, queue, key slot, the time base, the
report unit and the command unit, and the store as the first power-on leaves it, its STORE_INVALID waiting in
the report unit's queue (R126, R174; log 9). Nothing handed from one block to another waits, and memory lists
nothing. -/
def Obligations.ResetValues : Prop :=
  let s := State.reset
  (∀ l : LinkSlot, s.link l = {
      state := .closed, wireId := none, maxPayload := 2048, keepalive := 0, grace := 0, kek := none,
      mask := List.replicate 8 0xFF#8, filter := 0, lastKeepalive := none, outRing := none,
      inRing := none, transmit := none, receive := none, outContext := none, inContext := none,
      openStamp := none, lastTransmit := none, lastArrival := none, idle := 0, drainStart := none,
      health := {
        t := 64, d := 16, u := 1, i := 64, m := 3, r := 60, noBuffer := false, e := 0, a := 0,
        cleanRun := 0, errored := false, silent := false, timer := 0, quiet := 0, due := false } }) ∧
    (∀ r : RingIndex, s.ring r = none) ∧ s.steering.map = RegionMap.reset 0 ∧
    s.steering.map.ranges = [(0, 1024)] ∧ s.arbiter = .internal ∧ s.phantom = none ∧
    (∀ onL, s.port onL = ⟨none, [], [], none⟩) ∧ s.internal = ⟨[], [], [], [], none⟩ ∧
    s.completions = [] ∧ s.memory = [] ∧
    (∀ i : Fin 17, s.cipher.queues[i] = []) ∧ s.cipher.engine = .free ∧ s.cipher.pointer = 16 ∧
    (∀ k : KeyIndex, s.key k = {
      state := .empty, link := 0, epoch := 0, installation := 0, key := List.replicate 32 0,
      check := List.replicate 8 0, activation := none, lifetime := 0, overlap := 0, earlyGrace := 0,
      age := none, drain := none, nextSequence := 0, window := ⟨none, 0⟩, dueReported := false }) ∧
    s.keys.installations = 0 ∧ s.keys.jobs = [] ∧ s.keys.requests = [] ∧
    (∀ k : KekIndex, s.kek k = ⟨.invalid, List.replicate 32 0, 0, 0⟩) ∧ s.store.marker = .live ∧
    s.store.cellsLost = false ∧ s.store.requests = [] ∧ s.store.waiting = [] ∧
    s.store.staging = none ∧
    s.time = {
      rawTick := 0, seconds := 0, ticks := 0, length := 32768, c := 0, f := 0, s := 0,
      valid := false, fRef := 2048000, k := 15, autoPeriod := 0, autoCount := 0,
      measurement := none } ∧
    s.reports = {
      queue := [⟨.storeInvalid true [true, true, true, true], none, 0⟩], lost := 0, ring := none,
      valid := 0, writeIndex := 0, inFlight := none, rings := 0 } ∧
    s.int = false ∧ s.command.queue = [] ∧ s.command.executing = none ∧
    s.mail = ⟨[], [], [], [], [], []⟩ ∧ s.pending = []

/-- A warm reset (R54): every volatile record takes its reset value, the map holds the command ring at the
resampled anchor alone, a read inside a port is answered with zeroes for what was not yet returned, a write is
acknowledged; memory, KEK slots, marker and held masters stay.

Without main power RESET only moves its line (log 35).

RESET_RELEASE (R54): the line is released, and the ports then accept what held masters present under the
map as it stands. With nothing presented and nothing inside the ports, and no link draining, nothing else
changes. -/
def Obligations.ResetLineResetsAndReleases : Prop :=
  (∀ (straps : Byte) (s : State), s.lines.powered = true →
      ∃ t : State, exec (.warmReset straps) s = .next t ∧
        t.lines = { s.lines with resetAsserted := true } ∧
        t.steering.map = RegionMap.reset (straps.toNat * 2 ^ 24) ∧ t.arbiter = .internal ∧
        t.internal = InternalMaster.reset ∧ t.completions = [] ∧
        (∀ l, t.link l = Link.reset) ∧ (∀ r, t.ring r = none) ∧ t.phantom = none ∧
        t.cipher = CipherUnit.reset ∧ t.keys = KeyUnit.reset ∧ t.store.requests = [] ∧
        t.store.waiting = [] ∧ t.store.staging = none ∧ t.time = TimeBase.reset ∧ t.reports = ReportUnit.reset ∧
        t.command = CommandUnit.reset ∧ t.mail = Mail.none ∧ t.int = false ∧
        t.memory = s.memory ∧ t.store.slots = s.store.slots ∧ t.store.marker = s.store.marker ∧
        t.store.cellsLost = s.store.cellsLost ∧
        ∀ onL : Bool, (t.port onL).presented = (s.port onL).presented ∧
          (t.port onL).current = none ∧ (t.port onL).accesses = [] ∧
          (t.port onL).answered = (match (s.port onL).current with
            | none => (s.port onL).answered
            | some x =>
              if x.request.isRead then
                some (.data (x.returned ++ zeroes (8 * x.request.beats - x.returned.length)))
              else some .acknowledged)) ∧
  (∀ (straps : Byte) (s : State), s.lines.powered = false →
      exec (.warmReset straps) s = .next { s with lines := { s.lines with resetAsserted := true } }) ∧
  ((∀ s : State, ∃ u : State, exec .resetRelease s = .next u.runBoth ∧
        u = { s with lines := { s.lines with resetAsserted := false } }) ∧
      ∀ s : State, (∀ onL, (s.port onL).quiet = true) → (∀ l, s.drained l = false) →
        exec .resetRelease s = .next { s with lines := { s.lines with resetAsserted := false } })

/-- POWER_ON (R54, R126, R174): main power is present, the anchor is sampled, the volatile records take their
reset values, the cipher unit, the internal master and the arbiter of port M, what port M had performed and the
phantom window among them, and the store acts on its marker: PARKED leaves the slots, LIVE makes the LOADED ones INVALID,
lost cells make all INVALID; in the last two cases the report unit's queue holds STORE_INVALID and nothing
else; the marker then follows RETAIN. VSTBY is present again with main power (the model's choice, log 42). -/
def Obligations.PowerOnChecksTheStore : Prop :=
  ∀ (straps : Byte) (s : State), s.lines.powered = false →
    ∃ u : State, exec (.powerOn straps) s = .next u.runBoth ∧
      u.lines = { s.lines with powered := true, vstby := true } ∧
      u.steering.map = RegionMap.reset (straps.toNat * 2 ^ 24) ∧
      (∀ l, u.link l = Link.reset) ∧ (∀ r, u.ring r = none) ∧ u.keys = KeyUnit.reset ∧
      u.cipher = CipherUnit.reset ∧ u.internal = InternalMaster.reset ∧ u.completions = [] ∧
      u.arbiter = .internal ∧ u.phantom = none ∧
      u.time = TimeBase.reset ∧ u.command = CommandUnit.reset ∧ u.mail = Mail.none ∧
      u.reports = { ReportUnit.reset with queue := u.reports.queue } ∧
      u.memory = s.memory ∧ u.store.staging = none ∧ u.store.requests = [] ∧
      u.store.waiting = [] ∧ u.store.cellsLost = false ∧
      u.store.marker = (if s.lines.retain then Marker.live else Marker.parked) ∧
      (s.store.cellsLost = true →
        (∀ k, u.kek k = KekSlot.blank .invalid) ∧
        u.reports.queue = [⟨.storeInvalid true [true, true, true, true], none, 0⟩]) ∧
      (s.store.cellsLost = false → s.store.marker = .parked →
        (∀ k, u.kek k = s.kek k) ∧ u.reports.queue = []) ∧
      (s.store.cellsLost = false → s.store.marker = .live →
        (∀ k, u.kek k =
          if (s.kek k).state = .loaded then KekSlot.blank .invalid else s.kek k) ∧
        u.reports.queue = [⟨.storeInvalid false
          ((List.finRange 4).map (fun k => (s.kek k).state == .loaded)), none, 0⟩])

/-- R125: with main power the marker follows the RETAIN line. A fall of a LIVE store writes PARKED and
zeroizes the staging record; a rise writes LIVE; an edge that leaves the marker as it is changes nothing but
the line.

MAIN_POWER_LOSS (R124, R126, R130): every volatile record is lost, in every block and in the ports, what a
port answered last with them (the model's own field, log 37); the retained cells keep their contents when
no request of the store is waiting or the store is PARKED, and are lost when VSTBY is absent; frame memory keeps
its contents (log 8). A slot that a torn write leaves EMPTY or INVALID holds no key and no counters (R124).

A transmit commit under way when main power falls leaves a free value in that counter and nothing else
(R126, R130; log 13).

VSTBY_LOSS (R124, R126): without main power the retained cells are lost; with it they are fed from there, and
the next loss of main power loses them (log 42). -/
def Obligations.RetainAndSupplyLines : Prop :=
  (∀ s : State, s.lines.powered = true →
      (s.store.marker = .live → exec .retainFall s = .next { s with
        lines := { s.lines with retain := false }
        store := { s.store with marker := .parked, staging := none } }) ∧
      (s.store.marker = .parked → exec .retainRise s = .next { s with
        lines := { s.lines with retain := true }
        store := { s.store with marker := .live } }) ∧
      (s.store.marker = .parked →
        exec .retainFall s = .next { s with lines := { s.lines with retain := false } }) ∧
      (s.store.marker = .live →
        exec .retainRise s = .next { s with lines := { s.lines with retain := true } })) ∧
  ((∀ s : State, s.lines.powered = true →
        ∃ t : State, exec .mainPowerLoss s = .next t ∧ t.lines = { s.lines with powered := false } ∧
          t.memory = s.memory ∧ t.store.marker = s.store.marker ∧ t.store.staging = none ∧
          t.store.requests = [] ∧ (∀ l, t.link l = Link.reset) ∧ t.keys = KeyUnit.reset ∧
          t.time = TimeBase.reset ∧ t.reports = ReportUnit.reset ∧ t.command = CommandUnit.reset ∧
          (∀ r, t.ring r = none) ∧ t.cipher = CipherUnit.reset ∧
          t.internal = InternalMaster.reset ∧ t.completions = [] ∧ t.arbiter = .internal ∧
          t.phantom = none ∧ t.mail = Mail.none ∧
          t.steering.map = RegionMap.reset s.steering.map.anchor ∧
          (∀ onL, (t.port onL).current = none ∧ (t.port onL).accesses = [] ∧
            (t.port onL).answered = none) ∧
          (s.store.marker = .parked ∨ s.store.requests = [] → t.store.slots = s.store.slots) ∧
          t.store.cellsLost = (s.store.cellsLost || !s.lines.vstby) ∧ t.store.waiting = [] ∧
          (∀ k, (t.kek k).state ≠ .loaded →
            t.kek k = s.kek k ∨ t.kek k = ⟨(t.kek k).state, List.replicate 32 0, 0, 0⟩) ∧
          (∀ k, (t.kek k).state ≠ (s.kek k).state →
            ∃ rest, s.store.requests = .command :: rest ∧ s.store.marker = .live)) ∧
    (∀ (s : State) (l : LinkSlot) (ident : Nat) (k : KekIndex) (rest : List StoreRequest),
        s.lines.powered = true → s.store.marker = .live →
        s.store.requests = .transmitCommit l ident k :: rest →
        (s.kek k).state = .loaded → (s.kek k).transmit ≠ BitVec.allOnes 48 →
        ∃ t : State, exec .mainPowerLoss s = .next t ∧
          t.kek k = { s.kek k with transmit := Config.tornCounter s.freeCount } ∧
          (∀ j, j ≠ k → t.kek j = s.kek j) ∧ t.freeCount = s.freeCount + 1) ∧
    (∀ s : State,
        (s.lines.powered = false → exec .vstbyLoss s = .next { s with
          lines := { s.lines with vstby := false }
          store := { s.store with cellsLost := true } }) ∧
        (s.lines.powered = true →
          exec .vstbyLoss s = .next { s with lines := { s.lines with vstby := false } })))

/-! ### The bus -/

/-- A transaction whose beats all lie in one place that the port's table of R44 sends to memory unchanged waits
at port M as one memory transaction under its port's requester, with its beats, addresses and enables.

A beat in no watched region lies in none of the places that the part answers, and one in a descriptor area lies
between its base and the end of its last slot: a controller that runs past the last slot, with WRAP or without,
reads what its address lies in, and no descriptor (R28, R42). -/
def Obligations.PlainTransactionsWaitAtPortM : Prop :=
  (∀ (onL : Bool) (start : Long) (pl : Place) (s : State),
      s.accepts = true → (s.port onL).quiet = true →
      (∀ beats : Nat, 1 ≤ beats → beats ≤ 8 → start.toNat / 8 * 8 + 8 * beats ≤ 2 ^ 32 →
        s.beatsIn start beats pl = true → pl.isPlain onL true = true →
        ∃ u : State,
          exec (if onL then .portLRead start beats else .portPRead start beats) s =
            .next u.closeDrained ∧
          (u.port onL).accesses = [⟨0, .plain, start.toNat / 8 * 8, beats, none⟩] ∧
          (u.port onL).current.isSome = true ∧ (u.port onL).answered = (s.port onL).answered ∧
          u.still = s.still ∧ u.links = s.links ∧ u.mail = s.mail ∧
          u.port (!onL) = s.port (!onL)) ∧
      ∀ bytes : List (Option Byte), bytes.length % 8 = 0 → bytes.length ≠ 0 → bytes.length ≤ 64 →
        start.toNat / 8 * 8 + bytes.length ≤ 2 ^ 32 →
        s.beatsIn start (bytes.length / 8) pl = true → pl.isPlain onL false = true →
        ∃ u : State,
          exec (if onL then .portLWrite start bytes else .portPWrite start bytes) s =
            .next u.closeDrained ∧
          (u.port onL).accesses =
            [⟨0, .plain, start.toNat / 8 * 8, bytes.length / 8, some bytes⟩] ∧
          (u.port onL).current.isSome = true ∧ (u.port onL).answered = (s.port onL).answered ∧
          u.still = s.still ∧ u.links = s.links ∧ u.mail = s.mail ∧
          u.port (!onL) = s.port (!onL)) ∧
  (∀ (m : RegionMap) (a : Nat), (∀ r ∈ m.ranges, inRange r a = false) → m.place a = .unwatched) ∧
  ∀ (m : RegionMap) (a : Nat) (r : RingIndex) (area : Area), m.place a = .descriptors r area →
    m.areas[r] = some area ∧ area.base ≤ a ∧ a < area.base + 16 * area.count

/-- PORT_M_GRANT (R46): the first waiting requester after the pointer in the cyclic order P, L, internal is
granted, and the pointer moves to it; with none waiting nothing is granted. While a result in memory waits for
the command unit to hear of it nothing is granted (R180; the model's choice, log 48). -/
def Obligations.PortMGrantIsRoundRobin : Prop :=
  (∀ s : State, (∀ e, .landed (.result e) ∉ s.completions) →
    (s.arbiter = .internal → s.granted =
      if s.waits .p then some .p else if s.waits .l then some .l
      else if s.waits .internal then some .internal else none) ∧
    (s.arbiter = .p → s.granted =
      if s.waits .l then some .l else if s.waits .internal then some .internal
      else if s.waits .p then some .p else none) ∧
    (s.arbiter = .l → s.granted =
      if s.waits .internal then some .internal else if s.waits .p then some .p
      else if s.waits .l then some .l else none)) ∧
  (∀ (s : State) (e : EntryIndex), .landed (.result e) ∈ s.completions → s.granted = none) ∧
  ∀ s : State, ∃ u : State, exec .portMGrant s = .next u.closeDrained ∧
    u.arbiter = s.granted.getD s.arbiter ∧ (s.granted = none → u = s)

/-- A granted plain read answers its master with memory's bytes and leaves all of memory alone; a granted plain
write stores the enabled bytes at its address and no others, is acknowledged, and on port P is observed (R40,
R44, R45, R46). -/
def Obligations.GrantedPlainAccess : Prop :=
  ∀ (onL : Bool) (s : State) (x : Transaction) (p : Portion) (a : Access)
    (answered : Option BusAnswer),
    s.port onL = ⟨some x, [], [a], answered⟩ →
    s.granted = some (if onL then .l else .p) → x.portions = [p] → p.started = true →
    p.done = false → p.place.isPlain onL x.request.isRead = true → p.beats = a.beats →
    a.portion = 0 → a.use = .plain →
    (x.request.isRead = true → a.write = none →
      ∃ u : State, exec .portMGrant s = .next u.closeDrained ∧
        u.port onL =
          ⟨none, [], [], some (.data (memReadBytes s.memory a.address (8 * a.beats)))⟩ ∧
        u.still = { s.still with arbiter := if onL then .l else .p } ∧ u.links = s.links ∧
        u.mail = s.mail ∧ u.port (!onL) = s.port (!onL)) ∧
    ∀ bytes, x.request.isRead = false → a.write = some bytes → memWf s.memory = true →
      ∃ u : State, exec .portMGrant s = .next u.closeDrained ∧
        u.port onL = ⟨none, [], [], some .acknowledged⟩ ∧
        (∀ b, memRead u.memory b =
          (writtenByte a.address bytes b).getD (memRead s.memory b)) ∧
        u.completions = s.completions ++ (if onL then [] else observations p) ∧
        u.still = { s.still with
          arbiter := if onL then .l else .p, memory := u.memory, completions := u.completions } ∧
        u.links = s.links ∧ u.mail = s.mail ∧ u.port (!onL) = s.port (!onL)

/-- The internal master's granted request (R46 to R48): a write stores exactly its bytes at its address, a read
leaves memory alone; what was performed is kept for the block that asked, the place in the queue frees, and
the head of the read queue, or else of the write queue, is presented next. A request that waits for the place
enters it then, a waiting write with its FRAME_DONE posted at that moment (R37, R47; log 40).

The internal master's queues hold 24 writes and 8 reads (R47): a request that finds a place and none waiting
before it enters its queue at once, at the tail, and a write's FRAME_DONE is posted; any other waits behind
those already waiting, and the queue stays as it is. -/
def Obligations.InternalMasterRequests : Prop :=
  let announced (s : State) (w : InternalWrite) : List (ReportSource × Report) :=
    s.mail.reports ++ (w.announce.map (fun r => (.linkUnit, { r with repeats := 0 }))).toList
  (∀ s : State, s.granted = some .internal →
      (∀ w rest, s.internal.presenting = some .writes → s.internal.writes = w :: rest →
        memWf s.memory = true →
        ∃ u : State, exec .portMGrant s = .next u.closeDrained ∧
          (∀ b, memRead u.memory b =
            (writtenByte w.address (w.bytes.map some) b).getD (memRead s.memory b)) ∧
          u.completions = s.completions ++ [.landed w.use] ∧
          (s.internal.waitingWrites = [] →
            u.mail = s.mail ∧ u.internal = { s.internal with
              writes := rest
              presenting := if s.internal.reads ≠ [] then some .reads
                else if rest ≠ [] then some .writes else none }) ∧
          (∀ v more, s.internal.waitingWrites = v :: more →
            u.mail = { s.mail with reports := announced s v } ∧ u.internal = { s.internal with
              writes := rest ++ [v]
              waitingWrites := more
              presenting := if s.internal.reads ≠ [] then some .reads else some .writes }) ∧
          u.still = { s.still with
            arbiter := .internal, memory := u.memory, completions := u.completions } ∧
          u.links = s.links ∧ u.steering = s.steering) ∧
      ∀ r rest, s.internal.presenting = some .reads → s.internal.reads = r :: rest →
        ∃ u : State, exec .portMGrant s = .next u.closeDrained ∧
          u.completions = s.completions ++
            [.data r.use (memReadBytes s.memory r.address (8 * r.beats))] ∧
          (s.internal.waitingReads = [] → u.internal = { s.internal with
            reads := rest
            presenting := if rest ≠ [] then some .reads
              else if s.internal.writes ≠ [] then some .writes else none }) ∧
          (∀ v more, s.internal.waitingReads = v :: more → u.internal = { s.internal with
            reads := rest ++ [v], waitingReads := more, presenting := some .reads }) ∧
          u.still = { s.still with arbiter := .internal, completions := u.completions } ∧
          u.links = s.links ∧ u.mail = s.mail ∧ u.steering = s.steering) ∧
  ∀ s : State,
    (∀ w, s.internal.writes.length < 24 → s.internal.waitingWrites = [] →
      (s.queueWrite w).internal.writes = s.internal.writes ++ [w] ∧
      (s.queueWrite w).internal.waitingWrites = [] ∧
      (s.queueWrite w).mail = { s.mail with reports := announced s w } ∧
      (s.queueWrite w).memory = s.memory) ∧
    (∀ w, 24 ≤ s.internal.writes.length ∨ s.internal.waitingWrites ≠ [] →
      s.queueWrite w = { s with internal := { s.internal with
        waitingWrites := s.internal.waitingWrites ++ [w] } }) ∧
    (∀ r, s.internal.reads.length < 8 → s.internal.waitingReads = [] →
      (s.queueRead r).internal.reads = s.internal.reads ++ [r] ∧
      (s.queueRead r).internal.waitingReads = [] ∧ (s.queueRead r).mail = s.mail ∧
      (s.queueRead r).memory = s.memory) ∧
    ∀ r, 8 ≤ s.internal.reads.length ∨ s.internal.waitingReads ≠ [] →
      s.queueRead r = { s with internal := { s.internal with
        waitingReads := s.internal.waitingReads ++ [r] } }

/-- R45: a port P write in the command ring or the report ring gives one observation for each 32-byte entry
whose byte 0 it enables, with the entry and the value written, in ascending order; no other place gives
one. -/
def Obligations.ObservationsOfAWrite : Prop :=
  (∀ p : Portion, p.place = .commandRing → p.start % 1024 + p.bytes.length ≤ 1024 →
    (∀ e v, .commandWrite e v ∈ observations p ↔
      ∃ j : Nat, p.bytes[j]? = some (some v) ∧ p.start % 1024 + j = 32 * e.val) ∧
    (observations p).Pairwise (fun a b =>
      ∃ d v e w, a = .commandWrite d v ∧ b = .commandWrite e w ∧ d < e)) ∧
  (∀ (p : Portion) (number base : Nat), p.place = .reportRing number base → base ≤ p.start →
    (∀ m e v, .reportWrite m e v ∈ observations p ↔ m = number ∧
      ∃ j : Nat, p.bytes[j]? = some (some v) ∧ p.start + j = base + 32 * e) ∧
    (observations p).Pairwise (fun a b =>
      ∃ d v e w, a = .reportWrite number d v ∧ b = .reportWrite number e w ∧ d < e)) ∧
  ∀ p : Portion, p.place ≠ .commandRing → (∀ number base, p.place ≠ .reportRing number base) →
    observations p = []

/-- Stray port L traffic (R49, R50, R51, R53): a read of a receive guard, or of a transmit guard or phantom
sub-window of a link with no outbound context, is answered with zeroes; a write to a ring of the part, a
transmit guard or the phantom window is acknowledged and discarded; each posts RING_FAULT with the rule's link
and the address of its first beat, also for a write with no byte enabled (the model's reading, log 44). No memory
access is made.

The phantom window on port P (R53): a read of the sub-window of a link with no substituted context open is
answered with zeroes; with one open it shows the header once released, the contents once complete and the tag once
complete, at offsets 0, 16 and 24, and zeroes else; a write is acknowledged and discarded. None reaches memory or
posts a report.

A port L read that touches an open outbound extent (R57, R60 to R70, R77): the first one asks for a sequence and
is held; of a key-lost frame header and payload read zero, the trailer the complement of a complete tag or 0xFF;
header bytes are answered once composed; a trailer once the tag is complete; beyond coverage a gap fill begins
(R65, R67) and the window follows it; at or below coverage the payload beats are read at port M, all of a portion
in one access (the model's choice, log 16), and the window stands at their first byte. When that read is granted with its keystream held, memory's bytes are enciphered,
those not covered yet absorbed in order, and at len the tag is finished (R64). A substituted keepalive is
enciphered from its status contents. -/
def Obligations.TrafficAnsweredByThePart : Prop :=
  (∀ (start : Long) (pl : Place) (s : State), s.accepts = true → s.steering.l.quiet = true →
      (∀ (beats : Nat) (l : LinkSlot), 1 ≤ beats → beats ≤ 8 →
        start.toNat / 8 * 8 + 8 * beats ≤ 2 ^ 32 → s.beatsIn start beats pl = true →
        s.strayRead pl = some l →
        ∃ u : State, exec (.portLRead start beats) s = .next u.closeDrained ∧
          u.steering.l = ⟨none, [], [], some (.data (zeroes (8 * beats)))⟩ ∧
          u.mail = { s.mail with
            reports := s.mail.reports ++ [ringFaultPosting (some l) (start.toNat / 8 * 8)] } ∧
          u.still = s.still ∧ u.links = s.links ∧ u.steering.p = s.steering.p) ∧
      ∀ (bytes : List (Option Byte)) (link : Option LinkSlot), bytes.length % 8 = 0 →
        bytes.length ≠ 0 → bytes.length ≤ 64 → start.toNat / 8 * 8 + bytes.length ≤ 2 ^ 32 →
        s.beatsIn start (bytes.length / 8) pl = true → pl.strayWrite = some link →
        ∃ u : State, exec (.portLWrite start bytes) s = .next u.closeDrained ∧
          u.steering.l = ⟨none, [], [], some .acknowledged⟩ ∧
          u.mail = { s.mail with
            reports := s.mail.reports ++ [ringFaultPosting link (start.toNat / 8 * 8)] } ∧
          u.still = s.still ∧ u.links = s.links ∧ u.steering.p = s.steering.p) ∧
  (∀ (start : Long) (l : LinkSlot) (base : Nat) (s : State), s.accepts = true →
      s.steering.p.quiet = true →
      (∀ beats : Nat, 1 ≤ beats → beats ≤ 8 → start.toNat / 8 * 8 + 8 * beats ≤ 2 ^ 32 →
        s.beatsIn start beats (.phantom l base) = true → base % 512 = 0 →
        (s.link l).outContext.all (fun c => !c.substituted) = true →
        ∃ u : State, exec (.portPRead start beats) s = .next u.closeDrained ∧
          u.steering.p = ⟨none, [], [], some (.data (zeroes (8 * beats)))⟩ ∧
          u.still = s.still ∧ u.links = s.links ∧ u.mail = s.mail ∧
          u.steering.l = s.steering.l) ∧
      (∀ (beats : Nat) (c : OutContext), 1 ≤ beats → beats ≤ 8 →
        start.toNat / 8 * 8 + 8 * beats ≤ 2 ^ 32 →
        s.beatsIn start beats (.phantom l base) = true → base % 512 = 0 →
        (s.link l).outContext = some c → c.substituted = true →
        let shown (o : Nat) : Byte :=
          if o < 16 then (match c.header with | some h => byteAt h o | none => 0x00#8)
          else if o < 24 then (if c.contentsComplete then byteAt c.contents (o - 16) else 0x00#8)
          else if o < 32 then
            (match c.tag.value with
              | some v => BitVec.ofNat 8 (v / 256 ^ (o - 24))
              | none => 0x00#8)
          else 0x00#8
        ∃ u : State, exec (.portPRead start beats) s = .next u.closeDrained ∧
          u.steering.p = ⟨none, [], [], some (.data ((List.range (8 * beats)).map (fun j =>
            shown (start.toNat / 8 * 8 + j - (base + 64 * l.val)))))⟩ ∧
          u.still = s.still ∧ u.links = s.links ∧ u.mail = s.mail ∧
          u.steering.l = s.steering.l) ∧
      ∀ bytes : List (Option Byte), bytes.length % 8 = 0 → bytes.length ≠ 0 → bytes.length ≤ 64 →
        start.toNat / 8 * 8 + bytes.length ≤ 2 ^ 32 →
        s.beatsIn start (bytes.length / 8) (.phantom l base) = true →
        ∃ u : State, exec (.portPWrite start bytes) s = .next u.closeDrained ∧
          u.steering.p = ⟨none, [], [], some .acknowledged⟩ ∧
          u.still = s.still ∧ u.links = s.links ∧ u.mail = s.mail ∧
          u.steering.l = s.steering.l) ∧
  (∀ (start : Long) (beats : Nat) (pl : Place) (l : LinkSlot) (c : OutContext) (s : State),
    s.accepts = true → s.steering.l.quiet = true → 1 ≤ beats → beats ≤ 8 →
    let a := start.toNat / 8 * 8
    let z := a + 8 * beats
    z ≤ 2 ^ 32 → s.beatsIn start beats pl = true → (s.link l).outContext = some c →
    (pl = .transmitGuard l ∧ c.substituted = false) ∨
      (∃ base, pl = .phantom l base ∧ c.substituted = true) →
    max a c.pointer < min z (c.pointer + 24 + c.len) →
    let payload := c.pointer + 16
    let trailer := payload + c.len
    let first := max a payload - payload
    let carries : Prop := max a payload < min z trailer
    let answer (f : Nat → Byte) : Port :=
      ⟨none, [], [], some (.data ((List.range (8 * beats)).map (fun j => f (a + j))))⟩
    let held (u : State) : Prop := u.steering.l.current.isSome = true ∧
      u.steering.l.answered = s.steering.l.answered ∧ u.still = s.still ∧ u.mail = s.mail
    let beat (o : Nat) : Nat := (payload + o) / 8 * 8
    let read := exec (.portLRead start beats) s
    (c.lost = none → c.binding = .unbound → ∃ u : State, read = .next u.closeDrained ∧ held u ∧
      (u.link l).outContext = some { c with binding := .sequenceAsked } ∧
      u.keys = { s.keys with requests := s.keys.requests ++ [.sequence l c.ident] }) ∧
    (c.lost.isSome = true → ∃ u : State, read = .next u.closeDrained ∧
      u.steering.l = answer (fun b =>
        if trailer ≤ b ∧ b < trailer + 8 then
          (match c.tag.value with
            | some v => ~~~(BitVec.ofNat 8 (v / 256 ^ (b - trailer)))
            | none => 0xFF#8)
        else 0x00#8) ∧
      u.links = s.links ∧ u.internal = s.internal ∧ u.mail = s.mail ∧ u.still = s.still) ∧
    (c.lost = none → c.binding = .bound → c.fill = none →
      (∀ h v, c.header = some h → ¬carries →
        z ≤ trailer ∨ (c.len ≤ c.coverage ∧ c.tag.value = some v ∧
          (c.substituted = false ∨ c.contentsComplete = true)) →
        ∃ u : State, read = .next u.closeDrained ∧
          u.steering.l = answer (c.answerAt h (fun _ => 0) v) ∧
          u.links = s.links ∧ u.internal = s.internal ∧ u.mail = s.mail ∧ u.still = s.still) ∧
      (∀ target, (carries ∧ target = first) ∨ (¬carries ∧ payload < z ∧ target = c.len) →
        c.substituted = false → c.coverage < target →
        ∃ (u : State) (k : Keystream), read = .next u.closeDrained ∧ held u ∧
          u.steering.l.accesses = [] ∧ k.start = 1 + c.coverage / 16 ∧
          (u.link l).outContext = some { c with
            fill := some ⟨c.coverage, target - 1, true, none⟩, keystream := k } ∧
          let from_ := beat c.coverage
          u.internal.reads ++ u.internal.waitingReads =
            s.internal.reads ++ s.internal.waitingReads ++
              [⟨from_, (min (beat (target - 1)) (from_ / 64 * 64 + 56) - from_) / 8 + 1,
                .fill l c.ident⟩]) ∧
      (carries → c.substituted = false → first ≤ c.coverage →
        ∃ (u : State) (k : Keystream), read = .next u.closeDrained ∧ held u ∧
          k.start = 1 + first / 16 ∧ u.internal = s.internal ∧
          (u.link l).outContext = some { c with keystream := k } ∧
          u.steering.l.accesses = [⟨0, .payload, beat first,
            (beat (min z trailer - 1 - payload) - beat first) / 8 + 1, none⟩]) ∧
      ∀ h v, c.substituted = true → c.contentsComplete = true → c.header = some h →
        c.tag.keys.isSome = true → c.len = 8 → c.keystream.start = 1 → c.holdsKeystream 0 7 →
        trailer < z → (c.tagThrough (byteAt c.contents) 8).value = some v →
        ∃ u : State, read = .next u.closeDrained ∧
          u.steering.l = answer (c.answerAt h (byteAt c.contents) v) ∧
          (u.link l).outContext = some { c with
            coverage := max c.coverage 8, tag := c.tagThrough (byteAt c.contents) 8 } ∧
          u.mail = s.mail ∧ u.still = s.still)) ∧
  ∀ (s : State) (l : LinkSlot) (c : OutContext) (h : List Byte) (x : Transaction) (p : Portion)
    (answered : Option BusAnswer) (v : Nat),
    let payload := c.pointer + 16
    let z := p.start + 8 * p.beats
    let first := max p.start payload - payload
    let upto := min z (payload + c.len) - payload
    let beat (o : Nat) : Nat := (payload + o) / 8 * 8
    let plain (o : Nat) : Byte := memRead s.memory (payload + o)
    s.steering.l = ⟨some x, [], [⟨0, .payload, beat first,
      (beat (upto - 1) - beat first) / 8 + 1, none⟩], answered⟩ →
    s.granted = some .l → x.request.isRead = true → x.portions = [p] →
    p.place = .transmitGuard l → p.started = true → p.issued = true → p.done = false →
    p.answer = (List.range (max p.start payload - p.start)).map
      (fun j => c.answerAt h plain 0 (p.start + j)) →
    (s.link l).outContext = some c → c.substituted = false → c.lost = none → c.binding = .bound →
    c.fill = none → c.header = some h → c.tag.keys.isSome = true → first < upto →
    first ≤ c.coverage → c.holdsKeystream first (upto - 1) →
    (payload + c.len < z → (c.tagThrough plain upto).value = some v) →
    ∃ u : State, exec .portMGrant s = .next u.closeDrained ∧
      u.steering.l = ⟨none, [], [], some (.data ((List.range (8 * p.beats)).map
        (fun j => c.answerAt h plain v (p.start + j))))⟩ ∧
      (u.link l).outContext = some { c with
        coverage := max c.coverage upto, tag := c.tagThrough plain upto } ∧
      (∀ m, m ≠ l → u.link m = s.link m) ∧ u.mail = s.mail ∧
      u.still = { s.still with arbiter := .l }

/-! ### Descriptors -/

/-- Descriptors of an open link, each under the first case that applies. Outbound (R30, R31, R75, R76): pending,
held, the open context, not ready and perhaps a keepalive substituted, skip, the checks in order, the hold-off,
ready with length + 24. Inbound (R33): the same with no-buffer events, the checks of R33 with LINK_CLOSED for a
read made while the link was CLOSING or presented after the drain was forced, ready as in memory, in CLOSING too
when the read came before it (R81; the model's reading, log 47). A descriptor read ready belongs to the link's open context.

A port L read of an area waits at port M in one access (log 16); what is then presented is its answer. A closed ring, or other than one
whole slot of one ring, shows OWN clear, the latter with RING_FAULT (R34; log 20).

A completion write (R35 to R37, R71, R78) closes the context of its slot, or completes a held refusal or a skip:
the final status is the controller's when nonzero, else the part's code; the replacement is queued at the slot,
which is pending until it lands. FRAME_DONE is posted when the replacement finds a place in the write queue (the
model's reading, log 40). A substituted keepalive's completion writes nothing. What a held refusal hands the monitor,
and that a software skip and an outbound refusal hand it nothing, is the model's reading (log 31). Where nothing is
to be completed, or other bytes are enabled, RING_FAULT is posted; a write of bytes 8 to 15 alone is discarded so
too. -/
def Obligations.ReadyDescriptorsHaveTheirContext : Prop :=
  let clear (d : List Byte) : List Byte := d.set 1 (byteAt d 1 &&& 0x7F#8)
  let refuse (d : List Byte) : List Byte := d.set 1 (byteAt d 1 ||| 0x90#8)
  let outside (guard : Option Region) (pointer len : Nat) : Bool :=
    guard.all (fun g => pointer < g.base || g.base + g.size < pointer + len)
  (∀ (s : State) (r : RingIndex) (l : LinkSlot) (i : Nat) (closing : Bool) (d : List Byte),
    d.length = 16 →
    (readsReady (s.presentOut r l i d).2 = true →
      ∃ c, ((s.presentOut r l i d).1.link l).outContext = some c ∧ c.slot = i) ∧
    (readsReady (s.presentIn r l i closing d).2 = true →
      ∃ c, ((s.presentIn r l i closing d).1.link l).inContext = some c ∧ c.slot = i) ∧
    (s.presentOut r l i d).1.still = s.still ∧ (s.presentIn r l i closing d).1.still = s.still ∧
    let x := s.link l
    let slot := s.slot r i
    let control := byteAt d 1
    let pointer := leNat (slice d 4 4)
    let len := leNat (slice d 2 2)
    let cls := control.toNat % 8
    let recorded (held : Option PartCode) : State :=
      s.setSlot r i { slot with held := held, copy := some d }
    let noBuffer : State :=
      { s with mail := { s.mail with noBuffers := s.mail.noBuffers ++ [l] } }
    let outCode : Option PartCode :=
      if x.state = .closing then some .linkClosed
      else if pointer % 4 ≠ 0 then some .badDescriptor
      else if cls ∉ [0, 1, 2, 4] then some .badClass
      else if x.maxPayload < len then some .tooLong
      else if cls = 1 ∧ len ≠ 8 then some .badClass
      else if outside x.transmit pointer (len + 24) then some .badDescriptor
      else if x.state = .keyed ∨ x.state = .quarantined ∨
        (x.state = .awaitKey ∧ cls = 2 ∧ x.kek.isSome) then none
      else some .noKey
    let inCode : Option PartCode :=
      if closing = true ∨ (x.state = .closing ∧ x.drainStart = none) then some .linkClosed
      else if pointer % 4 ≠ 0 then some .badDescriptor
      else if len < 24 then some .badDescriptor
      else if outside x.receive pointer len then some .badDescriptor
      else none
    (slot.pending = true →
      s.presentOut r l i d = (s, clear d) ∧ s.presentIn r l i closing d = (noBuffer, clear d)) ∧
    (∀ code copy, slot.pending = false → slot.held = some code → slot.copy = some copy →
      2 ≤ copy.length →
      s.presentOut r l i d = (s, refuse copy) ∧ s.presentIn r l i closing d = (s, refuse copy)) ∧
    (slot.pending = false → slot.held = none →
      (∀ c, x.outContext = some c →
        s.presentOut r l i d = (s, if c.slot = i then c.presented else clear d)) ∧
      (x.outContext = none →
        (control.getLsbD 7 = false →
          ((x.state ≠ .keyed ∧ x.state ≠ .quarantined) ∨ x.keepalive = 0 ∨
              x.idle ≤ x.keepalive ∨ s.phantom = none →
            s.presentOut r l i d = (s, d)) ∧
          ∀ base, x.state = .keyed ∨ x.state = .quarantined → x.keepalive ≠ 0 →
            x.keepalive < x.idle → s.phantom = some base →
            let shown := [0x00#8, (control &&& 0x40#8) ||| 0xA1#8] ++ leBytes 2 32 ++
              leBytes 4 (base + 64 * l.val) ++ zeroes 8
            ∃ contents : List Byte, contents.length = 8 ∧
              slice contents 0 2 = leBytes 2 x.health.e ∧ byteAt contents 2 = x.state.code ∧
              slice contents 3 1 = leBytes 1 x.health.a ∧
              slice contents 4 2 = leBytes 2 (match s.currentKey l with
                | some k => (s.key k).epoch.toNat | none => 0) ∧
              (byteAt contents 6).getLsbD 0 = s.time.valid ∧
              ((byteAt contents 6).getLsbD 1 = true ↔ x.state = .quarantined) ∧
              ((byteAt contents 6).getLsbD 2 = true ↔
                ∃ k, s.currentKey l = some k ∧ (s.key k).dueReported = true) ∧
              (byteAt contents 6).getLsbD 3 = x.health.silent ∧
              s.presentOut r l i d = ({ (s.setLink l { x with outContext := some {
                ident := s.nextIdent, slot := i, pointer := base + 64 * l.val, len := 8,
                cls := .keepalive, rpt := false, substituted := true, contents := contents,
                contentsComplete := false, presented := shown, binding := .unbound,
                keyRef := none, epoch := none, sequence := none, header := none,
                tag := ⟨none, 0, [], none⟩, coverage := 0, keystream := ⟨1, [], []⟩,
                fill := none, lost := none } }).askStore (.summary l s.nextIdent x.kek) with
                  nextIdent := s.nextIdent + 1 }, shown)) ∧
        (control.getLsbD 7 = true → control.getLsbD 4 = true →
          s.presentOut r l i d = (recorded none, d)) ∧
        (control.getLsbD 7 = true → control.getLsbD 4 = false →
          (∀ code, outCode = some code →
            s.presentOut r l i d = (recorded (some code), refuse d)) ∧
          (outCode = none → s.holdOffPassed l (leNat (slice d 8 2)) = false →
            s.presentOut r l i d = (s, clear d)) ∧
          (outCode = none → s.holdOffPassed l (leNat (slice d 8 2)) = true →
            let shown := [byteAt d 0, (control ||| 0x80#8) &&& 0xEF#8] ++ leBytes 2 (len + 24) ++
              d.drop 4
            ∃ c : FrameClass, c.code.toNat = cls ∧
              s.presentOut r l i d = ({ (recorded none).setLink l { x with outContext := some {
                ident := s.nextIdent, slot := i, pointer := pointer, len := len, cls := c,
                rpt := control.getLsbD 3, substituted := false, contents := [],
                contentsComplete := false, presented := shown, binding := .unbound,
                keyRef := none, epoch := none, sequence := none, header := none,
                tag := ⟨none, 0, [], none⟩, coverage := 0, keystream := ⟨1, [], []⟩,
                fill := none, lost := none } } with nextIdent := s.nextIdent + 1 }, shown)))) ∧
      (x.inContext.isSome = true → s.presentIn r l i closing d = (noBuffer, clear d)) ∧
      (x.inContext = none →
        (control.getLsbD 7 = false → s.presentIn r l i closing d = (noBuffer, d)) ∧
        (control.getLsbD 7 = true → control.getLsbD 4 = true →
          s.presentIn r l i closing d = (recorded none, d)) ∧
        (control.getLsbD 7 = true → control.getLsbD 4 = false →
          (∀ code, inCode = some code →
            s.presentIn r l i closing d = (recorded (some code), refuse d)) ∧
          (inCode = none →
            s.presentIn r l i closing d = ({ (recorded none).setLink l { x with inContext := some {
              ident := s.nextIdent, slot := i, pointer := pointer, capacity := len, next := 0,
              headerBytes := [], header := none, early := none, asking := false, keyRef := none,
              tag := ⟨none, 0, [], none⟩, trailer := [], verdict := none,
              keystream := ⟨0, [], []⟩, streamFault := false, lost := none, renewal := none,
              beacon := none, keepalive := none, phase := .receiving, outcome := none } } with
                nextIdent := s.nextIdent + 1 }, d)))))) ∧
  (∀ (s : State) (r : RingIndex) (area : Area) (start : Nat) (d : List Byte) (alone closing : Bool),
    let shown := s.presentRead r area start d alone closing
    let masked : Prop := shown.2.length = d.length ∧ ∀ j, j < d.length → byteAt shown.2 j =
      if (start + j - area.base) % 16 = 1 then byteAt d j &&& 0x7F#8 else byteAt d j
    (s.ring r = none → shown.1 = s ∧ masked) ∧
    ∀ ring, s.ring r = some ring →
      (ring.area ≠ area ∨ (s.link ring.link).state = .closed → shown.1 = s ∧ masked) ∧
      (ring.area = area → (s.link ring.link).state ≠ .closed →
        ((start - ring.base) % 16 ≠ 0 ∨ d.length ≠ 16 ∨ alone = false →
          shown.1 = { s with mail := { s.mail with reports := s.mail.reports ++
            [(.linkUnit, ⟨.ringFault start, some ring.link, 0⟩)] } } ∧ masked) ∧
        ((start - ring.base) % 16 = 0 → d.length = 16 → alone = true →
          shown = if ring.outbound then s.presentOut r ring.link ((start - ring.base) / 16) d
            else s.presentIn r ring.link ((start - ring.base) / 16) closing d))) ∧
  (∀ (s : State) (start : Long) (beats : Nat) (r : RingIndex) (area : Area), s.accepts = true →
    s.steering.l.quiet = true → 1 ≤ beats → beats ≤ 8 → start.toNat / 8 * 8 + 8 * beats ≤ 2 ^ 32 →
    s.beatsIn start beats (.descriptors r area) = true →
    ∃ u : State, exec (.portLRead start beats) s = .next u.closeDrained ∧
      u.steering.l.accesses = [⟨0, .descriptor (decide ((s.link area.link).state = .closing)),
        start.toNat / 8 * 8, beats, none⟩] ∧
      u.steering.l.current.isSome = true ∧ u.steering.l.answered = s.steering.l.answered ∧
      u.still = s.still ∧ u.links = s.links ∧ u.rings = s.rings ∧ u.mail = s.mail) ∧
  (∀ (s : State) (x : Transaction) (p : Portion) (r : RingIndex) (area : Area)
    (closing : Bool) (answered : Option BusAnswer),
    s.steering.l = ⟨some x, [], [⟨0, .descriptor closing, p.start, p.beats, none⟩], answered⟩ →
    s.granted = some .l → x.request.isRead = true → x.portions = [p] →
    p.place = .descriptors r area → p.started = true → p.done = false →
    let t : State := ({ s with arbiter := .l }).setPort true ⟨some x, [], [], answered⟩
    let shown := t.presentRead r area p.start (memReadBytes s.memory p.start (8 * p.beats)) true
      closing
    shown.2.length = 8 * p.beats →
    exec .portMGrant s =
      .next (shown.1.setPort true ⟨none, [], [], some (.data shown.2)⟩).closeDrained) ∧
  (∀ (s : State) (start : Long) (r : RingIndex) (ring : Ring) (i : Nat)
    (bytes : List (Option Byte)),
    s.accepts = true → s.steering.l.quiet = true → s.ring r = some ring → i < ring.slots.length →
    start.toNat = ring.base + 16 * i + 8 → start.toNat % 8 = 0 → bytes.length = 8 →
    s.beatsIn start 1 (.descriptors r ring.area) = true → (∃ b, some b ∈ bytes) →
    ∃ u : State, exec (.portLWrite start bytes) s = .next u.closeDrained ∧
      u.steering.l = ⟨none, [], [], some .acknowledged⟩ ∧ u.steering.p = s.steering.p ∧
      u.still = s.still ∧ u.links = s.links ∧ u.rings = s.rings ∧ u.internal = s.internal ∧
      u.mail = { s.mail with reports := s.mail.reports ++
        [(.linkUnit, ⟨.ringFault start.toNat, some ring.link, 0⟩)] }) ∧
  ∀ (s : State) (start : Long) (r : RingIndex) (ring : Ring) (i : Nat) (rest : List (Option Byte)),
    s.accepts = true → s.steering.l.quiet = true → s.ring r = some ring → i < ring.slots.length →
    start.toNat = ring.base + 16 * i → start.toNat % 8 = 0 →
    let l := ring.link
    let x := s.link l
    let slot := ring.slot i
    let fault : List (ReportSource × Report) :=
      [(.linkUnit, ⟨.ringFault start.toNat, some l, 0⟩)]
    let written (bytes : List (Option Byte)) (u : State) : Prop :=
      exec (.portLWrite start bytes) s = .next u.closeDrained ∧
        u.steering.l = ⟨none, [], [], some .acknowledged⟩ ∧ u.still = s.still ∧
        u.steering.p = s.steering.p
    let discarded (bytes : List (Option Byte)) : Prop := ∃ u : State, written bytes u ∧
      u.links = s.links ∧ u.rings = s.rings ∧ u.internal = s.internal ∧
      u.mail = { s.mail with reports := s.mail.reports ++ fault }
    (∀ bytes : List (Option Byte), bytes.length = 8 ∨ bytes.length = 16 →
      start.toNat + bytes.length ≤ 2 ^ 32 →
      s.beatsIn start (bytes.length / 8) (.descriptors r ring.area) = true →
      (∃ b, some b ∈ bytes) → none ∈ bytes.take 4 → discarded bytes) ∧
    ∀ (status control low high : Byte), rest.length = 4 ∨ rest.length = 12 →
      start.toNat + 4 + rest.length ≤ 2 ^ 32 →
      s.beatsIn start ((4 + rest.length) / 8) (.descriptors r ring.area) = true →
      let bytes := [some status, some control, some low, some high] ++ rest
      let total := leNat [low, high]
      let extra : List (ReportSource × Report) := if ∀ b ∈ rest, b = none then [] else fault
      let final (code : Byte) : Byte := if status = 0x00#8 then code else status
      let replaced (u : State) (code : Byte) (cls : Option Byte) (len epoch sequence : Nat) : Prop :=
        ∀ copy, slot.copy = some copy →
          let show_ : Byte := match cls with
            | some c => if c.toNat ≤ 7 then (byteAt copy 1 &&& 0x78#8) ||| c
              else byteAt copy 1 &&& 0x7F#8
            | none => byteAt copy 1 &&& 0x7F#8
          let done : Option Report := if (byteAt copy 1).getLsbD 3 = true then
              some ⟨.frameDone (!ring.outbound) i code, some l, 0⟩ else none
          u.slot r i = { slot with pending := true, job := none } ∧
          (∀ q j, q ≠ r ∨ j ≠ i → u.slot q j = s.slot q j) ∧
          u.internal.writes ++ u.internal.waitingWrites =
            s.internal.writes ++ s.internal.waitingWrites ++
              [⟨ring.base + 16 * i, [code, show_] ++ leBytes 2 len ++ slice copy 4 6 ++
                leBytes 2 epoch ++ leBytes 4 sequence, .replacement r i, done⟩] ∧
          u.mail.reports = s.mail.reports ++
            (if s.internal.writes.length < 24 ∧ s.internal.waitingWrites = [] then
              (done.map (fun d => (ReportSource.linkUnit, d))).toList else []) ++ extra
      ((s.link l).state = .closed ∨ slot.pending = true → discarded bytes) ∧
      ((s.link l).state ≠ .closed → slot.pending = false →
        (ring.outbound = true → ∀ c, x.outContext = some c → c.slot = i →
          ∃ u : State, written bytes u ∧
            u.link l = { x with
              outContext := none, lastTransmit := some s.time.rawTick, idle := 0 } ∧
            (∀ m, m ≠ l → u.link m = s.link m) ∧
            u.mail.statuses = s.mail.statuses ++
              (if status = 0x01#8 then [⟨l, false, 0x01, true⟩] else []) ∧
            (c.substituted = true → u.rings = s.rings ∧ u.internal = s.internal ∧
              u.mail.reports = s.mail.reports ++ extra) ∧
            (c.substituted = false → replaced u
              (final (match c.lost with | some code => code.byte | none => 0x00#8)) none c.len
              (match c.epoch with | some e => e.toNat | none => 0)
              (match c.sequence with | some q => q.toNat % 2 ^ 32 | none => 0))) ∧
        (ring.outbound = false → ∀ c, x.inContext = some c → c.slot = i → c.phase = .receiving →
          x.inRing = some r →
          (∀ byController code, (status ≠ 0x00#8 ∧ byController = true ∧ code = status) ∨
              (status = 0x00#8 ∧ byController = false ∧
                ∃ part, c.code total = some part ∧ code = part.byte) →
            ∃ u : State, written bytes u ∧ u.link l = { x with inContext := none } ∧
              (∀ m, m ≠ l → u.link m = s.link m) ∧
              u.mail.statuses = s.mail.statuses ++ [⟨l, true, code, byController⟩] ∧
              replaced u code (c.header.map (fun h => h.cls))
                (match c.header with | some h => h.len | none => 0)
                (match c.header, c.keyRef with
                  | some _, some (.session _ _ e _) => e.toNat | _, _ => 0)
                (match c.header with | some h => h.sequence.toNat % 2 ^ 32 | none => 0)) ∧
          (∀ h, status = 0x00#8 → c.code total = none → c.header = some h →
            ∃ u : State, written bytes u ∧ u.internal = s.internal ∧
              u.slot r i = { slot with pending := true } ∧
              u.mail = { s.mail with reports := s.mail.reports ++ extra } ∧
              u.link l = { x with
                inContext := some { c with phase := .confirming, outcome := c.early } } ∧
              (∀ k m e n, c.keyRef = some (.session k m e n) → u.store = s.store ∧
                u.keys = { s.keys with requests := s.keys.requests ++
                  [.settle l c.ident (.session k m e n) h.sequence] }) ∧
              (∀ k n, c.keyRef = some (.kek k n) → u.keys = s.keys ∧
                u.store = s.store.ask (.receiveCommit l c.ident k n h.sequence)))) ∧
        ((if ring.outbound then ∀ c, x.outContext = some c → c.slot ≠ i
            else ∀ c, x.inContext = some c → c.slot ≠ i ∨ c.phase ≠ .receiving) →
          (∀ code copy, slot.held = some code → slot.copy = some copy →
            ∃ u : State, written bytes u ∧ u.links = s.links ∧
              u.mail.statuses = s.mail.statuses ++ (if ring.outbound then []
                else [⟨l, true, final code.byte, status != 0⟩]) ∧
              replaced u (final code.byte) none
                (if ring.outbound then leNat (slice copy 2 2) else 0) 0 0) ∧
          (∀ copy, slot.held = none → slot.copy = some copy → (byteAt copy 1).getLsbD 4 = true →
            ∃ u : State, written bytes u ∧ u.links = s.links ∧
              u.mail.statuses = s.mail.statuses ∧
              replaced u status none (if ring.outbound then leNat (slice copy 2 2) else 0) 0 0) ∧
          (slot.held = none →
            (∀ copy, slot.copy = some copy → (byteAt copy 1).getLsbD 4 = false) →
            discarded bytes)))

/-- R32: a hold-off of 0 passes; another passes when at least 32 × h raw ticks have gone since the last transmit
completion, or without one since the open stamp; until then a descriptor that would be presented ready is
presented with OWN clear and nothing changes. -/
def Obligations.HoldOffSpacesDescriptors : Prop :=
  ∀ (s : State) (l : LinkSlot),
    s.holdOffPassed l 0 = true ∧
    (∀ h stamp, h ≠ 0 → (s.link l).lastTransmit = some stamp →
      (s.holdOffPassed l h = true ↔ 32 * h ≤ s.time.rawTick.toNat - stamp.toNat)) ∧
    (∀ h stamp, h ≠ 0 → (s.link l).lastTransmit = none → (s.link l).openStamp = some stamp →
      (s.holdOffPassed l h = true ↔ 32 * h ≤ s.time.rawTick.toNat - stamp.toNat)) ∧
    ∀ (r : RingIndex) (i : Nat) (d : List Byte) (cls : FrameClass),
      (s.slot r i).pending = false → (s.slot r i).held = none → (s.link l).outContext = none →
      descOwn d = true → descSkip d = false → outboundCheck (s.link l) d = .inr cls →
      s.holdOffPassed l (descHoldOff d) = false →
      s.presentOut r l i d = (s, withOwnClear d)

/-! ### Landings, read data, and the command ring -/

/-- INTERNAL_WRITE_LANDED (R38, R48, R171, R180): a replacement clears its slot's record and no other; a result
takes its entry off the head of the queue and brings the blocks' regions into the map; a record sets its
entry's flag, moves the write index on, and nothing is in flight; with a SET_REPORT_RING waiting, the ring is
then replaced and the command answered (R169). -/
def Obligations.InternalWritesLand : Prop :=
  ∀ (s : State) (rest : List Completion),
    (∀ (q : RingIndex) (i : Nat), s.completions = .landed (.replacement q i) :: rest →
      ∃ u : State, exec .internalWriteLanded s = .next u.resume ∧
        u.slot q i = SlotRecord.clear ∧ (∀ p j, p ≠ q ∨ j ≠ i → u.slot p j = s.slot p j) ∧
        u.still = { s.still with completions := rest } ∧ u.links = s.links ∧ u.keys = s.keys ∧
        u.internal = s.internal ∧ u.mail = s.mail) ∧
    (∀ e : EntryIndex, s.completions = .landed (.result e) :: rest →
      exec .internalWriteLanded s = .next ({ s with
        completions := rest
        command := ⟨s.command.queue.tail, none⟩
        steering := { s.steering with map := s.ownMap } } : State).resume) ∧
    ∀ (e : Nat) (ring : ReportRing), s.completions = .landed (.record e) :: rest →
      s.reports.ring = some ring →
      ((∀ entry record new, s.command.executing ≠ some ⟨entry, .replacingRing record new⟩) →
        exec .internalWriteLanded s = .next ({ s with
        completions := rest
        reports := { s.reports with
          valid := setFlag s.reports.valid e
          writeIndex :=
            if s.reports.writeIndex + 1 < ring.entries then s.reports.writeIndex + 1 else 0
          inFlight := none } } : State).resume) ∧
      ∀ entry record new, s.command.executing = some ⟨entry, .replacingRing record new⟩ →
        exec .internalWriteLanded s = .next (({ s with
          completions := rest
          reports := { s.reports with
            ring := new.map (fun r => ⟨r.1, r.2, s.reports.rings⟩)
            rings := s.reports.rings + 1
            valid := 0
            writeIndex := 0
            inFlight := none } } : State).answer record .ok []).resume

/-- COMMAND_POSTING (R177): an observation of 0x01 for an entry that is neither queued nor executing joins the
tail of the queue; a duplicate posting and any other value change nothing.

COMMAND_FETCH (R176, R178): with no entry executing the head entry executes and its fetch, one 32-byte read
of the entry, is queued; otherwise no fetch is issued. -/
def Obligations.PostingsAndFetches : Prop :=
  (∀ (s : State) (e : EntryIndex) (v : Byte) (rest : List Completion),
      s.completions = .commandWrite e v :: rest →
      (v = 0x01#8 → e ∉ s.command.queue → exec .commandPosting s = .next { s with
        completions := rest
        command := { s.command with queue := s.command.queue ++ [e] } }) ∧
      (v ≠ 0x01#8 ∨ e ∈ s.command.queue →
        exec .commandPosting s = .next { s with completions := rest })) ∧
  (∀ s : State,
      (∀ e rest, s.command.executing = none → s.command.queue = e :: rest →
        exec .commandFetch s = .next (({ s with
          command := { s.command with executing := some ⟨e, .fetching⟩ } } : State).queueRead
            ⟨s.steering.map.anchor + 32 * e.val, 4, .fetch e⟩)) ∧
      (s.command.executing.isSome = true ∨ s.command.queue = [] → exec .commandFetch s = .next s))

/-- A fetched entry (R178, R179): withdrawn without a result unless its byte 0 is 0x01; answered with
UNKNOWN_COMMAND when its code names no command; else dispatched with the raw tick of that moment, a store
command joining the store's queue (R127).

A gap fill's data are enciphered and absorbed from the next fill offset on, to the fill end or the end of the
data, while their keystream is held; coverage and the next fill offset move past them; the fill then ends, or
its next read is queued; the window follows, and stays at the block of the fill end when the fill ends (R61, R65,
R66; log 28). Data for a context that has closed are discarded
(R48, R66). -/
def Obligations.ReadDataReachTheirOwner : Prop :=
  (∀ (s : State) (e : EntryIndex) (b : List Byte) (rest : List Completion), b.length = 32 →
      s.completions = .data (.fetch e) b :: rest → s.command.executing = some ⟨e, .fetching⟩ →
      let t : State := { s with completions := rest }
      let d : State := { t with command := { s.command with
        executing := some ⟨e, .dispatched b s.time.rawTick⟩ } }
      let code := (byteAt b 1).toNat
      (byteAt b 0 ≠ 0x01#8 → exec .internalReadData s =
        .next ({ t with command := ⟨s.command.queue.tail, none⟩ } : State).resume) ∧
      (byteAt b 0 = 0x01#8 → code = 0 ∨ 0x14 < code → exec .internalReadData s =
        .next (t.answer b .unknownCommand []).resume) ∧
      (byteAt b 0 = 0x01#8 → 1 ≤ code → code ≤ 0x14 → code ≠ 0x0C → code ≠ 0x0D →
        exec .internalReadData s = .next d.resume) ∧
      (byteAt b 0 = 0x01#8 → code = 0x0C ∨ code = 0x0D →
        exec .internalReadData s = .next (d.askStore .command).resume)) ∧
  (∀ (s : State) (l : LinkSlot) (c : OutContext) (f : Fill) (b : List Byte)
      (rest : List Completion),
      s.completions = .data (.fill l c.ident) b :: rest → (s.link l).outContext = some c →
      c.fill = some f → f.outstanding = true → f.next = c.coverage → f.last < c.len →
      c.tag.keys.isSome = true →
      let payload := c.pointer + 16
      let beat (o : Nat) : Nat := (payload + o) / 8 * 8
      let upto := min (f.last + 1) (beat f.next + b.length - payload)
      let plain (o : Nat) : Byte := byteAt b (payload + o - beat f.next)
      f.next < upto → c.holdsKeystream f.next (upto - 1) →
      ∃ u : State, exec .internalReadData s = .next u.resume ∧
        u.still = { s.still with completions := rest } ∧ u.mail = s.mail ∧
        (upto = f.last + 1 → u.internal = s.internal ∧ ∃ k : Keystream, k.start = 1 + f.last / 16 ∧
          (k.start = c.keystream.start → k = c.keystream) ∧
          (u.link l).outContext = some { c with
            coverage := upto, tag := c.tagThrough plain upto, keystream := k, fill := none }) ∧
        (upto ≤ f.last → ∃ k : Keystream, k.start = 1 + upto / 16 ∧
          (u.link l).outContext = some { c with
            coverage := upto, tag := c.tagThrough plain upto, keystream := k
            fill := some ⟨upto, f.last, true, none⟩ } ∧
          u.internal.reads ++ u.internal.waitingReads =
            s.internal.reads ++ s.internal.waitingReads ++
              [⟨beat upto, (min (beat f.last) (beat upto / 64 * 64 + 56) - beat upto) / 8 + 1,
                .fill l c.ident⟩])) ∧
  (∀ (s : State) (l : LinkSlot) (ident : Nat) (b : List Byte) (rest : List Completion),
      s.completions = .data (.fill l ident) b :: rest →
      (∀ c, (s.link l).outContext = some c → c.ident ≠ ident) →
      exec .internalReadData s = .next ({ s with completions := rest } : State).resume)

/-- R180: an answer queues one 32-byte write at the executing entry: 0x03, the code as fetched, the result
code, and the argument bytes as fetched but for those returned or scrubbed. Nothing else changes. -/
def Obligations.ResultEntryIsWritten : Prop :=
  ∀ (s : State) (x : Executing) (r : List Byte) (code : ResultCode)
    (returned : List (Nat × List Byte)),
    s.command.executing = some x → r.length = 32 →
    (returned = [] ∨ ∃ a bs, returned = [(a, bs)] ∧ 3 ≤ a ∧ a + bs.length ≤ 32) →
    ∃ b : List Byte, b.length = 32 ∧ byteAt b 0 = 0x03#8 ∧ byteAt b 1 = byteAt r 1 ∧
      byteAt b 2 = code.byte ∧
      (∀ i, 3 ≤ i → i < 32 → byteAt b i =
        match returned with
        | (a, bs) :: _ => if a ≤ i ∧ i < a + bs.length then byteAt bs (i - a) else byteAt r i
        | [] => byteAt r i) ∧
      s.answer r code returned = ({ s with
        command := { s.command with executing := some { x with phase := .answered } } } :
          State).queueWrite ⟨s.steering.map.anchor + 32 * x.entry.val, b, .result x.entry, none⟩

/-! ### Commands of the ring: `r` is the dispatched entry (R179), whose answer is R180's. -/

/-- NOP (R182): accepted, its arguments written back, no state changed.

A command that is not the dispatched one is not taken (R179; logs 2, 10). -/
def Obligations.NopAndUndispatchedCommands : Prop :=
  (∀ (s : State) (r : List Byte) (stamp : Seq), s.offered .nop = some (r, stamp) →
      exec .nop s = .next (s.answer r .ok [])) ∧
  (∀ (c : Instr) (s : State), (encodeRecord c).isSome = true → s.offered c = none →
      exec c s = .next s)

/-- CONFIG_LINK (R19): the checks in order, then the six values, filter state 0 and no last keepalive. -/
def Obligations.ConfigLinkSetsTheLink : Prop :=
  ∀ (s : State) (r : List Byte) (stamp : Seq) (link : Byte) (wire maxPayload : Half)
    (period : Byte) (grace : Half) (binding : Byte) (mask : List Byte),
    let c := Instr.configLink link wire maxPayload period grace binding mask
    s.offered c = some (r, stamp) →
    (8 ≤ link.toNat ∨ (4 ≤ binding.toNat ∧ binding ≠ 0xFF#8) →
      exec c s = .next (s.answer r .badArgument [])) ∧
    ∀ (l : LinkSlot) (kek : Option KekIndex), link.toNat = l.val → binding = bindingByte kek →
      ((s.link l).state ≠ .closed → exec c s = .next (s.answer r .wrongState [])) ∧
      ((s.link l).state = .closed →
        maxPayload.toNat < 64 ∨ 8192 < maxPayload.toNat ∨ wire = 0 ∨
          (∃ m, m ≠ l ∧ (s.link m).wireId = some wire) →
        exec c s = .next (s.answer r .badArgument [])) ∧
      ((s.link l).state = .closed → 64 ≤ maxPayload.toNat → maxPayload.toNat ≤ 8192 → wire ≠ 0 →
        (∀ m, m ≠ l → (s.link m).wireId ≠ some wire) →
        exec c s = .next ((s.setLink l { s.link l with
          wireId := some wire, maxPayload := maxPayload.toNat, keepalive := period.toNat,
          grace := grace.toNat, kek := kek, mask := mask, filter := 0,
          lastKeepalive := none }).answer r .ok []))

/-- SET_GUARD (R20): the checks in order; size 0 removes the guard; an acceptable region replaces it. The guard
replaced is left out of the overlap test.

SET_PHANTOM (R52): refused unless all links are CLOSED; flag 0 removes the window; flag 1 places an
acceptable one, the present window left out of the overlap test. -/
def Obligations.GuardAndPhantomCommands : Prop :=
  (∀ (s : State) (r : List Byte) (stamp : Seq) (link direction : Byte) (base size : Long),
      let c := Instr.setGuard link direction base size
      s.offered c = some (r, stamp) →
      (8 ≤ link.toNat ∨ 2 ≤ direction.toNat → exec c s = .next (s.answer r .badArgument [])) ∧
      ∀ (l : LinkSlot) (inbound : Bool), link.toNat = l.val → direction = directionByte inbound →
        let guard (g : Option Region) : State :=
          s.setLink l (if inbound then { s.link l with receive := g }
            else { s.link l with transmit := g })
        let legal := base.toNat % 4096 = 0 ∧ size.toNat % 4096 = 0 ∧ size.toNat ≤ 2 ^ 24 ∧
          base.toNat + size.toNat ≤ 2 ^ 32
        ((s.link l).state ≠ .closed → exec c s = .next (s.answer r .wrongState [])) ∧
        ((s.link l).state = .closed → size = 0 →
          exec c s = .next ((guard none).answer r .ok [])) ∧
        ((s.link l).state = .closed → size ≠ 0 → ¬legal →
          exec c s = .next (s.answer r .badArgument [])) ∧
        ((s.link l).state = .closed → size ≠ 0 → legal →
          (guard none).ownMap.meets (base.toNat, size.toNat) = true →
          exec c s = .next (s.answer r .overlap [])) ∧
        ((s.link l).state = .closed → size ≠ 0 → legal →
          (guard none).ownMap.meets (base.toNat, size.toNat) = false →
          exec c s = .next ((guard (some ⟨base.toNat, size.toNat⟩)).answer r .ok []))) ∧
  (∀ (s : State) (r : List Byte) (stamp : Seq) (present : Byte) (base : Long),
      let c := Instr.setPhantom present base
      let without : State := { s with phantom := none }
      s.offered c = some (r, stamp) →
      ((∃ l, (s.link l).state ≠ .closed) → exec c s = .next (s.answer r .wrongState [])) ∧
      ((∀ l, (s.link l).state = .closed) →
        (present = 0 → exec c s = .next (without.answer r .ok [])) ∧
        (present ≠ 0 → present ≠ 1 ∨ base.toNat % 512 ≠ 0 →
          exec c s = .next (s.answer r .badArgument [])) ∧
        (present = 1 → base.toNat % 512 = 0 → without.ownMap.meets (base.toNat, 512) = true →
          exec c s = .next (s.answer r .overlap [])) ∧
        (present = 1 → base.toNat % 512 = 0 → without.ownMap.meets (base.toNat, 512) = false →
          exec c s = .next (({ s with phantom := some base.toNat } : State).answer r .ok []))))

/-- SET_RING (R21): the checks in order; the link's own ring record is rewritten in place, or else the
lowest-numbered free one is taken, every slot of it clear.

CLEAR_RING (R22): the checks in order; the ring record is freed and the link's ring field absent; without a
ring nothing changes; the result is OK in both cases, and once it has landed the region map holds no area of
the freed record. -/
def Obligations.RingCommands : Prop :=
  (∀ (s : State) (r : List Byte) (stamp : Seq) (link direction : Byte) (base : Long)
      (slots : Half),
      let c := Instr.setRing link direction base slots
      s.offered c = some (r, stamp) →
      (8 ≤ link.toNat ∨ 2 ≤ direction.toNat → exec c s = .next (s.answer r .badArgument [])) ∧
      ∀ (l : LinkSlot) (inbound : Bool), link.toNat = l.val → direction = directionByte inbound →
        let own := if inbound then (s.link l).inRing else (s.link l).outRing
        let without : State := match own with | some q => s.setRing q none | none => s
        let legal := base.toNat % 16 = 0 ∧ 2 ≤ slots.toNat ∧ slots.toNat ≤ 256 ∧
          base.toNat + 16 * slots.toNat ≤ 2 ^ 32
        let taken (q : RingIndex) : State :=
          (s.setRing q (some ⟨l, !inbound, base.toNat,
            List.replicate slots.toNat SlotRecord.clear⟩)).setLink l
              (if inbound then { s.link l with inRing := some q }
                else { s.link l with outRing := some q })
        ((s.link l).state ≠ .closed → exec c s = .next (s.answer r .wrongState [])) ∧
        ((s.link l).state = .closed → ¬legal → exec c s = .next (s.answer r .badArgument [])) ∧
        ((s.link l).state = .closed → legal →
          without.ownMap.meets (base.toNat, 16 * slots.toNat) = true →
          exec c s = .next (s.answer r .overlap [])) ∧
        ((s.link l).state = .closed → legal →
          without.ownMap.meets (base.toNat, 16 * slots.toNat) = false →
          (∀ q, own = some q → exec c s = .next ((taken q).answer r .ok [])) ∧
          ∀ q, own = none → s.ring q = none → (∀ p, p < q → s.ring p ≠ none) →
            exec c s = .next ((taken q).answer r .ok []))) ∧
  (∀ (s : State) (r : List Byte) (stamp : Seq) (link direction : Byte),
      let c := Instr.clearRing link direction
      s.offered c = some (r, stamp) →
      (8 ≤ link.toNat ∨ 2 ≤ direction.toNat → exec c s = .next (s.answer r .badArgument [])) ∧
      ∀ (l : LinkSlot) (inbound : Bool), link.toNat = l.val → direction = directionByte inbound →
        let own := if inbound then (s.link l).inRing else (s.link l).outRing
        ((s.link l).state ≠ .closed → exec c s = .next (s.answer r .wrongState [])) ∧
        ((s.link l).state = .closed → own = none → exec c s = .next (s.answer r .ok [])) ∧
        ((s.link l).state = .closed → ∀ q, own = some q →
          exec c s = .next (((s.setRing q none).setLink l
            (if inbound then { s.link l with inRing := none }
              else { s.link l with outRing := none })).answer r .ok []) ∧
          ((s.setRing q none).resultLanded.steering.map.areas[q] = none)))

/-- OPEN_LINK (R23): the checks in order; a configured CLOSED link goes to AWAIT_KEY with the open stamp, no
last transmit completion, arrival or keepalive, filter state 0, idle count 0, a restarted health record and
both rings' slots clear. -/
def Obligations.OpenLinkOpensTheLink : Prop :=
  ∀ (s : State) (r : List Byte) (stamp : Seq) (link : Byte),
    s.offered (.openLink link) = some (r, stamp) →
    (8 ≤ link.toNat → exec (.openLink link) s = .next (s.answer r .badArgument [])) ∧
    ∀ l : LinkSlot, link.toNat = l.val →
      ((s.link l).state ≠ .closed →
        exec (.openLink link) s = .next (s.answer r .wrongState [])) ∧
      ((s.link l).state = .closed →
        (s.link l).wireId = none ∨ (s.link l).outRing = none ∨ (s.link l).inRing = none ∨
          (s.link l).transmit = none ∨ (s.link l).receive = none →
        exec (.openLink link) s = .next (s.answer r .badArgument [])) ∧
      ∀ p q, (s.link l).state = .closed → (s.link l).wireId.isSome = true →
        (s.link l).outRing = some p → (s.link l).inRing = some q →
        (s.link l).transmit.isSome = true → (s.link l).receive.isSome = true →
        ∃ u : State, exec (.openLink link) s = .next (u.answer r .ok []) ∧
          u.link l = { s.link l with
            state := .awaitKey, openStamp := some s.time.rawTick, lastTransmit := none,
            lastArrival := none, filter := 0, lastKeepalive := none, idle := 0,
            health := { (s.link l).health with
              e := 0, a := 0, cleanRun := 0, errored := false, silent := false, timer := 0,
              quiet := 0, due := false } } ∧
          (∀ m, m ≠ l → u.link m = s.link m) ∧
          (∀ i, u.slot p i = SlotRecord.clear ∧ u.slot q i = SlotRecord.clear) ∧
          (∀ o i, o ≠ p → o ≠ q → u.slot o i = s.slot o i) ∧
          u.still = s.still ∧ u.keys = s.keys ∧ u.mail = s.mail ∧ u.steering = s.steering ∧
          u.command = s.command ∧ u.internal = s.internal

/-- CLOSE_LINK (R24): refused on a CLOSED link; an AWAIT_KEY, KEYED or QUARANTINED link goes to CLOSING, the
drain limit counts from the dispatch, and the command waits. A link that has already drained closes at
once (R25). -/
def Obligations.CloseLinkStartsTheDrain : Prop :=
  ∀ (s : State) (r : List Byte) (stamp : Seq) (link : Byte),
    s.offered (.closeLink link) = some (r, stamp) →
    (8 ≤ link.toNat → exec (.closeLink link) s = .next (s.answer r .badArgument [])) ∧
    ∀ l : LinkSlot, link.toNat = l.val →
      ((s.link l).state = .closed →
        exec (.closeLink link) s = .next (s.answer r .wrongState [])) ∧
      ∀ x, s.command.executing = some x → (s.link l).state = .awaitKey ∨
        (s.link l).state = .keyed ∨ (s.link l).state = .quarantined →
        exec (.closeLink link) s = .next ({ s.setLink l { s.link l with
            state := .closing, drainStart := some stamp } with
          command := { s.command with executing := some { x with phase := .closing r l } } } :
            State).closeDrained

/-- The transition to CLOSED (R25): only a CLOSING link with no context, no pending slot and no job closes; its
keys are zeroized without reports, its per-session fields and running health fields cleared, its configuration
kept, its slots cleared, LINK_CLOSED posted. A CLOSE_LINK of this link that waits is answered with OK at that
transition, its result queued at its entry; one of another link goes on waiting (R24, R180, R181). -/
def Obligations.DrainedLinksClose : Prop :=
  ∀ (s : State) (l : LinkSlot),
    (s.drained l = false → s.closeIfDrained l = s) ∧
    (s.drained l = true ↔ (s.link l).state = .closing ∧ (s.link l).outContext = none ∧
      (s.link l).inContext = none ∧ s.pendingSlots (s.link l).outRing = 0 ∧
      s.pendingSlots (s.link l).inRing = 0 ∧ ∀ j ∈ s.keys.jobs, j.link ≠ l) ∧
    (s.drained l = true →
      let u := s.closeIfDrained l
      u.link l = { s.link l with
        state := .closed, filter := 0, lastKeepalive := none, openStamp := none,
        lastTransmit := none, lastArrival := none, idle := 0, drainStart := none,
        health := { (s.link l).health with
          e := 0, a := 0, cleanRun := 0, errored := false, silent := false, timer := 0,
          quiet := 0, due := false } } ∧
      (∀ m, m ≠ l → u.link m = s.link m) ∧
      (∀ k, u.key k = if (s.key k).link = l then KeySlot.empty else s.key k) ∧
      (∀ q i, (s.link l).outRing = some q ∨ (s.link l).inRing = some q →
        u.slot q i = SlotRecord.clear) ∧
      (∀ q i, (s.link l).outRing ≠ some q → (s.link l).inRing ≠ some q →
        u.slot q i = s.slot q i) ∧
      u.mail.reports = s.mail.reports ++ [(.linkUnit, ⟨.linkClosed, some l, 0⟩)] ∧
      (∀ entry record, s.command.executing = some ⟨entry, .closing record l⟩ → record.length = 32 →
        u.command = { s.command with executing := some ⟨entry, .answered⟩ } ∧
        ∃ b : List Byte, u.internal.writes ++ u.internal.waitingWrites =
            s.internal.writes ++ s.internal.waitingWrites ++
              [⟨s.steering.map.anchor + 32 * entry.val, b, .result entry, none⟩] ∧
          b.length = 32 ∧ byteAt b 0 = 0x03#8 ∧ byteAt b 1 = byteAt record 1 ∧
          byteAt b 2 = 0x00#8 ∧ b.drop 3 = record.drop 3) ∧
      ((∀ entry record, s.command.executing ≠ some ⟨entry, .closing record l⟩) →
        u.command = s.command ∧ u.internal = s.internal) ∧
      u.still = s.still)

/-- DRAIN_LIMIT_EXPIRY (R26, R73): 65,536 raw ticks after the dispatch, a link still CLOSING is forced: both
contexts are gone, a software frame's slot is replaced with KEY_LOST, whatever it was lost with before (the
model's reading, log 45), and an inbound one's with STREAM_FAULT, its
last transmit completion not set. A substituted context closes without a replacement. A slot whose replacement is
held for a renewal job is replaced with LINK_CLOSED at once, and the job goes on. A held read of the outbound extent is answered as of a key-lost frame (R70). A completion that a held master
presents is accepted only afterwards; no completion stands inside the port meanwhile, because one is taken as
soon as it is accepted (R35). Before the limit nothing happens. -/
def Obligations.DrainLimitForcesTheDrain : Prop :=
  ∀ (s : State) (l : LinkSlot),
    ((s.link l).state ≠ .closing ∨ (∀ stamp, (s.link l).drainStart = some stamp →
        s.time.rawTick.toNat - stamp.toNat < 65536) →
      exec (.drainLimitExpiry l) s = .next s) ∧
    ∀ stamp, (s.link l).state = .closing → (s.link l).drainStart = some stamp →
      65536 ≤ s.time.rawTick.toNat - stamp.toNat →
      ∃ u : State, exec (.drainLimitExpiry l) s = .next u.resume ∧
        (u.link l).state = .closing ∧ (u.link l).outContext = none ∧
        (u.link l).inContext = none ∧ (u.link l).drainStart = none ∧ u.still = s.still ∧
        u.steering.l.presented = s.steering.l.presented ∧
        (∀ c x p, (s.link l).outContext = some c → s.steering.l.current = some x →
          x.request.isRead = true → x.portions = [p] → x.returned = [] → p.answer = [] →
          p.done = false → p.place = .transmitGuard l → c.substituted = false →
          max p.start c.pointer < min (p.start + 8 * p.beats) (c.pointer + 24 + c.len) →
          let trailer := c.pointer + 16 + c.len
          u.steering.l.current = none ∧
            u.steering.l.answered = some (.data ((List.range (8 * p.beats)).map (fun j =>
              if trailer ≤ p.start + j ∧ p.start + j < trailer + 8 then
                (match c.tag.value with
                  | some v => ~~~(BitVec.ofNat 8 (v / 256 ^ (p.start + j - trailer)))
                  | none => 0xFF#8)
              else 0x00#8)))) ∧
        ((∀ x, s.steering.l.current = some x → x.request.isRead = true ∨
            ∀ p ∈ x.portions, p.done = true ∨ ∀ r area, p.place ≠ .descriptors r area) →
        (∀ c q ring copy, (s.link l).outContext = some c →
          c.substituted = false → (s.link l).outRing = some q → s.ring q = some ring →
          (ring.slot c.slot).copy = some copy →
          ∃ w ∈ u.internal.writes ++ u.internal.waitingWrites,
            w.use = .replacement q c.slot ∧ byteAt w.bytes 0 = 0x45#8) ∧
        (∀ c q ring copy, (s.link l).inContext = some c →
          (s.link l).inRing = some q → (s.link l).outRing ≠ some q → s.ring q = some ring →
          (ring.slot c.slot).copy = some copy →
          ∃ w ∈ u.internal.writes ++ u.internal.waitingWrites,
            w.use = .replacement q c.slot ∧ byteAt w.bytes 0 = 0x4C#8) ∧
        (∀ c q, (s.link l).outContext = some c → c.substituted = true →
          (s.link l).outRing = some q → (s.link l).inRing ≠ some q →
          (∀ j, u.slot q j = s.slot q j) ∧
          ∀ w ∈ u.internal.writes ++ u.internal.waitingWrites,
            (∃ j, w.use = .replacement q j) →
              w ∈ s.internal.writes ++ s.internal.waitingWrites) ∧
        (∀ q ring i o copy, (s.link l).inRing = some q → (s.link l).outRing ≠ some q →
          s.ring q = some ring → i < ring.slots.length → (ring.slot i).job = some o →
          (ring.slot i).copy = some copy →
          (∀ c, (s.link l).inContext = some c → c.slot ≠ i) →
          u.slot q i = { ring.slot i with pending := true, job := none } ∧
          ∃ w ∈ u.internal.writes ++ u.internal.waitingWrites,
            w.use = .replacement q i ∧ byteAt w.bytes 0 = 0x43#8) ∧
        u.keys.jobs = s.keys.jobs ∧ (u.link l).lastTransmit = (s.link l).lastTransmit)

/-- QUERY_LINK (R27): accepted in every link state, it changes nothing and returns the snapshot in the bytes
that 12.4 names (bits 5 to 7 of byte 9 are 0 by the model's choice, log 56).

RESET_FILTER (R100): in every link state, filter state 0 and no last keepalive. -/
def Obligations.QueryAndFilterCommands : Prop :=
  (∀ (s : State) (r : List Byte) (stamp : Seq) (link : Byte),
      s.offered (.queryLink link) = some (r, stamp) →
      (8 ≤ link.toNat → exec (.queryLink link) s = .next (s.answer r .badArgument [])) ∧
      ∀ l : LinkSlot, link.toNat = l.val →
        let epoch (k : Option KeyIndex) : List Byte :=
          match k with | some k => leBytes 2 (s.key k).epoch.toNat | none => [0x00#8, 0x00#8]
        ∃ b : List Byte, exec (.queryLink link) s = .next (s.answer r .ok [(4, b)]) ∧
          b.length = 18 ∧ byteAt b 0 = (s.link l).state.code ∧
          slice b 1 2 = leBytes 2 ((s.link l).wireId.getD 0).toNat ∧
          slice b 3 2 = epoch (s.currentKey l) ∧
          ((byteAt b 5).getLsbD 0 = true ↔
            ∃ k, s.currentKey l = some k ∧ (s.key k).state = .overdue) ∧
          (byteAt b 5).getLsbD 1 = (s.link l).health.silent ∧
          (byteAt b 5).getLsbD 2 = (s.link l).outContext.isSome ∧
          (byteAt b 5).getLsbD 3 = (s.link l).inContext.isSome ∧
          (byteAt b 5).getLsbD 4 = (s.link l).kek.isSome ∧
          slice b 6 2 = epoch (s.pendingKey l) ∧ slice b 8 2 = epoch (s.drainingKey l) ∧
          slice b 10 2 = leBytes 2 (s.link l).health.e ∧
          slice b 12 1 = leBytes 1 (s.link l).health.a ∧
          slice b 13 1 = leBytes 1 (s.link l).filter ∧
          slice b 14 2 = leBytes 2 (s.pendingSlots (s.link l).outRing) ∧
          slice b 16 2 = leBytes 2 (s.pendingSlots (s.link l).inRing)) ∧
  (∀ (s : State) (r : List Byte) (stamp : Seq) (link : Byte),
      s.offered (.resetFilter link) = some (r, stamp) →
      (8 ≤ link.toNat → exec (.resetFilter link) s = .next (s.answer r .badArgument [])) ∧
      ∀ l : LinkSlot, link.toNat = l.val →
        exec (.resetFilter link) s = .next ((s.setLink l { s.link l with
          filter := 0, lastKeepalive := none }).answer r .ok []))

/-- RETIRE_KEY (R106, R122): the named key's slot is emptied and KEY_RETIRED posted with cause command; after
the CURRENT key the PENDING one is ACTIVE at age 0 or, without one, a KEYED link awaits a key; after another
key nothing else of the table changes. -/
def Obligations.RetireKeyRetiresTheKey : Prop :=
  ∀ (s : State) (r : List Byte) (stamp : Seq) (link named : Byte),
    let c := Instr.retireKey link named
    s.offered c = some (r, stamp) →
    (8 ≤ link.toNat ∨ 3 ≤ named.toNat →
      exec c s = .next (s.answer r .badArgument []).resume) ∧
    ∀ l : LinkSlot, link.toNat = l.val →
      let key := if named = 0 then s.pendingKey l else if named = 1 then s.currentKey l
        else s.drainingKey l
      named.toNat ≤ 2 →
      (key = none → exec c s = .next (s.answer r .wrongState []).resume) ∧
      ∀ k, key = some k →
        ∃ u : State, exec c s = .next (u.answer r .ok []).resume ∧ u.key k = KeySlot.empty ∧
          (.keyUnit, ⟨.keyRetired (s.key k).epoch (s.key k).state .command, some l, 0⟩) ∈
            u.mail.reports ∧
          (named ≠ 1 → ∀ j, j ≠ k → u.key j = s.key j) ∧
          (named = 1 → ∀ p, s.pendingKey l = some p →
            (u.key p).state = .active ∧ (u.key p).age = some 0) ∧
          (named = 1 → s.pendingKey l = none → (s.link l).state = .keyed →
            (u.link l).state = .awaitKey) ∧
          u.still = s.still ∧ (∀ m, m ≠ l → u.link m = s.link m)

/-- LOAD_KEK (R131, R132), taken at the head of the store's queue: the checks in order; part 1 fills the
staging record; part 2 writes the slot whole and empties the record. The 16 key bytes of every result are
zero. A refused part changes nothing.

ERASE_KEK (R133): the checks in order; the slot is EMPTY, key and counters zero; the staging record
stays. A transform taken before the erase, whose KEK the engine is still fetching, keeps the old KEK (log 51); every
reference formed before the erase is out of date by the model's own count of erasures (log 52). -/
def Obligations.KekCommands : Prop :=
  (∀ (s : State) (r : List Byte) (stamp : Seq) (rest : List StoreRequest) (slot : Byte)
      (half : List Byte) (counter : Seq), s.store.requests = .command :: rest →
      let t : State := { s with store := s.store.tookHead .command rest }
      (∀ part, s.offered (.loadKekPart1 part slot half counter) = some (r, stamp) →
        let c := Instr.loadKekPart1 part slot half counter
        (4 ≤ slot.toNat ∨ part ≠ 1 →
          exec c s = .next (t.answer r .badArgument [(5, zeroes 16)])) ∧
        ∀ k : KekIndex, slot.toNat = k.val → part = 1 →
          (s.store.marker = .parked →
            exec c s = .next (t.answer r .storeParked [(5, zeroes 16)])) ∧
          (s.store.marker = .live → (s.kek k).state = .loaded →
            exec c s = .next (t.answer r .wrongState [(5, zeroes 16)])) ∧
          (s.store.marker = .live → (s.kek k).state ≠ .loaded →
            exec c s = .next (({ t with store := { t.store with
              staging := some ⟨k, half, counter⟩ } } : State).answer r .ok [(5, zeroes 16)]))) ∧
      (s.offered (.loadKekPart2 slot half counter) = some (r, stamp) →
        let c := Instr.loadKekPart2 slot half counter
        (4 ≤ slot.toNat → exec c s = .next (t.answer r .badArgument [(5, zeroes 16)])) ∧
        ∀ k : KekIndex, slot.toNat = k.val →
          (s.store.marker = .parked →
            exec c s = .next (t.answer r .storeParked [(5, zeroes 16)])) ∧
          (s.store.marker = .live →
            (∀ st, s.store.staging = some st → st.slot ≠ k) ∨ (s.kek k).state = .loaded →
            exec c s = .next (t.answer r .wrongState [(5, zeroes 16)])) ∧
          ∀ st, s.store.marker = .live → s.store.staging = some st → st.slot = k →
            (s.kek k).state ≠ .loaded →
            exec c s = .next (({ t with store := { t.store with
              slots := s.store.slots.set k ⟨.loaded, st.half ++ half, st.counter, counter⟩
              staging := none } } : State).answer r .ok [(5, zeroes 16)]))) ∧
  (∀ (s : State) (r : List Byte) (stamp : Seq) (rest : List StoreRequest) (slot : Byte),
      s.store.requests = .command :: rest → s.offered (.eraseKek slot) = some (r, stamp) →
      let t : State := { s with store := s.store.tookHead .command rest }
      (4 ≤ slot.toNat → exec (.eraseKek slot) s = .next (t.answer r .badArgument [])) ∧
      ∀ k : KekIndex, slot.toNat = k.val →
        (s.store.marker = .parked →
          exec (.eraseKek slot) s = .next (t.answer r .storeParked [])) ∧
        (s.store.marker = .live →
          let engine : Engine := match s.cipher.engine with
            | .fetching q none =>
              if q.key = .held (.kek k (s.erasures k)) ∧ (s.kek k).state = .loaded then
                .fetching q (some (s.kek k).key)
              else .fetching q none
            | other => other
          exec (.eraseKek slot) s = .next (({ t with
            cipher := { s.cipher with engine := engine }
            store := { t.store with
              slots := s.store.slots.set k ⟨.empty, List.replicate 32 0, 0, 0⟩
              erasures := s.store.erasures.set k (s.erasures k + 1) } } :
              State).answer r .ok [])))

/-! ### The cipher unit -/

/-- CIPHER_TAKE (R15, R16): the free engine takes the oldest request of the first requester after the pointer
that has one, and the pointer moves there. A usable session key or a candidate is copied and the transform
computed; a KEK is fetched from the store; a session key that is gone loses the frame that asked, and the
engine stays free. A busy engine, or empty queues, take nothing. -/
def Obligations.CipherTakesByRoundRobin : Prop :=
  (∀ (s : State) (d : Nat) (q : CipherRequest) (rest : List CipherRequest), d < 17 →
    let i : Fin 17 := s.cipher.pointer + 1 + Fin.ofNat 17 d
    s.cipher.engine = .free → s.cipher.queues[i] = q :: rest →
    (∀ e, e < d → s.cipher.queues[s.cipher.pointer + 1 + Fin.ofNat 17 e] = []) →
    let taken (engine : Engine) : State := { s with cipher :=
      ⟨s.cipher.queues.set i rest, engine, i⟩ }
    (∀ k l epoch n, q.key = .held (.session k l epoch n) → s.holds k l epoch n = true →
      exec .cipherTake s =
        .next (taken (.busy q (blockTransform (s.key k).key q.input))).resume) ∧
    (∀ j key, q.key = .candidate → s.keys.jobs.find? (fun j => j.ident == q.ident) = some j →
      j.candidate = some key →
      exec .cipherTake s = .next (taken (.busy q (blockTransform key q.input))).resume) ∧
    (∀ k n, q.key = .held (.kek k n) → exec .cipherTake s =
      .next ((taken (.fetching q none)).askStore (.keyFetch k)).resume) ∧
    (∀ k l epoch n m c, q.key = .held (.session k l epoch n) → s.holds k l epoch n = false →
      q.requester = .outbound m → (s.link m).outContext = some c → c.ident = q.ident →
      c.lost = none →
      ∃ u : State, exec .cipherTake s = .next u.resume ∧ u.cipher.engine = .free ∧
        u.still = s.still ∧ ∃ c', (u.link m).outContext = some c' ∧ c'.lost = some .keyLost)) ∧
  (∀ s : State, s.cipher.engine ≠ .free ∨ (∀ i : Fin 17, s.cipher.queues[i] = []) →
    exec .cipherTake s = .next s)

/-- CIPHER_RESULT (R16): the engine is free again; a block is held by the context that asked and still uses its
key, and discarded when that context has closed. Block 0 brings the tag keys r and s, and the four header groups are
taken (R9 to R11, R60, R91); an empty payload completes the tag, and a trailer that waits for it is compared. KEY_FETCH (R125, R128, R133): a LOADED slot of a LIVE store gives
a copy of its key to a request whose reference no erase has overtaken, and any other a key-gone answer, also when
the slot has been loaded again; it loses an outbound or an inbound frame with KEK_ABSENT and ends a renewal job with
it. A KEK kept from an erase that came after the transform was taken serves that transform. A fetch that the store
takes while PARKED is key-gone, after an erase too (R125; that an erase alone does not overtake it: log 51); after a park and an unpark between
two transforms the reference still serves (log 52).

The renewal job's transforms (R13, R14, R109): an unwrap result gives its half of the candidate, the wrapped half
exclusive-ored with the output; with both halves there the candidate stands and its check block is requested. -/
def Obligations.CipherResultsReturn : Prop :=
  (∀ (s : State) (q : CipherRequest) (out : List Byte) (l : LinkSlot) (i : Nat),
    s.cipher.engine = .busy q out → q.purpose = .block i →
    let keyed (header : List Byte) (len : Nat) : Tag :=
      let r := leNat (slice out 0 8) % 2 ^ 60
      let r := if r = 0 then 1 else r
      let accumulator := [0, 4, 8, 12].foldl (fun a k =>
        ((a + (leNat (slice header k 4) + 2 ^ 32)) * r) % (2 ^ 61 - 1)) 0
      { keys := some (r, leNat (slice out 8 8)), accumulator := accumulator, group := []
        value := if len = 0 then some ((accumulator + leNat (slice out 8 8)) % 2 ^ 64) else none }
    ((q.requester = .outbound l ∧ (s.link l).outContext = none) ∨
      (q.requester = .inbound l ∧ (s.link l).inContext = none) →
      exec .cipherResult s = .next (s.setEngine .free).resume) ∧
    (∀ c, q.requester = .outbound l → (s.link l).outContext = some c → c.ident = q.ident →
      c.lost = none → (∀ f, c.fill = some f → f.data = none) → i ≠ 0 →
      i ∈ windowBlocks c.keystream.start (lastBlock c.len) →
      ∃ u : State, exec .cipherResult s = .next u.resume ∧ u.cipher.engine = .free ∧
        u.still = s.still ∧ ∃ c', (u.link l).outContext = some c' ∧
          c'.keystream.held = c.keystream.held ++ [(i, out)]) ∧
    (∀ c header, q.requester = .outbound l → (s.link l).outContext = some c → c.ident = q.ident →
      c.lost = none → c.fill = none → i = 0 → c.header = some header → header.length = 16 →
      c.tag = ⟨none, 0, [], none⟩ →
      ∃ u : State, exec .cipherResult s = .next u.resume ∧ u.cipher.engine = .free ∧
        u.still = s.still ∧ ∃ c', (u.link l).outContext = some c' ∧ c'.lost = none ∧
          c'.tag = keyed header c.len ∧ c'.coverage = c.coverage ∧
          c'.keystream.held = c.keystream.held) ∧
    (∀ c h, q.requester = .inbound l → (s.link l).inContext = some c → c.ident = q.ident →
      c.header = some h → c.usable = true → i = 0 → c.headerBytes.length = 16 →
      c.tag = ⟨none, 0, [], none⟩ →
      ∃ u : State, exec .cipherResult s = .next u.resume ∧ u.cipher.engine = .free ∧
        u.still = s.still ∧ ∃ c', (u.link l).inContext = some c' ∧ c'.next = c.next ∧
          c'.tag = keyed c.headerBytes h.len ∧ c'.keystream.held = c.keystream.held ∧
          c'.verdict = if c.trailer.length = 8 ∧ c.verdict = none then
              (keyed c.headerBytes h.len).value.map (fun v => decide (c.trailer = leBytes 8 v))
            else c.verdict) ∧
    (∀ c h, q.requester = .inbound l → (s.link l).inContext = some c → c.ident = q.ident →
      c.header = some h → c.usable = true → i ≠ 0 →
      i ∈ windowBlocks c.keystream.start (lastBlock h.len) →
      ∃ u : State, exec .cipherResult s = .next u.resume ∧ u.cipher.engine = .free ∧
        u.still = s.still ∧ ∃ c', (u.link l).inContext = some c' ∧
          c'.keystream.held = c.keystream.held ++ [(i, out)])) ∧
  (∀ s : State, (∀ q out, s.cipher.engine ≠ .busy q out) → exec .cipherResult s = .next s) ∧
  (∀ (s : State) (q : CipherRequest) (out : List Byte) (j : Job) (jobs : List Job),
    s.cipher.engine = .busy q out → q.requester = .keyUnit → s.keys.jobs = j :: jobs →
    q.ident = j.ident → j.step = .unwrapping → (∀ i ∈ jobs, i.ident ≠ j.ident) →
    let job (i : Job) : State :=
      { s.setEngine .free with keys := { s.keys with jobs := i :: jobs } }
    let half (n : Nat) : List Byte := xorBytes (slice j.payload (16 * n) 16) out
    let block : CipherRequest := ⟨.keyUnit, j.ident, .check, List.replicate 16 0, .candidate⟩
    let check (i : Job) : State := { job i with cipher := (s.setEngine .free).cipher.put block }
    (q.purpose = .unwrap 1 →
      (j.half2 = none →
        exec .cipherResult s = .next (job { j with half1 := some (half 1) }).resume) ∧
      ∀ b, j.half2 = some b → exec .cipherResult s = .next (check { j with
        half1 := some (half 1), step := .checking, candidate := some (half 1 ++ b) }).resume) ∧
    (q.purpose = .unwrap 2 →
      (j.half1 = none →
        exec .cipherResult s = .next (job { j with half2 := some (half 2) }).resume) ∧
      ∀ a, j.half1 = some a → exec .cipherResult s = .next (check { j with
        half2 := some (half 2), step := .checking, candidate := some (a ++ half 2) }).resume)) ∧
  ∀ (s : State) (k : KekIndex) (n : Nat) (q : CipherRequest) (kept : Option (List Byte))
    (rest : List StoreRequest),
    s.store.requests = .keyFetch k :: rest → s.cipher.engine = .fetching q kept →
    q.key = .held (.kek k n) →
    let t : State := { s with store := s.store.tookHead (.keyFetch k) rest }
    let gone : Prop := s.store.marker = .parked ∨
      (kept = none ∧ ((s.kek k).state ≠ .loaded ∨ s.erasures k ≠ n))
    (∀ key, s.store.marker = .live → kept = some key → exec .keyFetch s =
      .next (t.setEngine (.busy q (blockTransform key q.input))).resume) ∧
    (kept = none → s.store.marker = .live → (s.kek k).state = .loaded → s.erasures k = n →
      exec .keyFetch s =
        .next (t.setEngine (.busy q (blockTransform (s.kek k).key q.input))).resume) ∧
    (gone →
      (∀ j, q.requester = .keyUnit → s.onlyJob j .unwrapping → q.ident = j.ident →
        ∃ u : State, exec .keyFetch s = .next u.resume ∧ s.jobEnded u j .kekAbsent ∧
          u.cipher.engine = .free ∧ u.keys.table = s.keys.table ∧ u.still = s.still) ∧
      (∀ m c, q.requester = .outbound m → (s.link m).outContext = some c →
        c.ident = q.ident → c.lost = none →
        ∃ u : State, exec .keyFetch s = .next u.resume ∧ u.cipher.engine = .free ∧
          u.still = s.still ∧ ∃ c', (u.link m).outContext = some c' ∧ c'.lost = some .kekAbsent) ∧
      ∀ m c, q.requester = .inbound m → (s.link m).inContext = some c →
        c.ident = q.ident → c.lost = none → c.early ≠ some .replay → c.phase = .receiving →
        ∃ u : State, exec .keyFetch s = .next u.resume ∧ u.cipher.engine = .free ∧
          u.still = s.still ∧ ∃ c', (u.link m).inContext = some c' ∧ c'.lost = some .kekAbsent)

/-! ### Binding, selection and confirmation -/

/-- SEQUENCE_REQUEST (R57, R58, R121): the key in force releases its next sequence and the waiting frame is
bound to key, epoch and number; the release of 2^48 − 1 retires the key and loses the frame; without a key in
force a software RENEWAL of a link with a KEK binding asks the store, and any other frame is lost. -/
def Obligations.SequenceRequestsBindTheFrame : Prop :=
  ∀ (s : State) (l : LinkSlot) (c : OutContext) (before rest : List KeyRequest),
    s.keys.requests = before ++ .sequence l c.ident :: rest →
    (∀ q ∈ before, q.isSequence l = false) → (s.link l).outContext = some c →
    c.binding = .sequenceAsked → c.lost = none →
    (∀ k, s.currentKey l = some k → (s.key k).nextSequence ≠ BitVec.allOnes 48 →
      ∃ u : State, exec (.sequenceRequest l) s = .next u.resume ∧
        (u.key k).nextSequence = (s.key k).nextSequence + 1 ∧
        (∀ j, j ≠ k → u.key j = s.key j) ∧ (∀ m, m ≠ l → u.link m = s.link m) ∧
        u.still = s.still ∧ u.keys.requests = before ++ rest ∧
        ∃ c', (u.link l).outContext = some c' ∧ c'.binding = .bound ∧ c'.lost = none ∧
          c'.keyRef = some (.session k l (s.key k).epoch (s.key k).installation) ∧
          c'.epoch = some (s.key k).epoch ∧ c'.sequence = some (s.key k).nextSequence ∧
          c'.header = some (headerBytes c.cls ((s.link l).wireId.getD 0) c.len (s.key k).epoch
            (s.key k).nextSequence)) ∧
    (∀ k, s.currentKey l = some k → (s.key k).nextSequence = BitVec.allOnes 48 →
      ∃ u : State, exec (.sequenceRequest l) s = .next u.resume ∧ u.key k = KeySlot.empty ∧
        u.still = s.still ∧
        (.keyUnit, ⟨.keyRetired (s.key k).epoch (s.key k).state .sequenceLimit, some l, 0⟩) ∈
          u.mail.reports ∧
        ∃ c', (u.link l).outContext = some c' ∧ c'.lost = some .keyLost ∧
          c'.sequence = some (BitVec.allOnes 48)) ∧
    (∀ kek, s.currentKey l = none → c.cls = .renewal → c.substituted = false →
      (s.link l).kek = some kek →
      ∃ u : State, exec (.sequenceRequest l) s = .next u.resume ∧
        u.store = s.store.ask (.transmitCommit l c.ident kek) ∧
        u.still = s.still ∧ (u.link l).outContext = some { c with binding := .commitAsked }) ∧
    (s.currentKey l = none →
      c.cls ≠ .renewal ∨ c.substituted = true ∨ (s.link l).kek = none →
      ∃ u : State, exec (.sequenceRequest l) s = .next u.resume ∧
        u.store = s.store ∧ u.still = s.still ∧
        ∃ c', (u.link l).outContext = some c' ∧ c'.lost = some .keyLost)

/-- KEY_SELECTION and KEK_SELECTION (R85 to R88): NO_KEY without a slot of the epoch; EARLY_EPOCH for a PENDING
key before its activation time less its early grace, when time is valid; KEK_ABSENT unless the store is LIVE
and the slot LOADED; REPLAY with the key recorded when the replay check fails; otherwise the key is recorded
(a KEK with the model's own count of erases, log 52),
with early status QUARANTINED for DATA and REPORT of a quarantined link. No key or KEK slot changes.

The bytes of an open inbound context up to its header (R83, R84, R86, R92): none is taken while the key answer is
awaited; a byte out of order, or beyond the extent, sets the stream fault, and from then on zeroes are stored;
header bytes are stored as written; the sixteenth parses the header and makes checks 1 to 5 in order, and with all
passed asks the key unit, or for epoch 0 of a RENEWAL or BEACON the store, or fails with NO_KEY or KEK_ABSENT.

PORT_L_WRITE into the buffer (R50, R83): a write that starts out of order is stored as zeroes, one of header bytes
in order as written; a write with no byte in the buffer of a context that still receives, or with no context at all,
is stored as zeroes with one RING_FAULT for the link and its first beat (R50, R94); each beat with an enabled byte one write at port M (the model's choice, log 17); the grant of
the last of them acknowledges the write. -/
def Obligations.SelectionsFollowTheHeader : Prop :=
  (∀ (s : State) (l : LinkSlot) (c : InContext) (h : Header) (epoch : Half) (q : Seq)
    (before rest : List KeyRequest),
    s.keys.requests = before ++ .selection l c.ident epoch q :: rest →
    (∀ q ∈ before, q.isSelection l = false) → (s.link l).inContext = some c →
    c.asking = true → c.header = some h → c.keyRef = none → c.early = none →
    ∃ (u : State) (c' : InContext), exec (.keySelection l) s = .next u.resume ∧
      (u.link l).inContext = some c' ∧ c'.asking = false ∧ u.still = s.still ∧
      u.keys.table = s.keys.table ∧ u.keys.requests = before ++ rest ∧
      ((∀ k, (s.key k).state = .empty ∨ (s.key k).link ≠ l ∨ (s.key k).epoch ≠ epoch) →
        c'.early = some .noKey ∧ c'.keyRef = none) ∧
      ∀ k, (s.key k).state ≠ .empty → (s.key k).link = l → (s.key k).epoch = epoch →
        (∀ j, j < k → (s.key j).state = .empty ∨ (s.key j).link ≠ l ∨ (s.key j).epoch ≠ epoch) →
        let early := (s.key k).state = .pending ∧ s.time.valid = true ∧
          ∃ a, (s.key k).activation = some a ∧
            s.time.seconds.toNat < a.toNat - (s.key k).earlyGrace
        (early → c'.early = some .earlyEpoch ∧ c'.keyRef = none) ∧
        (¬early → c'.keyRef = some (.session k l epoch (s.key k).installation) ∧
          c'.early = if (s.key k).window.passes q = false then some .replay
            else if (s.link l).state = .quarantined ∧ (h.cls = 0x00#8 ∨ h.cls = 0x04#8) then
              some .quarantined
            else none)) ∧
  (∀ (s : State) (l : LinkSlot) (c : InContext) (h : Header) (k : KekIndex) (q : Seq)
    (rest : List StoreRequest),
    s.store.requests = .selection l c.ident k q :: rest → (s.link l).inContext = some c →
    c.asking = true → c.header = some h → c.keyRef = none → c.early = none →
    h.cls = 0x02#8 ∨ h.cls = 0x03#8 →
    ∃ (u : State) (c' : InContext), exec .kekSelection s = .next u.resume ∧
      (u.link l).inContext = some c' ∧ c'.asking = false ∧ u.still = s.still ∧
      (s.store.marker = .parked ∨ (s.kek k).state ≠ .loaded →
        c'.early = some .kekAbsent ∧ c'.keyRef = none) ∧
      (s.store.marker = .live → (s.kek k).state = .loaded →
        c'.keyRef = some (.kek k (s.erasures k)) ∧
        c'.early = if (s.kek k).highWater.toNat < q.toNat then none else some .replay)) ∧
  (∀ (s : State) (l : LinkSlot) (c : InContext) (x : Nat) (b : Byte),
    (s.link l).inContext = some c → c.phase = .receiving →
    let taken := s.takeByte l c x b
    let faulted (t : State) : Prop :=
      (t.link l).inContext = some { c with
        streamFault := true, keystream := { c.keystream with held := [], wanted := [] } } ∧
      (∀ m, m ≠ l → t.link m = s.link m) ∧
      t.cipher.queue (.inbound l) =
        (s.cipher.queue (.inbound l)).filter (fun q => q.ident != c.ident) ∧
      t.still = s.still ∧ t.keys = s.keys ∧ t.mail = s.mail
    (c.asking = true → taken = none) ∧
    (c.holds = false →
      (c.streamFault = true → taken = some (s, 0)) ∧
      (c.streamFault = false →
        (x ≠ c.next → ∃ t, taken = some (t, 0) ∧ faulted t) ∧
        (∀ h, x = c.next → c.header = some h → 24 + h.len ≤ x →
          ∃ t, taken = some (t, 0) ∧ faulted t) ∧
        (x = c.next → c.header = none →
          let bytes := c.headerBytes ++ [b]
          let c' : InContext := { c with next := x + 1, headerBytes := bytes }
          (x ≠ 15 → taken = some (s.setIn l (some c'), b)) ∧
          (x = 15 →
            let h : Header :=
              { format := byteAt bytes 0, cls := byteAt bytes 1
                wireId := BitVec.ofNat 16 (leNat (slice bytes 2 2))
                len := leNat (slice bytes 4 2)
                epoch := BitVec.ofNat 16 (leNat (slice bytes 6 2))
                sequence := BitVec.ofNat 48 (leNat (slice bytes 8 6)) }
            let c' : InContext := { c' with header := some h }
            let failed : Option PartCode :=
              if h.format ≠ 0x01#8 then some .badClass
              else if (s.link l).wireId ≠ some h.wireId then some .misdirected
              else if 4 < h.cls.toNat then some .badClass
              else if (s.link l).maxPayload < h.len ∨ c.capacity < 24 + h.len then some .tooLong
              else if (h.cls = 0x01#8 ∨ h.cls = 0x03#8) ∧ h.len ≠ 8 then some .badClass
              else if h.cls = 0x02#8 ∧ h.len ≠ 56 then some .badRenewal
              else none
            let asks : InContext := { c' with
              asking := true
              renewal := if h.cls = 0x02#8 then some (zeroes 56) else c.renewal
              beacon := if h.cls = 0x03#8 then some (zeroes 8) else c.beacon
              keepalive := if h.cls = 0x01#8 then some (zeroes 8) else c.keepalive }
            let refused (code : PartCode) : State :=
              s.setIn l (some { asks with asking := c.asking, early := some code })
            (∀ code, failed = some code →
              taken = some (s.setIn l (some { c' with early := some code }), b)) ∧
            (failed = none →
              (h.epoch ≠ 0 → taken = some ((s.setIn l (some asks)).askKeyUnit
                (.selection l c.ident h.epoch h.sequence), b)) ∧
              (h.epoch = 0 → h.cls ≠ 0x02#8 → h.cls ≠ 0x03#8 → taken = some (refused .noKey, b)) ∧
              (h.epoch = 0 → h.cls = 0x02#8 ∨ h.cls = 0x03#8 →
                ((s.link l).kek = none → taken = some (refused .kekAbsent, b)) ∧
                ∀ k, (s.link l).kek = some k → taken = some ((s.setIn l (some asks)).askStore
                  (.selection l c.ident k h.sequence), b)))))))) ∧
  (∀ (s : State) (start : Long) (l : LinkSlot) (c : InContext) (bytes : List (Option Byte)),
    s.accepts = true → s.steering.l.quiet = true → bytes.length % 8 = 0 → bytes.length ≠ 0 →
    bytes.length ≤ 64 → start.toNat / 8 * 8 + bytes.length ≤ 2 ^ 32 →
    s.beatsIn start (bytes.length / 8) (.receiveGuard l) = true →
    (s.link l).inContext = some c → c.phase = .receiving → c.holds = false →
    c.streamFault = false →
    let a := start.toNat / 8 * 8
    let stores (stored : List (Option Byte)) (u : State) : Prop :=
      exec (.portLWrite start bytes) s = .next u.closeDrained ∧
        u.steering.l.accesses = ((List.range (bytes.length / 8)).map (fun i =>
            (⟨0, .store, a + 8 * i, 1, some ((stored.drop (8 * i)).take 8)⟩ : Access))).filter
          (fun w => w.write.any (fun beat => beat.any (·.isSome))) ∧
        u.steering.l.current.isSome = true ∧ u.steering.l.answered = s.steering.l.answered ∧
        u.still = s.still ∧ u.mail = s.mail
    (∀ values : List Byte, bytes = values.map some → c.pointer ≤ a →
      a + bytes.length ≤ c.pointer + c.capacity → a ≠ c.pointer + c.next →
      ∃ u : State, stores (values.map (fun _ => some 0)) u ∧
        ∃ c', (u.link l).inContext = some c' ∧ c'.streamFault = true ∧ c'.next = c.next) ∧
    (∀ (before after : Nat) (values : List Byte),
      bytes = List.replicate before none ++ values.map some ++ List.replicate after none →
      values ≠ [] → a + before = c.pointer + c.next → c.header = none →
      c.next + values.length ≤ 15 → c.next + values.length ≤ c.capacity →
      ∃ u : State, stores bytes u ∧ (u.link l).inContext = some { c with
        next := c.next + values.length, headerBytes := c.headerBytes ++ values })) ∧
  (∀ (s : State) (start : Long) (l : LinkSlot) (bytes : List (Option Byte)),
    s.accepts = true → s.steering.l.quiet = true → bytes.length % 8 = 0 → bytes.length ≤ 64 →
    start.toNat / 8 * 8 + bytes.length ≤ 2 ^ 32 → (∃ b, some b ∈ bytes) →
    s.beatsIn start (bytes.length / 8) (.receiveGuard l) = true →
    let a := start.toNat / 8 * 8
    (∀ c, (s.link l).inContext = some c → c.phase = .receiving →
      ∀ j b, bytes[j]? = some (some b) → a + j < c.pointer ∨ c.pointer + c.capacity ≤ a + j) →
    let stored : List (Option Byte) := bytes.map (Option.map (fun _ => 0))
    ∃ u : State, exec (.portLWrite start bytes) s = .next u.closeDrained ∧
      u.steering.l.accesses = ((List.range (bytes.length / 8)).map (fun i =>
          (⟨0, .store, a + 8 * i, 1, some ((stored.drop (8 * i)).take 8)⟩ : Access))).filter
        (fun w => w.write.any (fun beat => beat.any (·.isSome))) ∧
      u.steering.l.current.isSome = true ∧ u.steering.l.answered = s.steering.l.answered ∧
      u.still = s.still ∧ u.links = s.links ∧ u.keys = s.keys ∧
      u.mail = { s.mail with
        reports := s.mail.reports ++ [ringFaultPosting (some l) a] }) ∧
  ∀ (s : State) (l : LinkSlot) (x : Transaction) (p : Portion) (w : Access)
    (bytes : List (Option Byte)) (answered : Option BusAnswer),
    s.steering.l = ⟨some x, [], [w], answered⟩ → s.granted = some .l → w.portion = 0 →
    w.use = .store → w.write = some bytes → x.request.isRead = false → x.portions = [p] →
    p.place = .receiveGuard l → p.started = true → p.done = false → p.bytes.length = 8 * p.beats →
    p.stored.length = 8 * p.beats → p.beatsIssued = p.beats → p.beatsPerformed + 1 = p.beats →
    (∀ c, (s.link l).inContext = some c → c.holds = false) → memWf s.memory = true →
    ∃ u : State, exec .portMGrant s = .next u.closeDrained ∧
      u.steering.l = ⟨none, [], [], some .acknowledged⟩ ∧
      (∀ b, memRead u.memory b = (writtenByte w.address bytes b).getD (memRead s.memory b)) ∧
      u.links = s.links ∧ u.mail = s.mail ∧
      u.still = { s.still with arbiter := .l, memory := u.memory }

/-- SETTLE_REQUEST and RECEIVE_COMMIT (R95, R96, R98, R113, R133): a key that still holds the named installation
is activated when PENDING (KEY_ACTIVATED with cause receive, its predecessor draining or retired, a DRAINING key cut,
the link KEYED), marked, and the frame's arrival recorded; a key that is gone leaves KEY_LOST, but a frame refused as
QUARANTINED keeps that code (the model's reading, log 25). A LIVE store with the
slot LOADED, no erase since the selection (by the model's own count, log 52), and q above its high-water takes q as the new one, and the arrival is
recorded; else nothing is written and the frame's status is REPLAY or KEK_ABSENT.

A verified frame then ends by class (R97 to R99, R101, R103): DATA and REPORT with OK, QUARANTINED kept, a beacon
handed to the time base with ABSORBED_TIME, a keepalive by the filter, a renewal handed over as a job and its
context closed, or waiting while the link's job is there. A job that joins an empty queue starts at once (R107, R108):
STALE_EPOCH, KEK_ABSENT for a slot number above 3, else the question to the store.

A retirement notice (R93) makes an open inbound context under that key lost with KEY_LOST: its waiting cipher requests
go and its keystream is dropped; a REPLAY frame and a frame past receiving take none.

Payload and trailer (R89 to R91): without a usable key zero is stored; under QUARANTINED the ciphertext is
absorbed and zero stored; else a byte waits for tag keys and keystream, is absorbed, and its plaintext is stored,
of a RENEWAL in the holding buffer alone; the last payload byte finishes the tag. Trailer bytes are stored as
written, but zero under TOO_LONG past the capacity (log 24); with the eighth the tag is compared.

Settlement fixes the code in the order of R94; it confirms only a frame whose verdict is match. -/
def Obligations.ConfirmationsMarkTheFrame : Prop :=
  (∀ (s : State) (l : LinkSlot) (c : InContext) (h : Header) (k : KeyIndex) (epoch : Half)
    (n : BitVec 64) (q : Seq) (before rest : List KeyRequest),
    s.keys.requests = before ++ .settle l c.ident (.session k l epoch n) q :: rest →
    (∀ q ∈ before, q.isSettle l = false) → (s.link l).inContext = some c →
    c.phase = .confirming → c.header = some h →
    (s.holds k l epoch n = true →
      ∃ u : State, exec (.settleRequest l) s = .next u.resume ∧
        (u.key k).window = (s.key k).window.mark q ∧
        (u.key k).state =
          (if (s.key k).state = .pending then .active else (s.key k).state) ∧
        ((s.key k).state = .pending →
          let posted (d : ReportDetail) : Prop := (.keyUnit, ⟨d, some l, 0⟩) ∈ u.mail.reports
          (u.key k).age = some 0 ∧
          ((s.link l).state = .awaitKey ∨ (s.link l).state = .quarantined →
            (u.link l).state = .keyed) ∧
          (∀ p, s.currentKey l = some p →
            posted (.keyActivated epoch .receive (s.key p).epoch) ∧
            ((s.key k).overlap ≠ 0 →
              u.key p = { s.key p with state := .draining, drain := some (s.key k).overlap }) ∧
            ((s.key k).overlap = 0 → u.key p = KeySlot.empty ∧
              posted (.keyRetired (s.key p).epoch (s.key p).state .superseded))) ∧
          (s.currentKey l = none → posted (.keyActivated epoch .receive 0)) ∧
          ∀ d, s.drainingKey l = some d → u.key d = KeySlot.empty ∧
            posted (.drainCut (s.key d).epoch ((s.key d).drain.getD 0))) ∧
        (u.link l).lastArrival = some s.time.seconds ∧ l ∈ u.mail.arrivals ∧
        u.still = s.still) ∧
    (s.holds k l epoch n = false → c.outcome = none →
      ∃ u : State, exec (.settleRequest l) s = .next u.resume ∧
        u.keys.table = s.keys.table ∧ (u.link l).inContext = none ∧
        u.mail.statuses = s.mail.statuses ++ [⟨l, true, 0x45#8, false⟩] ∧
        u.mail.arrivals = s.mail.arrivals ∧ u.still = s.still) ∧
    (s.holds k l epoch n = false → c.outcome = some .quarantined →
      ∃ u : State, exec (.settleRequest l) s = .next u.resume ∧
        u.keys.table = s.keys.table ∧ (u.link l).inContext = none ∧
        u.mail.statuses = s.mail.statuses ++ [⟨l, true, 0x4A#8, false⟩] ∧
        u.mail.arrivals = s.mail.arrivals ∧ u.still = s.still)) ∧
  (∀ (s : State) (l : LinkSlot) (c : InContext) (h : Header) (k : KekIndex) (n : Nat) (q : Seq)
    (rest : List StoreRequest),
    s.store.requests = .receiveCommit l c.ident k n q :: rest → (s.link l).inContext = some c →
    c.phase = .confirming → c.header = some h → c.outcome = none →
    (s.store.marker = .live → (s.kek k).state = .loaded → s.erasures k = n →
      (s.kek k).highWater.toNat < q.toNat →
      ∃ u : State, exec .receiveCommit s = .next u.resume ∧
        u.still = { s.still with
          kekSlots := s.store.slots.set k { s.kek k with highWater := q } } ∧
        (u.link l).lastArrival = some s.time.seconds ∧ l ∈ u.mail.arrivals) ∧
    (s.store.marker = .live → (s.kek k).state = .loaded → s.erasures k = n →
      q.toNat ≤ (s.kek k).highWater.toNat →
      ∃ u : State, exec .receiveCommit s = .next u.resume ∧ u.still = s.still ∧
        (u.link l).inContext = none ∧
        u.mail.statuses = s.mail.statuses ++ [⟨l, true, 0x49#8, false⟩]) ∧
    (s.store.marker = .parked ∨ (s.kek k).state ≠ .loaded ∨ s.erasures k ≠ n →
      ∃ u : State, exec .receiveCommit s = .next u.resume ∧ u.still = s.still ∧
        (u.link l).inContext = none ∧
        u.mail.statuses = s.mail.statuses ++ [⟨l, true, 0x46#8, false⟩])) ∧
  (∀ (s : State) (l : LinkSlot) (c : InContext) (h : Header) (k : KeyIndex) (n : BitVec 64)
    (q : Seq) (before rest : List KeyRequest),
    s.keys.requests = before ++ .settle l c.ident (.session k l h.epoch n) q :: rest →
    (∀ q ∈ before, q.isSettle l = false) → (s.link l).inContext = some c →
    c.phase = .confirming → c.header = some h → s.holds k l h.epoch n = true →
    (s.key k).state ≠ .pending →
    let ends (u : State) (code : Byte) : Prop :=
      exec (.settleRequest l) s = .next u.resume ∧ (u.link l).inContext = none ∧
        u.mail.statuses = s.mail.statuses ++ [⟨l, true, code, false⟩] ∧
        (∀ r ring copy, (s.link l).inRing = some r → s.ring r = some ring →
          (ring.slot c.slot).copy = some copy →
          ∃ w ∈ u.internal.writes ++ u.internal.waitingWrites,
            w.use = .replacement r c.slot ∧ byteAt w.bytes 0 = code)
    (c.outcome = some .quarantined → ∃ u : State, ends u 0x4A ∧ (u.link l).filter = 0 ∧
      (u.link l).lastKeepalive = (s.link l).lastKeepalive ∧ u.mail.beacons = s.mail.beacons) ∧
    (c.outcome = none →
      (h.cls = 0x00#8 ∨ h.cls = 0x04#8 → ∃ u : State, ends u 0x00 ∧ (u.link l).filter = 0 ∧
        (u.link l).lastKeepalive = (s.link l).lastKeepalive ∧
        u.mail.beacons = s.mail.beacons) ∧
      (∀ payload, h.cls = 0x03#8 → c.beacon = some payload → ∃ u : State, ends u 0x4F ∧
        (u.link l).filter = 0 ∧ (u.link l).lastKeepalive = (s.link l).lastKeepalive ∧
        u.mail.beacons = s.mail.beacons ++ [(l, payload)]) ∧
      (∀ plain, h.cls = 0x01#8 → c.keepalive = some plain →
        let masked := List.zipWith (· &&& ·) plain (s.link l).mask
        let same := (s.link l).lastKeepalive = some masked
        ∃ u : State, ends u (if same ∧ (s.link l).filter = 2 then 0x4E else 0x00) ∧
          (u.link l).lastKeepalive = some masked ∧ u.mail.beacons = s.mail.beacons ∧
          (¬same → (u.link l).filter = 0) ∧
          (same → (u.link l).filter = if (s.link l).filter = 0 then 1 else 2)) ∧
      (∀ payload, h.cls = 0x02#8 → c.renewal = some payload → (∀ j ∈ s.keys.jobs, j.link ≠ l) →
        (∃ j jobs, s.keys.jobs = j :: jobs ∧ j.step ≠ .queued) →
        ∃ u : State, exec (.settleRequest l) s = .next u.resume ∧ (u.link l).inContext = none ∧
          (u.link l).filter = 0 ∧ u.mail.statuses = s.mail.statuses ∧
          u.internal = s.internal ∧
          u.keys.jobs = s.keys.jobs ++ [{
            ident := s.nextIdent, link := l, payload := payload, epoch := h.epoch,
            sequence := h.sequence, slot := c.slot, step := .queued, half1 := none, half2 := none,
            candidate := none }] ∧
          ∀ r ring, (s.link l).inRing = some r → s.ring r = some ring →
            c.slot < ring.slots.length →
            u.slot r c.slot = { s.slot r c.slot with
              job := some ⟨some h.cls, h.len, (match c.keyRef with
                | some (.session _ _ e _) => e | _ => 0), h.sequence.toNat % 2 ^ 32⟩ }) ∧
      (∀ payload, h.cls = 0x02#8 → c.renewal = some payload → s.keys.jobs = [] →
        let e := renewalEpoch payload
        let acceptable : Prop :=
          (∀ p, s.currentKey l = some p → (s.key p).epoch ≠ 0 ∧
            e = (if (s.key p).epoch = 0xFFFF#16 then 1#16 else (s.key p).epoch + 1)) ∧
          (s.currentKey l = none → e ≠ 0 ∧
            ∀ p, s.drainingKey l = some p → (s.key p).epoch ≠ e)
        let refused (code : PartCode) : Prop :=
          ∃ u : State, exec (.settleRequest l) s = .next u.resume ∧ (u.link l).inContext = none ∧
            u.keys.jobs = [] ∧
            (.keyUnit, ⟨.renewalRefused e code, some l, 0⟩) ∈ u.mail.reports ∧
            ∀ r ring copy, (s.link l).inRing = some r → s.ring r = some ring →
              c.slot < ring.slots.length → (ring.slot c.slot).copy = some copy →
              u.mail.statuses = s.mail.statuses ++ [⟨l, true, code.byte, false⟩] ∧
              ∃ w ∈ u.internal.writes ++ u.internal.waitingWrites,
                w.use = .replacement r c.slot ∧ byteAt w.bytes 0 = code.byte
        (¬acceptable → refused .staleEpoch) ∧
        (acceptable → 4 ≤ (renewalKek payload).toNat → refused .kekAbsent) ∧
        ∀ m : KekIndex, acceptable → (renewalKek payload).toNat = m.val →
          ∃ u : State, exec (.settleRequest l) s = .next u.resume ∧
            (u.link l).inContext = none ∧ u.mail.statuses = s.mail.statuses ∧
            u.internal = s.internal ∧
            u.keys.jobs = [{
              ident := s.nextIdent, link := l, payload := payload, epoch := h.epoch,
              sequence := h.sequence, slot := c.slot, step := .askedKek, half1 := none,
              half2 := none, candidate := none }] ∧
            .kekCheck s.nextIdent m ∈ u.store.requests ++ u.store.waiting) ∧
      (∀ payload j jobs, h.cls = 0x02#8 → c.renewal = some payload → s.keys.jobs = j :: jobs →
        j.step ≠ .queued → (∃ i ∈ s.keys.jobs, i.link = l) →
        ∃ u : State, exec (.settleRequest l) s = .next u.resume ∧
          (u.link l).inContext = some { c with phase := .awaitingHandoff } ∧
          u.keys.jobs = s.keys.jobs ∧ u.mail.statuses = s.mail.statuses ∧
          u.internal = s.internal))) ∧
  (∀ (s : State) (l : LinkSlot) (c : InContext) (h : Header) (x : Nat) (b : Byte),
    (s.link l).inContext = some c → c.phase = .receiving → c.holds = false →
    c.streamFault = false → c.header = some h → x = c.next →
    let taken := s.takeByte l c x b
    let usable : Prop := c.keyRef.isSome = true ∧ (c.early = none ∨ c.early = some .quarantined) ∧
      c.lost = none
    (16 ≤ x → x < 16 + h.len →
      let o := x - 16
      let tag := if o + 1 = h.len then (c.tag.absorb b).finish else c.tag.absorb b
      (¬usable → taken = some (s.setIn l (some { c with next := x + 1 }), 0)) ∧
      (usable →
        (c.tag.keys = none → taken = none) ∧
        (c.tag.keys.isSome = true →
          (c.early = some .quarantined →
            taken = some (s.setIn l (some { c with next := x + 1, tag := tag }), 0)) ∧
          (c.early = none →
            (c.keystream.held.lookup (1 + o / 16) = none → taken = none) ∧
            ∀ block, c.keystream.held.lookup (1 + o / 16) = some block →
              let plain := b ^^^ byteAt block (o % 16)
              ∃ (t : State) (k : Keystream),
                taken = some (t, if c.renewal.isSome then 0 else plain) ∧
                k.start = (if o + 1 < h.len then 1 + (o + 1) / 16 else c.keystream.start) ∧
                (t.link l).inContext = some { c with
                  next := x + 1, tag := tag, keystream := k
                  renewal := c.renewal.map (fun p => p.set o plain)
                  beacon := c.beacon.map (fun p => p.set o plain)
                  keepalive := c.keepalive.map (fun p => p.set o plain) } ∧
                (∀ m, m ≠ l → t.link m = s.link m) ∧ t.still = s.still ∧ t.mail = s.mail)))) ∧
    (16 + h.len ≤ x → x < 24 + h.len →
      let trailer := c.trailer ++ [b]
      (usable → c.early = some .quarantined → c.tag.keys = none → taken = none) ∧
      (¬(usable ∧ c.early = some .quarantined ∧ c.tag.keys = none) →
        taken = some (s.setIn l (some { c with
          next := x + 1, trailer := trailer
          verdict := if usable ∧ trailer.length = 8 ∧ c.verdict = none then
              c.tag.value.map (fun v => decide (trailer = leBytes 8 v))
            else c.verdict }),
          if c.early = some .tooLong ∧ c.capacity < 24 + h.len then 0 else b)))) ∧
  (∀ (s : State) (l : LinkSlot) (c : InContext) (k : KeyIndex), (s.link l).inContext = some c →
    let lost : InContext := { c with
      lost := some .keyLost, keystream := { c.keystream with held := [], wanted := [] } }
    let takes : Prop := c.lost = none ∧ c.early ≠ some .replay ∧ c.phase = .receiving
    (∀ ref, (c.keyRef ≠ some ref ∨ ¬takes → s.noticeIn l ref = s) ∧
      (c.keyRef = some ref → takes → ∃ u : State, s.noticeIn l ref = u ∧
        (u.link l).inContext = some lost ∧ (∀ m, m ≠ l → u.link m = s.link m) ∧
        u.cipher.queue (.inbound l) =
          (s.cipher.queue (.inbound l)).filter (fun q => q.ident != c.ident) ∧
        u.cipher.engine = s.cipher.engine ∧ u.still = s.still ∧ u.keys = s.keys ∧
        u.mail = s.mail)) ∧
    (s.drainingKey l = some k → (s.key k).drain = some 0 →
      c.keyRef = some (.session k l (s.key k).epoch (s.key k).installation) →
      ∃ u : State, exec (.drainEnd l) s = .next u.resume ∧ u.key k = KeySlot.empty ∧
        (takes → (u.link l).inContext = some lost) ∧
        (¬takes → (u.link l).inContext = some c))) ∧
  ∀ (c : InContext) (total : Nat),
    let len := match c.header with | some h => 24 + h.len | none => 0
    (∀ early, c.early = some early → early ≠ .quarantined ∨ c.verdict ≠ some true →
      c.code total = some early) ∧
    (c.early = some .quarantined → c.verdict = some true → c.code total = none) ∧
    (c.early = none →
      (∀ lost, c.lost = some lost → c.code total = some lost) ∧
      (c.lost = none →
        (c.streamFault = true → c.code total = some .streamFault) ∧
        (c.streamFault = false →
          (c.header = none ∨ c.next < len ∨ total < len → c.code total = some .tooShort) ∧
          (c.header.isSome = true → len ≤ c.next → len < total →
            c.code total = some .streamFault) ∧
          (c.header.isSome = true → len ≤ c.next → total = len →
            (c.verdict = some false → c.code total = some .tagMismatch) ∧
            (c.verdict = some true → c.code total = none)))))

/-- The replay window accepts no sequence twice (R87, R95): a marked sequence fails its check, what fails once
fails after every later mark, the number 0 never passes, and the highest accepted never falls. -/
def Obligations.ReplayWindowAcceptsNothingTwice : Prop :=
  ∀ (w : ReplayWindow) (q p : Seq),
    (w.passes q = true → (w.mark q).passes q = false) ∧
    (w.passes q = false → (w.mark p).passes q = false) ∧ w.passes 0 = false ∧
    (∀ h, w.highest = some h → ∃ h', (w.mark p).highest = some h' ∧ h.toNat ≤ h'.toNat) ∧
    (w.highest = none → (w.mark p).highest = some p) ∧
    (∀ h, w.highest = some h → h.toNat < q.toNat → w.passes q = true)

/-- TRANSMIT_COMMIT and STATE_SUMMARY_REQUEST (R59, R76, R125, R128, R129): in a LIVE store a LOADED slot's
counter below 2^48 − 1 rises by one and the waiting frame is bound to it under epoch 0, with the model's own count of
the slot's erases (log 52); in every other case
nothing is written and the frame is lost with KEK_ABSENT. The summary gives marker and slot state in both
marker states. A requester has at most one request in the queue: another waits until the store has taken the
first (R127; log 27).

KEK_CHECK (R108, R109, R112): with a usable slot and a lifetime of 60 to 31,536,000 seconds the running job
asks for its two unwrap blocks; with an unusable slot it ends with KEK_ABSENT, and outside the lifetimes with
BAD_RENEWAL. A job that ends leaves the queue, its slot is replaced with its status and RENEWAL_REFUSED reports a
refusal; the next job then starts: a bad epoch ends it with STALE_EPOCH, a slot number above 3 with KEK_ABSENT,
else the store is asked (R107, R108).

The check result (R109 to R111): another check value ends the job with CHECK_MISMATCH, an epoch no longer
acceptable with STALE_EPOCH; a PENDING key of the same epoch and check value with RENEWAL_REPEAT; otherwise the
PENDING key is replaced, or the lowest EMPTY slot filled, and with IMMEDIATE the key activates. -/
def Obligations.StoreAnswersItsRequests : Prop :=
  ((∀ (s : State) (l : LinkSlot) (c : OutContext) (k : KekIndex) (rest : List StoreRequest),
      s.store.requests = .transmitCommit l c.ident k :: rest → (s.link l).outContext = some c →
      c.binding = .commitAsked → c.lost = none →
      (s.store.marker = .live → (s.kek k).state = .loaded →
        (s.kek k).transmit ≠ BitVec.allOnes 48 →
        ∃ u : State, exec .transmitCommit s = .next u.resume ∧
          u.still = { s.still with
            kekSlots := s.store.slots.set k ({ s.kek k with transmit := (s.kek k).transmit + 1 }) } ∧
          u.keys = s.keys ∧ ∃ c', (u.link l).outContext = some c' ∧ c'.binding = .bound ∧
            c'.keyRef = some (.kek k (s.erasures k)) ∧ c'.epoch = some 0 ∧
            c'.sequence = some ((s.kek k).transmit + 1)) ∧
      (s.store.marker = .parked ∨ (s.kek k).state ≠ .loaded ∨
        (s.kek k).transmit = BitVec.allOnes 48 →
        ∃ u : State, exec .transmitCommit s = .next u.resume ∧ u.still = s.still ∧
          u.keys = s.keys ∧
          ∃ c', (u.link l).outContext = some c' ∧ c'.lost = some .kekAbsent)) ∧
    ∀ (s : State) (l : LinkSlot) (c : OutContext) (k : Option KekIndex)
      (rest : List StoreRequest),
      s.store.requests = .summary l c.ident k :: rest → (s.link l).outContext = some c →
      c.substituted = true →
      let marker : Byte := if s.store.marker = .parked then 0x80 else 0x00
      let state : Byte := match k with
        | none => 0x03
        | some k => if (s.kek k).state = .empty then 0x00
          else if (s.kek k).state = .loaded then 0x01 else 0x02
      exec .stateSummaryRequest s = .next ((({ s with
        store := s.store.tookHead (.summary l c.ident k) rest } : State).setOut l (some { c with
          contents := c.contents.set 7 (marker ||| state), contentsComplete := true })).resume)) ∧
  (∀ (s : State) (j : Job) (jobs : List Job) (k : KekIndex) (rest : List StoreRequest),
      s.store.requests = .kekCheck j.ident k :: rest → s.keys.jobs = j :: jobs →
      j.step = .askedKek → (∀ i ∈ jobs, i.ident ≠ j.ident) →
      (s.store.marker = .live → (s.kek k).state = .loaded →
        60 ≤ renewalLifetime j.payload → renewalLifetime j.payload ≤ 31536000 →
        ∃ u : State, exec .kekCheck s = .next u.resume ∧
          u.keys = { s.keys with jobs := { j with step := .unwrapping } :: jobs } ∧
          u.cipher.queues[(16 : Fin 17)] = s.cipher.queues[(16 : Fin 17)] ++
            [j.unwrapRequest k (s.erasures k) ((s.link j.link).wireId.getD 0) 1,
              j.unwrapRequest k (s.erasures k) ((s.link j.link).wireId.getD 0) 2] ∧
          u.still = s.still ∧ u.links = s.links) ∧
      (s.store.marker = .parked ∨ (s.kek k).state ≠ .loaded →
        ∃ u : State, exec .kekCheck s = .next u.resume ∧ u.still = s.still ∧
          u.keys.table = s.keys.table ∧
          (.keyUnit, ⟨.renewalRefused (renewalEpoch j.payload) .kekAbsent, some j.link, 0⟩) ∈
            u.mail.reports)) ∧
  (∀ (x : RetainedStore) (r : StoreRequest),
    ((∀ q ∈ x.requests ++ x.waiting, q.requester ≠ r.requester) →
      x.ask r = { x with requests := x.requests ++ [r] }) ∧
    ((∃ q ∈ x.requests ++ x.waiting, q.requester = r.requester) →
      x.ask r = { x with waiting := x.waiting ++ [r] }) ∧
    (x.requests.Pairwise (fun a b => a.requester ≠ b.requester) →
      (x.ask r).requests.Pairwise (fun a b => a.requester ≠ b.requester)) ∧
    ∀ rest, x.requests = r :: rest →
      ((∀ q ∈ x.waiting, q.requester ≠ r.requester) →
        x.tookHead r rest = { x with requests := rest }) ∧
      (∀ before w after, x.waiting = before ++ w :: after → w.requester = r.requester →
        (∀ q ∈ before, q.requester ≠ r.requester) →
        x.tookHead r rest = { x with requests := rest ++ [w], waiting := before ++ after }) ∧
      (x.requests.Pairwise (fun a b => a.requester ≠ b.requester) →
        (x.tookHead r rest).requests.Pairwise (fun a b => a.requester ≠ b.requester))) ∧
  let acceptable (s : State) (j : Job) : Prop :=
    let e := renewalEpoch j.payload
    (∀ k, s.currentKey j.link = some k → (s.key k).epoch ≠ 0 ∧
      e = (if (s.key k).epoch = 0xFFFF#16 then 1#16 else (s.key k).epoch + 1)) ∧
    (s.currentKey j.link = none → e ≠ 0 ∧
      ∀ k, s.drainingKey j.link = some k → (s.key k).epoch ≠ e)
  let asks (s : State) (j : Job) (more : List Job) (k : KekIndex) : State :=
    ({ s with keys := { s.keys with jobs := { j with step := .askedKek } :: more } } :
      State).askStore (.kekCheck j.ident k)
  (∀ (s : State) (j : Job) (k : KekIndex) (rest : List StoreRequest),
    s.store.requests = .kekCheck j.ident k :: rest → s.onlyJob j .askedKek →
    (s.store.marker = .parked ∨ (s.kek k).state ≠ .loaded →
      ∃ u : State, exec .kekCheck s = .next u.resume ∧ s.jobEnded u j .kekAbsent ∧
        u.keys.table = s.keys.table) ∧
    (s.store.marker = .live → (s.kek k).state = .loaded →
      renewalLifetime j.payload < 60 ∨ 31536000 < renewalLifetime j.payload →
      ∃ u : State, exec .kekCheck s = .next u.resume ∧ s.jobEnded u j .badRenewal ∧
        u.keys.table = s.keys.table)) ∧
  (∀ (s : State) (j i : Job) (more : List Job) (k n : KekIndex) (rest : List StoreRequest),
    s.store.requests = .kekCheck j.ident k :: rest → s.keys.jobs = j :: i :: more →
    j.step = .askedKek → i.ident ≠ j.ident →
    (∀ o ∈ more, o.ident ≠ j.ident ∧ o.ident ≠ i.ident) →
    (∀ c, (s.link j.link).inContext = some c → c.phase ≠ .awaitingHandoff) →
    s.store.marker = .parked ∨ (s.kek k).state ≠ .loaded → i.step = .queued → acceptable s i →
    (renewalKek i.payload).toNat = n.val →
    ∃ u : State, exec .kekCheck s = .next u.resume ∧
      u.keys = { s.keys with jobs := { i with step := .askedKek } :: more } ∧
      u.store = (s.store.tookHead (.kekCheck j.ident k) rest).ask (.kekCheck i.ident n)) ∧
  (∀ (s : State) (j : Job), s.onlyJob j .queued →
    (∀ k : KekIndex, acceptable s j → (renewalKek j.payload).toNat = k.val →
      State.startJobs jobStarts s = asks s j [] k) ∧
    (¬acceptable s j → s.jobEnded (State.startJobs jobStarts s) j .staleEpoch) ∧
    (acceptable s j → 4 ≤ (renewalKek j.payload).toNat →
      s.jobEnded (State.startJobs jobStarts s) j .kekAbsent)) ∧
  ∀ (s : State) (q : CipherRequest) (out : List Byte) (j : Job) (key : List Byte),
    s.cipher.engine = .busy q out → q.requester = .keyUnit → q.purpose = .check →
    s.onlyJob j .checking → q.ident = j.ident → j.candidate = some key →
    let ends (u : State) (status : PartCode) : Prop :=
      exec .cipherResult s = .next u.resume ∧ s.jobEnded u j status
    let p := j.payload
    let immediate := (byteAt p 3).getLsbD 0
    let filled : KeySlot := {
      state := .pending, link := j.link, epoch := BitVec.ofNat 16 (leNat (slice p 0 2))
      installation := s.keys.installations + 1, key := key, check := slice p 48 8
      activation := if immediate then none else some (BitVec.ofNat 32 (leNat (slice p 4 4)))
      lifetime := leNat (slice p 8 4), overlap := leNat (slice p 12 2)
      earlyGrace := leNat (slice p 14 2), age := none, drain := none, nextSequence := 1
      window := ⟨none, 0⟩, dueReported := false }
    let placed (u : State) (k : KeyIndex) (report : ReportDetail) : Prop :=
      ends u .absorbedRenewal ∧ u.keys.installations = s.keys.installations + 1 ∧
        (.keyUnit, ⟨report, some j.link, 0⟩) ∈ u.mail.reports ∧
        (immediate = false → u.key k = filled ∧ ∀ o, o ≠ k → u.key o = s.key o) ∧
        (immediate = true → u.key k = { filled with state := .active, age := some 0 } ∧
          ∃ superseded, (.keyUnit, ⟨.keyActivated filled.epoch .immediate superseded,
            some j.link, 0⟩) ∈ u.mail.reports)
    (out.take 8 ≠ slice p 48 8 →
      ∃ u : State, ends u .checkMismatch ∧ u.keys.table = s.keys.table) ∧
    (out.take 8 = slice p 48 8 →
      (¬acceptable s j → ∃ u : State, ends u .staleEpoch ∧ u.keys.table = s.keys.table) ∧
      (acceptable s j → s.keys.installations ≠ BitVec.allOnes 64 →
        (∀ k, s.pendingKey j.link = some k →
          ((s.key k).epoch = filled.epoch ∧ (s.key k).check = filled.check →
            ∃ u : State, ends u .renewalRepeat ∧ u.keys.table = s.keys.table) ∧
          ((s.key k).epoch ≠ filled.epoch ∨ (s.key k).check ≠ filled.check →
            ∃ u : State, placed u k (.keyReplaced filled.epoch filled.check))) ∧
        ∀ k, s.pendingKey j.link = none → (s.key k).state = .empty →
          (∀ o, o < k → (s.key o).state ≠ .empty) →
          ∃ u : State, placed u k
            (.keyInstalled filled.epoch filled.check filled.activation)))

/-- The tests of a boundary (R106, R118, R119): a DRAINING key at drain 0 retires with cause drain end; an ACTIVE
key at its lifetime becomes OVERDUE; an OVERDUE key at lifetime plus grace retires with cause expiry, and the
PENDING key then activates or the link awaits a key. Before their point the tests change nothing.

A QUARANTINED link that an activation makes KEYED has E and A cleared, its other health fields kept, and
LINK_RELEASED posted with cause activation and the E and A it had; one that a key loss sends to AWAIT_KEY keeps every
health field, and LINK_RELEASED carries cause key loss with E and A as they stand (R161).

The key unit's step for one link at a boundary (R114, R117, R119, R120): first the ages of the link's keys in
force rise by 1 and drains fall by 1, then drain end, timed activation, overdue and expiry, renewal due. A PENDING
key activates when time is valid and has reached its activation time: the key in force drains for the overlap, or
retires when that is 0, and a DRAINING key is cut (R113). RENEWAL_DUE is posted once per key, without a PENDING
successor, by age from 7/8 of the lifetime or by sequence from 2^47; with both causes the one it names is a free
value (log 15). -/
def Obligations.KeysDrainAgeAndExpire : Prop :=
  (∀ (s : State) (l : LinkSlot) (k : KeyIndex),
    (s.drainingKey l = some k →
      ((s.key k).drain = some 0 →
        ∃ u : State, exec (.drainEnd l) s = .next u.resume ∧ u.key k = KeySlot.empty ∧
          (∀ j, j ≠ k → u.key j = s.key j) ∧ u.still = s.still ∧
          (.keyUnit, ⟨.keyRetired (s.key k).epoch .draining .drainEnd, some l, 0⟩) ∈
            u.mail.reports) ∧
      (∀ d, (s.key k).drain = some (d + 1) → exec (.drainEnd l) s = .next s.resume)) ∧
    (s.currentKey l = some k → ∀ age, (s.key k).age = some age →
      ((s.key k).state = .active → (s.key k).lifetime ≤ age →
        exec (.keyOverdue l) s = .next { s.setKey k { s.key k with state := .overdue } with
          mail := { s.mail with reports := s.mail.reports ++
            [(.keyUnit, ⟨.keyOverdue (s.key k).epoch age, some l, 0⟩)] } }) ∧
      ((s.key k).state = .overdue ∨ age < (s.key k).lifetime →
        exec (.keyOverdue l) s = .next s) ∧
      ((s.key k).state = .active ∨ age < (s.key k).lifetime + (s.link l).grace →
        exec (.keyExpiry l) s = .next s.resume) ∧
      ((s.key k).state = .overdue → (s.key k).lifetime + (s.link l).grace ≤ age →
        ∃ u : State, exec (.keyExpiry l) s = .next u.resume ∧ u.key k = KeySlot.empty ∧
          u.still = s.still ∧ (∀ m, m ≠ l → u.link m = s.link m) ∧
          (.keyUnit, ⟨.keyRetired (s.key k).epoch .overdue .expiry, some l, 0⟩) ∈
            u.mail.reports ∧
          (∀ p, s.pendingKey l = some p → (u.key p).state = .active ∧ (u.key p).age = some 0 ∧
            ((s.link l).state = .keyed → (u.link l).state = .keyed)) ∧
          (s.pendingKey l = none → (s.link l).state = .keyed →
            (u.link l).state = .awaitKey) ∧
          ((s.link l).state = .quarantined →
            let h := (s.link l).health
            (s.pendingKey l = none → (u.link l).state = .awaitKey ∧ (u.link l).health = h ∧
              (.healthMonitor, ⟨.linkReleased .keyLoss h.e h.a, some l, 0⟩) ∈ u.mail.reports) ∧
            (s.pendingKey l ≠ none → (u.link l).state = .keyed ∧
              (u.link l).health = { h with e := 0, a := 0 } ∧
              (.healthMonitor, ⟨.linkReleased .activation h.e h.a, some l, 0⟩) ∈
                u.mail.reports))))) ∧
  ∀ (s : State) (l : LinkSlot),
    s.keyBoundary l = ((((((s.passBoundary l).drainEndTest l).timedActivationTest l).overdueTest
      l).expiryTest l).dueTest l) ∧
    exec (.drainEnd l) s = .next (s.drainEndTest l).resume ∧
    exec (.keyOverdue l) s = .next (s.overdueTest l) ∧
    exec (.keyExpiry l) s = .next (s.expiryTest l).resume ∧
    (∀ k, (s.passBoundary l).key k =
      if (s.key k).link ≠ l then s.key k
      else if (s.key k).state = .active ∨ (s.key k).state = .overdue then
        { s.key k with age := some ((s.key k).age.getD 0 + 1) }
      else if (s.key k).state = .draining then
        { s.key k with drain := some ((s.key k).drain.getD 0 - 1) }
      else s.key k) ∧
    (s.passBoundary l).links = s.links ∧ (s.passBoundary l).mail = s.mail ∧
    ((∀ k t, s.pendingKey l = some k → (s.key k).activation = some t →
        s.time.valid = false ∨ s.time.seconds.toNat < t.toNat) →
      s.timedActivationTest l = s) ∧
    (∀ k t, s.pendingKey l = some k → (s.key k).activation = some t → s.time.valid = true →
      t.toNat ≤ s.time.seconds.toNat →
      let u := s.timedActivationTest l
      let posted (d : ReportDetail) : Prop := (.keyUnit, ⟨d, some l, 0⟩) ∈ u.mail.reports
      u.key k = { s.key k with state := .active, age := some 0 } ∧ u.still = s.still ∧
      ((s.link l).state = .awaitKey ∨ (s.link l).state = .quarantined →
        (u.link l).state = .keyed) ∧
      ((s.link l).state = .quarantined →
        let h := (s.link l).health
        (u.link l).health = { h with e := 0, a := 0 } ∧
          (.healthMonitor, ⟨.linkReleased .activation h.e h.a, some l, 0⟩) ∈ u.mail.reports) ∧
      (∀ c, s.currentKey l = some c →
        posted (.keyActivated (s.key k).epoch .time (s.key c).epoch) ∧
        ((s.key k).overlap ≠ 0 →
          u.key c = { s.key c with state := .draining, drain := some (s.key k).overlap }) ∧
        ((s.key k).overlap = 0 → u.key c = KeySlot.empty ∧
          posted (.keyRetired (s.key c).epoch (s.key c).state .superseded))) ∧
      (s.currentKey l = none → posted (.keyActivated (s.key k).epoch .time 0)) ∧
      (∀ c, s.drainingKey l = some c → u.key c = KeySlot.empty ∧
        posted (.drainCut (s.key c).epoch ((s.key c).drain.getD 0))) ∧
      ∀ o, o ≠ k → s.currentKey l ≠ some o → s.drainingKey l ≠ some o → u.key o = s.key o) ∧
    (s.currentKey l = none → s.dueTest l = s) ∧
    ∀ k age, s.currentKey l = some k → (s.key k).age = some age →
      let due (bySequence : Bool) : State := { s.setKey k { s.key k with dueReported := true } with
        mail := { s.mail with reports := s.mail.reports ++
          [(.keyUnit, ⟨.renewalDue (s.key k).epoch bySequence age, some l, 0⟩)] } }
      let byAge : Prop := (s.key k).lifetime * 7 / 8 ≤ age
      let bySequence : Prop := 2 ^ 47 ≤ (s.key k).nextSequence.toNat
      ((s.pendingKey l).isSome = true ∨ (s.key k).dueReported = true ∨ (¬byAge ∧ ¬bySequence) →
        s.dueTest l = s) ∧
      (s.pendingKey l = none → (s.key k).dueReported = false →
        (byAge → ¬bySequence → s.dueTest l = due false) ∧
        (¬byAge → bySequence → s.dueTest l = due true) ∧
        (byAge → bySequence → s.dueTest l =
          { due (Config.dueNamesSequence s.freeCount) with freeCount := s.freeCount + 1 }))

/-! ### The time base -/

/-- R148: SET_DRIFT sets C to its value clamped to −4096..4095 and returns C before and C applied; nothing else
changes and nothing is posted, measuring or not. A valid measurement then sets C at its evaluation, another
leaves it. The new C first acts at the next boundary. -/
def Obligations.SetDriftClampsTheCorrection : Prop :=
  ∀ (s : State) (r : List Byte) (stamp : Seq) (value : Half),
    s.offered (.setDrift value) = some (r, stamp) →
    let applied : Int := max (-4096) (min 4095 value.toInt)
    let time : TimeBase := { s.time with c := applied }
    exec (.setDrift value) s = .next (({ s with time := time } : State).answer r .ok
      [(5, signedBytes 2 s.time.c ++ signedBytes 2 applied)]) ∧
    (∀ (t : State) (m : Measurement), t.time.measurement = some m → t.time.windowDue = true →
      ∃ u : State, exec .measurementWindowClose t = .next u ∧
        u.time.c = if m.valid then max (-4096) (min 4095 m.drift) else t.time.c) ∧
    time.length = s.time.length ∧ time.f = s.time.f ∧
    time.boundary.f = (s.time.f + applied) % 1024

/-- R139, R149: CONFIG_CLOCK is refused outside its ranges and else stores its three values with the auto count
at 0, the running measurement kept; MEASURE_CLOCK starts a measurement on copies of f_ref and k, or is BUSY
and disturbs nothing; the window opens at the next raw tick, which is not counted (R139; the model's reading,
log 29); an automatic start that falls in MEASURING is dropped and the auto count starts again from 0 (R143); a
period of 0 stops automatic measurement. -/
def Obligations.ClockCommandsConfigureAndMeasure : Prop :=
  (∀ (s : State) (r : List Byte) (stamp : Seq) (fRef : Long) (k period : Byte),
    let c := Instr.configClock fRef k period
    s.offered c = some (r, stamp) →
    (fRef.toNat < 8000 ∨ 25000000 < fRef.toNat ∨ k.toNat < 10 ∨ 15 < k.toNat →
      exec c s = .next (s.answer r .badArgument [])) ∧
    (8000 ≤ fRef.toNat → fRef.toNat ≤ 25000000 → 10 ≤ k.toNat → k.toNat ≤ 15 →
      exec c s = .next (({ s with time := { s.time with
        fRef := fRef.toNat, k := k.toNat, autoPeriod := period.toNat, autoCount := 0 } } :
          State).answer r .ok []))) ∧
  (∀ (s : State) (r : List Byte) (stamp : Seq), s.offered .measureClock = some (r, stamp) →
    (s.time.measurement = none → exec .measureClock s = .next (({ s with time := { s.time with
      measurement := some ⟨s.time.fRef, s.time.k, false, false, 0, 0⟩ } } : State).answer r .ok
        [])) ∧
    (s.time.measurement.isSome = true → exec .measureClock s = .next (s.answer r .busy []))) ∧
  (∀ m : Measurement, m.windowOpen = false → m.tick = { m with windowOpen := true }) ∧
  (∀ s : State, s.time.measurement.isSome = true → s.time.autoPeriod ≠ 0 →
    60 * s.time.autoPeriod ≤ s.time.autoCount →
    exec .autoMeasurementStart s = .next { s with time := { s.time with autoCount := 0 } }) ∧
  ∀ t : TimeBase, t.autoPeriod = 0 → t.countAuto.autoStart = t

/-- SET_TIME and the beacons (R144 to R147): SET_TIME steps whatever Δ is and returns the time before it; a
beacon steps when time is not valid, STEP is set or |Δ| exceeds 65,536, and otherwise sets S to Δ and changes
nothing else. A step sets seconds, ticks, S = 0 and time valid, and posts TIME_STEPPED. -/
def Obligations.TimeStepsAndSlews : Prop :=
  let delta (t : TimeBase) (seconds fraction : Nat) : Int :=
    ((seconds : Int) * 32768 + fraction / 2) - ((t.seconds.toNat : Int) * 32768 + t.ticks)
  let held (v : Int) : Int := max (-(2 ^ 31)) (min (2 ^ 31 - 1) v)
  let stepped (s : State) (seconds : Long) (fraction : Half) (byCommand : Bool) : State :=
    { s with
      time := { s.time with
        seconds := seconds, ticks := min (fraction.toNat / 2) (s.time.length - 1), s := 0,
        valid := true }
      mail := { s.mail with reports := s.mail.reports ++ [(.timeBase,
        ⟨.timeStepped (held (delta s.time seconds.toNat fraction.toNat)) seconds byCommand
          s.time.valid, none, 0⟩)] } }
  (∀ (s : State) (r : List Byte) (stamp : Seq) (seconds : Long) (fraction : Half),
    s.offered (.setTime seconds fraction) = some (r, stamp) →
    exec (.setTime seconds fraction) s = .next ((stepped s seconds fraction true).answer r .ok
      [(9, leBytes 4 s.time.seconds.toNat ++ leBytes 2 s.time.ticks ++
        signedBytes 4 (held (delta s.time seconds.toNat fraction.toNat)))])) ∧
  ∀ (s : State) (l : LinkSlot) (p : List Byte) (before rest : List (LinkSlot × List Byte)),
    s.mail.beacons = before ++ (l, p) :: rest → (∀ b ∈ before, b.1 ≠ l) →
    let t : State := { s with mail := { s.mail with beacons := before ++ rest } }
    let seconds : Long := BitVec.ofNat 32 (leNat (slice p 0 4))
    let fraction : Half := BitVec.ofNat 16 (leNat (slice p 4 2))
    let d := delta s.time seconds.toNat fraction.toNat
    (s.time.valid = true → (byteAt p 6).getLsbD 0 = false → d.natAbs ≤ 65536 →
      exec (.beaconAbsorb l) s = .next { t with time := { s.time with s := d } }) ∧
    (s.time.valid = false ∨ (byteAt p 6).getLsbD 0 = true ∨ 65536 < d.natAbs →
      exec (.beaconAbsorb l) s = .next (stepped t seconds fraction false))

/-- The corrected second boundary (R136, R74, R162): seconds rises, ticks restarts, the fraction is carried and
at most 32 ticks of S are taken, which sets the next second's length; every open link's idle and quiet counts
rise to at most 256 and 765, a closed link's stand. Before ticks reaches the second's length it does not take
place.

Its readers (R120, R137, R143, R162): the key unit takes its step for links 0 to 7 under the new seconds, the
open links whose quiet count has come to three keepalive periods enter silence with LINK_SILENT, and the auto
count rises, and at 60 × P starts a measurement or drops it. R137 orders neither readers nor links: that order is
the model's choice (log 50). -/
def Obligations.SecondBoundaryCarriesTheFraction : Prop :=
  ∀ s : State, (s.time.ticks < s.time.length → exec .correctedSecondBoundary s = .next s) ∧
    (s.time.ranged = true → s.time.length ≤ s.time.ticks →
      ∃ u : State, exec .correctedSecondBoundary s = .next u.resume ∧
        u.time.seconds = s.time.seconds + 1 ∧ u.time.ticks = 0 ∧
        u.time.f = (s.time.f + s.time.c) % 1024 ∧
        u.time.s = s.time.s - max (-32) (min 32 s.time.s) ∧
        (u.time.length : Int) =
          32768 + (s.time.f + s.time.c) / 1024 - max (-32) (min 32 s.time.s) ∧
        u.time.c = s.time.c ∧ u.time.rawTick = s.time.rawTick ∧ u.time.valid = s.time.valid ∧
        u.still = { s.still with time := u.time } ∧
        (let order : List LinkSlot := [0, 1, 2, 3, 4, 5, 6, 7]
          let keyed : State := order.foldl State.keyBoundary { s with time := s.time.boundary }
          u.keys = keyed.keys ∧ u.cipher = keyed.cipher ∧ u.rings = s.rings ∧
          u.mail = { keyed.mail with reports := keyed.mail.reports ++
            (order.filter (fun l => (keyed.link l).state ≠ .closed ∧ (s.link l).keepalive ≠ 0 ∧
              3 * (s.link l).keepalive ≤ min ((s.link l).health.quiet + 1) 765 ∧
              (s.link l).health.silent = false)).map (fun l => (.healthMonitor,
                ⟨.linkSilent .timeout (s.link l).lastArrival, some l, 0⟩)) } ∧
          ∀ l, (u.link l).state = (keyed.link l).state) ∧
        (s.time.autoPeriod = 0 →
          u.time.autoCount = s.time.autoCount ∧ u.time.measurement = s.time.measurement) ∧
        (s.time.autoPeriod ≠ 0 → s.time.autoCount + 1 < 60 * s.time.autoPeriod →
          u.time.autoCount = s.time.autoCount + 1 ∧ u.time.measurement = s.time.measurement) ∧
        (s.time.autoPeriod ≠ 0 → 60 * s.time.autoPeriod ≤ s.time.autoCount + 1 →
          u.time.autoCount = 0 ∧ u.time.measurement = (match s.time.measurement with
            | some m => some m
            | none => some ⟨s.time.fRef, s.time.k, true, false, 0, 0⟩)) ∧
        ∀ l, if (s.link l).state = .closed then (u.link l).state = .closed ∧
            (u.link l).idle = (s.link l).idle ∧ (u.link l).health = (s.link l).health
          else (u.link l).idle = min ((s.link l).idle + 1) 256 ∧
            (u.link l).health.quiet = min ((s.link l).health.quiet + 1) 765)

/-- RAW_TICK (R134, R136, R140, R155): the raw tick counter and ticks rise by 1, an open measurement window
counts and one not yet open opens, every open link's interval timer rises and ends its interval at I × 512;
closed links do not change. The tick after 2^48 − 1 leaves a free value (log 14). While the part does not run,
or an event of an earlier tick waits, there is no tick (logs 6, 35). REFCLK edges raise N in an open window
alone, from the tick that opens it, which is not counted itself (log 29), to the count of 2^k that closes it,
and up to 2^32 − 1. -/
def Obligations.RawTicksAndReferenceEdges : Prop :=
  (∀ s : State, s.running = true → s.tickWaits = false →
    ∃ t : State, exec .rawTick s = .next t ∧ t.time.ticks = s.time.ticks + 1 ∧
      (s.time.rawTick ≠ BitVec.allOnes 48 →
        t.time.rawTick = s.time.rawTick + 1 ∧ t.freeCount = s.freeCount) ∧
      (s.time.rawTick = BitVec.allOnes 48 →
        t.time.rawTick = Config.rawTickAfterWrap s.freeCount ∧
        t.freeCount = s.freeCount + 1) ∧
      (∀ m, s.time.measurement = some m → t.time.measurement = some
        (if m.windowOpen then { m with count := m.count + 1 }
          else { m with windowOpen := true })) ∧
      (s.time.measurement = none → t.time.measurement = none) ∧
      (∀ l, (s.link l).state ≠ .closed → t.link l = { s.link l with
        health := { (s.link l).health with
          timer := (s.link l).health.timer + 1
          due := (s.link l).health.due ||
            decide ((s.link l).health.i * 512 ≤ (s.link l).health.timer + 1) } }) ∧
      (∀ l, (s.link l).state = .closed → t.link l = s.link l) ∧
      t = { s with time := t.time, links := t.links, freeCount := t.freeCount } ∧
      t.time = { s.time with
        rawTick := t.time.rawTick, ticks := t.time.ticks, measurement := t.time.measurement }) ∧
  (∀ s : State, s.running = false ∨ s.tickWaits = true → exec .rawTick s = .next s) ∧
  (∀ (s : State) (m : Measurement), s.time.measurement = some m → m.windowOpen = true →
    m.count < 2 ^ m.k → exec .refclkRisingEdge s = .next { s with time := { s.time with
      measurement := some { m with edges := min (m.edges + 1) (2 ^ 32 - 1) } } }) ∧
  ∀ s : State,
    (∀ m, s.time.measurement = some m → m.windowOpen = false ∨ 2 ^ m.k ≤ m.count) →
    exec .refclkRisingEdge s = .next s

/-- R141, R142, R143: the window closes at a count of 2^k; a measurement within 500 ppm sets C to the nearest
whole C′, a half away from zero, clamped with OSC_TOLERANCE, and posts CLOCK_MEASURED; any other leaves C and
F and posts REF_OUT_OF_RANGE. The auto count starts a measurement at 60 × P, or drops it while one runs; with
P = 0 it does not move; a step leaves it. -/
def Obligations.MeasurementsRunToTheirEnd : Prop :=
  (∀ (s : State) (m : Measurement), s.time.measurement = some m →
    (m.windowOpen = false ∨ m.count < 2 ^ m.k → exec .measurementWindowClose s = .next s) ∧
    (m.windowOpen = true → 2 ^ m.k ≤ m.count →
      let x : Int := m.fRef * 2 ^ m.k
      let y : Int := m.edges * 32768
      let idle : TimeBase := { s.time with measurement := none }
      let good := m.edges ≠ 0 ∧ m.edges ≠ 2 ^ 32 - 1 ∧ ((x - y).natAbs : Int) * 2000 ≤ x
      (¬good → exec .measurementWindowClose s = .next { s with
        time := idle
        mail := { s.mail with reports := s.mail.reports ++
          [(.timeBase, ⟨.refOutOfRange m.edges m.fRef m.k, none, 0⟩)] } }) ∧
      (good → ∃ formed : Int, 2 * (formed * y - 2 ^ 25 * (x - y)).natAbs ≤ y.natAbs ∧
        (2 * (formed * y - 2 ^ 25 * (x - y)).natAbs = y.natAbs →
          (2 ^ 25 * (x - y)).natAbs < (formed * y).natAbs) ∧
        let applied := max (-4096) (min 4095 formed)
        exec .measurementWindowClose s = .next { s with
          time := { idle with c := applied }
          mail := { s.mail with reports := s.mail.reports ++
            (if applied = formed then []
              else [(.timeBase, ⟨.oscTolerance formed applied, none, 0⟩)]) ++
            [(.timeBase, ⟨.clockMeasured m.edges applied m.automatic, none, 0⟩)] } }))) ∧
  (∀ s : State, s.time.autoPeriod ≠ 0 → 60 * s.time.autoPeriod ≤ s.time.autoCount →
    exec .autoMeasurementStart s = .next { s with time := { s.time with
      autoCount := 0
      measurement := match s.time.measurement with
        | some m => some m
        | none => some ⟨s.time.fRef, s.time.k, true, false, 0, 0⟩ } }) ∧
  (∀ s : State, s.time.autoPeriod = 0 ∨ s.time.autoCount < 60 * s.time.autoPeriod →
    exec .autoMeasurementStart s = .next s) ∧
  (∀ t : TimeBase, (t.autoPeriod ≠ 0 → t.countAuto = { t with autoCount := t.autoCount + 1 }) ∧
    (t.autoPeriod = 0 → t.countAuto = t)) ∧
  ∀ (t : TimeBase) (seconds : Long) (fraction : Half),
    (t.stepTo seconds fraction).autoCount = t.autoCount

/-! ### The monitor -/

/-- CONFIG_MONITOR (R165) refuses T, I or R of 0 and else replaces the seven parameters and nothing else;
RELEASE_LINK (R160) moves a QUARANTINED link to KEYED, clears E and A and posts LINK_RELEASED. -/
def Obligations.MonitorCommands : Prop :=
  (∀ (s : State) (r : List Byte) (stamp : Seq) (link : Byte) (t d u : Half)
    (i m n options : Byte),
    let c := Instr.configMonitor link t d u i m n options
    s.offered c = some (r, stamp) →
    (8 ≤ link.toNat ∨ t = 0 ∨ i = 0 ∨ n = 0 → exec c s = .next (s.answer r .badArgument [])) ∧
    ∀ l : LinkSlot, link.toNat = l.val → t ≠ 0 → i ≠ 0 → n ≠ 0 →
      exec c s = .next ((s.setLink l { s.link l with health := { (s.link l).health with
        t := t.toNat, d := d.toNat, u := u.toNat, i := i.toNat, m := m.toNat, r := n.toNat,
        noBuffer := options.getLsbD 0 } }).answer r .ok [])) ∧
  ∀ (s : State) (r : List Byte) (stamp : Seq) (link : Byte),
    s.offered (.releaseLink link) = some (r, stamp) →
    (8 ≤ link.toNat → exec (.releaseLink link) s = .next (s.answer r .badArgument [])) ∧
    ∀ l : LinkSlot, link.toNat = l.val →
      ((s.link l).state ≠ .quarantined →
        exec (.releaseLink link) s = .next (s.answer r .wrongState [])) ∧
      ((s.link l).state = .quarantined →
        exec (.releaseLink link) s = .next (({ s.setLink l { s.link l with
          state := .keyed, health := { (s.link l).health with e := 0, a := 0 } } with
          mail := { s.mail with reports := s.mail.reports ++ [(.healthMonitor,
            ⟨.linkReleased .command (s.link l).health.e (s.link l).health.a, some l, 0⟩)] } } :
              State).answer r .ok []))

/-- FINAL_STATUS (R153, R163): the errored flag is set by LINE_ABORT in both directions, by the controller's
0x02 to 0x05 and by nine codes of the part inbound, and by nothing else; a LINE_ABORT on a link that is not
silent also enters silence and posts LINK_SILENT, and on a silent one posts nothing; a CLOSED link takes
nothing. A silent link has no timeout. -/
def Obligations.FinalStatusesScoreAndAbort : Prop :=
  ∀ (s : State) (l : LinkSlot) (n : StatusNotice) (before rest : List StatusNotice),
    s.mail.statuses = before ++ n :: rest → (∀ o ∈ before, o.link ≠ l) → n.link = l →
    let t : State := { s with mail := { s.mail with statuses := before ++ rest } }
    let h := (s.link l).health
    let scores : Prop := if n.byController then
        n.status = 0x01#8 ∨ (n.inbound = true ∧ 2 ≤ n.status.toNat ∧ n.status.toNat ≤ 5)
      else n.inbound = true ∧ n.status ∈ [0x41#8, 0x42#8, 0x44#8, 0x47#8, 0x49#8, 0x4B#8, 0x4C#8,
        0x4D#8, 0x53#8]
    ((s.link l).state = .closed → exec (.finalStatus l) s = .next t) ∧
    ((s.link l).state ≠ .closed → n.byController = false ∨ n.status ≠ 0x01#8 ∨ h.silent = true →
      (scores → exec (.finalStatus l) s =
        .next (t.setLink l { s.link l with health := { h with errored := true } })) ∧
      (¬scores → exec (.finalStatus l) s = .next t)) ∧
    ((s.link l).state ≠ .closed → n.byController = true → n.status = 0x01#8 → h.silent = false →
      exec (.finalStatus l) s = .next { t.setLink l { s.link l with
          health := { h with errored := true, silent := true } } with
        mail := { t.mail with reports := s.mail.reports ++ [(.healthMonitor,
          ⟨.linkSilent (if n.inbound then .inboundAbort else .outboundAbort)
            (s.link l).lastArrival, some l, 0⟩)] } }) ∧
    (h.silent = true → exec (.silenceTimeout l) s = .next s)

/-- Silence, arrivals, no-buffer events and quarantine (R154, R158, R162, R164): an open link enters silence
when its quiet count has reached three keepalive periods; a verified arrival clears quiet count and silence,
with LINK_HEARD; a no-buffer event sets the errored flag when the option is on; a quarantine request acts on a
KEYED link alone. -/
def Obligations.SilenceArrivalsAndQuarantine : Prop :=
  ∀ (s : State) (l : LinkSlot),
    let h := (s.link l).health
    let posted (t : State) (d : ReportDetail) : Mail :=
      { t.mail with reports := t.mail.reports ++ [(.healthMonitor, ⟨d, some l, 0⟩)] }
    ((s.link l).state ≠ .closed → (s.link l).keepalive ≠ 0 →
      3 * (s.link l).keepalive ≤ h.quiet → h.silent = false →
      exec (.silenceTimeout l) s = .next { s.setLink l { s.link l with
        health := { h with silent := true } } with
          mail := posted s (.linkSilent .timeout (s.link l).lastArrival) }) ∧
    ((s.link l).state = .closed ∨ (s.link l).keepalive = 0 ∨
      h.quiet < 3 * (s.link l).keepalive → exec (.silenceTimeout l) s = .next s) ∧
    (∀ before rest, s.mail.arrivals = before ++ l :: rest → l ∉ before →
      let t : State := { s with mail := { s.mail with arrivals := before ++ rest } }
      let heard : State := t.setLink l { s.link l with
        health := { h with quiet := 0, silent := false } }
      ((s.link l).state = .closed → exec (.verifiedArrival l) s = .next t) ∧
      ((s.link l).state ≠ .closed → h.silent = false →
        exec (.verifiedArrival l) s = .next heard) ∧
      ((s.link l).state ≠ .closed → h.silent = true →
        exec (.verifiedArrival l) s =
          .next { heard with mail := posted t (.linkHeard h.quiet) })) ∧
    (∀ before rest, s.mail.noBuffers = before ++ l :: rest → l ∉ before →
      let t : State := { s with mail := { s.mail with noBuffers := before ++ rest } }
      ((s.link l).state ≠ .closed → h.noBuffer = true → exec (.noBufferEvent l) s =
        .next (t.setLink l { s.link l with health := { h with errored := true } })) ∧
      ((s.link l).state = .closed ∨ h.noBuffer = false →
        exec (.noBufferEvent l) s = .next t)) ∧
    ∀ a before rest, s.mail.quarantines = before ++ (l, a) :: rest → (∀ q ∈ before, q.1 ≠ l) →
      let t : State := { s with mail := { s.mail with quarantines := before ++ rest } }
      ((s.link l).state = .keyed → exec (.quarantineRequest l) s =
        .next { t.setLink l { s.link l with
          state := .quarantined, health := { h with a := 0 } } with
            mail := posted t (.linkQuarantined a) }) ∧
      ((s.link l).state ≠ .keyed → exec (.quarantineRequest l) s = .next t)

/-- The end of an interval (R156, R157, R159): E moves by D or U, the clean run builds only while E is 0, an E
of at least T raises an alarm, which clears E, and with M reached asks for quarantine; a clean run of at least
R forgives A; the errored flag and the timer are cleared. With T and R not 0 an evaluation ends with E below T
and never both raises an alarm and forgives. Without a due end nothing happens. -/
def Obligations.IntervalsAreEvaluated : Prop :=
  ∀ (s : State) (l : LinkSlot),
    let h := (s.link l).health
    let bad := h.errored || h.silent
    let e := if bad then min (h.e + h.d) 65535 else h.e - h.u
    let clean := if bad then 0 else if e = 0 then min (h.cleanRun + 1) 255 else 0
    let a := if h.t ≤ e then min (h.a + 1) 255 else h.a
    let after : Health := { h with
      e := if h.t ≤ e then 0 else e
      a := if h.r ≤ clean then 0 else a
      cleanRun := if h.r ≤ clean then 0 else clean
      errored := false, timer := 0, due := false }
    (h.due = false → exec (.intervalEnd l) s = .next s) ∧
    (h.due = true → exec (.intervalEnd l) s = .next { s.setLink l { s.link l with
        health := after } with
      mail := { s.mail with
        reports := s.mail.reports ++
          (if h.t ≤ e then [(.healthMonitor, ⟨.healthAlarm e a, some l, 0⟩)] else [])
        quarantines := s.mail.quarantines ++
          (if h.t ≤ e ∧ h.m ≠ 0 ∧ h.m ≤ a then [(l, a)] else []) } }) ∧
    (1 ≤ h.t → after.e < h.t) ∧ (1 ≤ h.t → 1 ≤ h.r → ¬(h.t ≤ e ∧ h.r ≤ clean))

/-! ### The report unit -/

/-- REPORT_POSTING, REPORT_WRITER_TAKE and REPORT_CLEAR_OBSERVED (R168, R170, R172, R174): postings enter the
queue in the order in which they were made, those of one step in the order of the step (log 49); a coalescing posting merges
with the waiting report of its kind and link; another joins a queue of fewer than 8, or is dropped and
counted. The writer takes the head for a clear entry at the write index, with the lost count, which is then 0,
and queues its record; without a ring, with a record in flight, or while a dispatched SET_REPORT_RING has not
yet taken effect (log 53) it takes nothing. A clearing write of the present ring clears its entry's flag, and no other write
does. -/
def Obligations.ReportsAreQueuedWrittenAndCleared : Prop :=
  (∀ (s : State) (b : ReportSource) (p : Report) (rest : List (ReportSource × Report)),
    s.mail.reports = (b, p) :: rest →
    let t (unit : ReportUnit) : State :=
      { s with mail := { s.mail with reports := rest }, reports := unit }
    let same (w : Report) : Prop :=
      p.detail.coalesces = true ∧ w.detail.kind = p.detail.kind ∧ w.link = p.link
    (∀ front w back, s.reports.queue = front ++ w :: back → same w → (∀ v ∈ front, ¬same v) →
      exec (.reportPosting b) s = .next (t { s.reports with
        queue := front ++ ⟨p.detail, w.link, min (w.repeats + 1) 255⟩ :: back })) ∧
    ((∀ w ∈ s.reports.queue, ¬same w) → s.reports.queue.length < 8 →
      exec (.reportPosting b) s = .next (t { s.reports with
        queue := s.reports.queue ++ [⟨p.detail, p.link, 0⟩] })) ∧
    ((∀ w ∈ s.reports.queue, ¬same w) → 8 ≤ s.reports.queue.length →
      exec (.reportPosting b) s = .next (t { s.reports with
        lost := min (s.reports.lost + 1) 65535 })) ∧
    ∀ other, other ≠ b → exec (.reportPosting other) s = .next s) ∧
  (∀ (s : State) (b : ReportSource), s.mail.reports = [] → exec (.reportPosting b) s = .next s) ∧
  (∀ (s : State) (ring : ReportRing) (p : Report) (rest : List Report),
    s.reports.ring = some ring → s.reports.queue = p :: rest → s.reports.inFlight = none →
    (∀ entry record new, s.command.executing ≠ some ⟨entry, .replacingRing record new⟩) →
    (∀ entry record stamp, s.command.executing = some ⟨entry, .dispatched record stamp⟩ →
      byteAt record 1 ≠ 0x14#8) →
    (s.reports.flag s.reports.writeIndex = false → exec .reportWriterTake s =
      .next (({ s with reports := { s.reports with
        queue := rest, lost := 0, inFlight := some s.reports.writeIndex } } : State).queueWrite
          ⟨ring.base + 32 * s.reports.writeIndex,
            recordBytes p s.reports.lost s.time.valid s.time.seconds,
            .record s.reports.writeIndex, none⟩)) ∧
    (s.reports.flag s.reports.writeIndex = true → exec .reportWriterTake s = .next s)) ∧
  (∀ s : State, s.reports.ring = none ∨ s.reports.queue = [] ∨ s.reports.inFlight.isSome = true ∨
      (∃ entry record new, s.command.executing = some ⟨entry, .replacingRing record new⟩) ∨
      (∃ entry record stamp, s.command.executing = some ⟨entry, .dispatched record stamp⟩ ∧
        byteAt record 1 = 0x14#8) →
    exec .reportWriterTake s = .next s) ∧
  ∀ (s : State) (number entry : Nat) (v : Byte) (rest : List Completion),
    s.completions = .reportWrite number entry v :: rest →
    let t : State := { s with completions := rest }
    ((∃ ring, s.reports.ring = some ring ∧ ring.number = number) → v.getLsbD 0 = false →
      ∃ u : State, exec .reportClearObserved s = .next u ∧
        u = { t with reports := u.reports } ∧
        u.reports = { s.reports with valid := u.reports.valid } ∧
        ∀ e, u.reports.flag e = (s.reports.flag e && e != entry)) ∧
    ((∀ ring, s.reports.ring = some ring → ring.number ≠ number) ∨ v.getLsbD 0 = true →
      exec .reportClearObserved s = .next t)

/-- SET_REPORT_RING (R169): a count of 0 makes the ring absent; otherwise the checks in order; it takes effect
with every flag clear and the write index 0 when no record is in flight, and else waits for the landing of that one
record: from its dispatch to its effect the writer takes no other (log 53). A refusal is answered at once, a record in
flight or not (the model's choice, log 57). -/
def Obligations.SetReportRingReplacesTheRing : Prop :=
  ∀ (s : State) (r : List Byte) (stamp : Seq) (base : Long) (entries : Half),
    let c := Instr.setReportRing base entries
    s.offered c = some (r, stamp) →
    let legal := base.toNat % 32 = 0 ∧ 16 ≤ entries.toNat ∧ entries.toNat ≤ 1024 ∧
      base.toNat + 32 * entries.toNat ≤ 2 ^ 32
    let others := ({ s with reports := { s.reports with ring := none } } : State).ownMap
    let takesEffect (ring : Option (Nat × Nat)) : Prop :=
      (s.reports.inFlight = none → exec c s = .next (({ s with reports := { s.reports with
        ring := ring.map (fun n => ⟨n.1, n.2, s.reports.rings⟩)
        rings := s.reports.rings + 1, valid := 0, writeIndex := 0 } } : State).answer r .ok
          [])) ∧
      (∀ x, s.reports.inFlight.isSome = true → s.command.executing = some x →
        exec c s = .next { s with command := { s.command with
          executing := some { x with phase := .replacingRing r ring } } })
    (entries = 0 → takesEffect none) ∧
    (entries ≠ 0 → ¬legal → exec c s = .next (s.answer r .badArgument [])) ∧
    (entries ≠ 0 → legal → others.meets (base.toNat, 32 * entries.toNat) = true →
      exec c s = .next (s.answer r .overlap [])) ∧
    (entries ≠ 0 → legal → others.meets (base.toNat, 32 * entries.toNat) = false →
      takesEffect (some (base.toNat, entries.toNat)))

/-- INT (R173): high while some flag of the validity map is set. Only the landing of a record raises it; it
falls at the observation that clears the last flag, at a replacement of the ring, and at a reset; no other
step moves it. -/
def Obligations.InterruptFollowsTheFlags : Prop :=
  (∀ s : State, s.int = true ↔ ∃ e, e < 1024 ∧ s.reports.flag e = true) ∧
  (∀ (c : Instr) (s t : State), exec c s = .next t → s.int = false → t.int = true →
    c = .internalWriteLanded ∧ ∃ e rest, s.completions = .landed (.record e) :: rest) ∧
  (∀ (c : Instr) (s t : State), exec c s = .next t → s.int = true → t.int = false →
    c = .internalWriteLanded ∨ c = .reportClearObserved ∨
      (∃ base entries, c = .setReportRing base entries) ∨ (∃ straps, c = .powerOn straps) ∨
      (∃ straps, c = .warmReset straps) ∨ c = .mainPowerLoss) ∧
  ∀ (s : State) (e : Nat) (rest : List Completion), e < 1024 →
    s.completions = .landed (.record e) :: rest →
    (∀ entry record new, s.command.executing ≠ some ⟨entry, .replacingRing record new⟩) →
    ∃ t : State, exec .internalWriteLanded s = .next t ∧ t.int = true

/-! ### Frames and invariants -/

/-- The steps of the bus, of the engines, of the link unit, of the key unit and of the monitor, named in
`isEngineStep`, leave frame memory, what port M has done, the lines, the arbiter, the map, the phantom
window, the retained cells and the staging record, the time base, the report unit, the command queue and the
queue of commands alone. -/
def Obligations.EngineStepsLeaveTheRestAlone : Prop :=
  ∀ (c : Instr) (s t : State), isEngineStep c = true → exec c s = .next t → t.still = s.still

/-- The invariants below hold right after reset. -/
def Obligations.InvariantsHoldAtReset : Prop :=
  State.reset.safe = true ∧ State.reset.regionsDisjoint = true ∧
    State.reset.oneKeyPerStanding = true ∧ ∀ l, (State.reset.link l).health.legal = true

/-- Every step keeps frame memory canonical, the time base in its ranges (R136), the command queue free of
duplicates (R177), the record in flight on a clear entry (R171), and the phantom window aligned (R52). -/
def Obligations.EveryStepKeepsTheSafeState : Prop :=
  ∀ s t : State, step s = .next t → s.safe = true → t.safe = true

/-- Every step keeps the watched regions apart (R42): no two share a byte, in the map in force and in the
blocks' own records. -/
def Obligations.EveryStepKeepsTheRegionsApart : Prop :=
  ∀ s t : State, step s = .next t → s.regionsDisjoint = true → t.regionsDisjoint = true

/-- Every step keeps at most one key of a link in force, one PENDING and one DRAINING (R105). -/
def Obligations.EveryStepKeepsOneKeyPerStanding : Prop :=
  ∀ s t : State, step s = .next t → s.oneKeyPerStanding = true → t.oneKeyPerStanding = true

/-- The counters of a KEK slot that stays LOADED never fall (R96, R129), through every step, a loss of main
power with the store parked among them. -/
def Obligations.LoadedCountersNeverFall : Prop :=
  ∀ (c : Instr) (s t : State) (k : KekIndex), exec c s = .next t →
    (c = .mainPowerLoss → s.store.marker = .parked) →
    (s.kek k).state = .loaded → (t.kek k).state = .loaded →
    (s.kek k).transmit.toNat ≤ (t.kek k).transmit.toNat ∧
      (s.kek k).highWater.toNat ≤ (t.kek k).highWater.toNat ∧ (t.kek k).key = (s.kek k).key

/-- Every step keeps T, I and R of every health record from 0 (R165), which the evaluation of an interval
rests on (R159). -/
def Obligations.EveryStepKeepsTheMonitorLegal : Prop :=
  ∀ s t : State, step s = .next t → (∀ l, (s.link l).health.legal = true) →
    ∀ l, (t.link l).health.legal = true

end
end

