-- ==== Sys2Proof/Laws/Bytes.lean ====
section
/-! SUPPORT. Byte strings: lengths and little-endian readings. -/

namespace Sys2Proof.Machine

@[simp] theorem leBytes_length (n v : Nat) : (leBytes n v).length = n := by
  induction n generalizing v with
  | zero => rfl
  | succ n ih => simp [leBytes, ih]

@[simp] theorem beBytes_length (n v : Nat) : (beBytes n v).length = n := by simp [beBytes]

@[simp] theorem signedBytes_length (n : Nat) (v : Int) : (signedBytes n v).length = n := by
  simp [signedBytes]

@[simp] theorem zeroes_length (n : Nat) : (zeroes n).length = n := by simp [zeroes]

/-- The little-endian bytes of a value read back as the value, modulo what they hold. -/
theorem leNat_leBytes (n v : Nat) : leNat (leBytes n v) = v % 256 ^ n := by
  induction n generalizing v with
  | zero => simp [leBytes, leNat, Nat.mod_one]
  | succ n ih =>
    have e : (256 : Nat) ^ (n + 1) = 256 * 256 ^ n := by rw [Nat.pow_succ, Nat.mul_comm]
    simp only [leBytes, leNat, ih, BitVec.toNat_ofNat, e, Nat.mod_mul]

@[simp] theorem memReadBytes_length (m : List Host.Cell) (a n : Nat) :
    (memReadBytes m a n).length = n := by
  induction n generalizing a with
  | zero => rfl
  | succ n ih => simp [memReadBytes, ih]

end Sys2Proof.Machine
end

