-- ==== Sys2Proof/Laws/State.lean ====
section
/-! SUPPORT. One lemma per field per update of State: what an update leaves alone, and what it writes. -/

namespace Sys2Proof.Machine

/-! ### Fields that an update leaves alone -/

@[simp] theorem State.setLink_lines (s : State) (l : LinkSlot) (x : Link) : (s.setLink l x).lines = s.lines := rfl
@[simp] theorem State.setLink_steering (s : State) (l : LinkSlot) (x : Link) : (s.setLink l x).steering = s.steering := rfl
@[simp] theorem State.setLink_arbiter (s : State) (l : LinkSlot) (x : Link) : (s.setLink l x).arbiter = s.arbiter := rfl
@[simp] theorem State.setLink_internal (s : State) (l : LinkSlot) (x : Link) : (s.setLink l x).internal = s.internal := rfl
@[simp] theorem State.setLink_completions (s : State) (l : LinkSlot) (x : Link) : (s.setLink l x).completions = s.completions := rfl
@[simp] theorem State.setLink_memory (s : State) (l : LinkSlot) (x : Link) : (s.setLink l x).memory = s.memory := rfl
@[simp] theorem State.setLink_rings (s : State) (l : LinkSlot) (x : Link) : (s.setLink l x).rings = s.rings := rfl
@[simp] theorem State.setLink_phantom (s : State) (l : LinkSlot) (x : Link) : (s.setLink l x).phantom = s.phantom := rfl
@[simp] theorem State.setLink_cipher (s : State) (l : LinkSlot) (x : Link) : (s.setLink l x).cipher = s.cipher := rfl
@[simp] theorem State.setLink_keys (s : State) (l : LinkSlot) (x : Link) : (s.setLink l x).keys = s.keys := rfl
@[simp] theorem State.setLink_store (s : State) (l : LinkSlot) (x : Link) : (s.setLink l x).store = s.store := rfl
@[simp] theorem State.setLink_time (s : State) (l : LinkSlot) (x : Link) : (s.setLink l x).time = s.time := rfl
@[simp] theorem State.setLink_reports (s : State) (l : LinkSlot) (x : Link) : (s.setLink l x).reports = s.reports := rfl
@[simp] theorem State.setLink_command (s : State) (l : LinkSlot) (x : Link) : (s.setLink l x).command = s.command := rfl
@[simp] theorem State.setLink_mail (s : State) (l : LinkSlot) (x : Link) : (s.setLink l x).mail = s.mail := rfl
@[simp] theorem State.setLink_nextIdent (s : State) (l : LinkSlot) (x : Link) : (s.setLink l x).nextIdent = s.nextIdent := rfl
@[simp] theorem State.setLink_freeCount (s : State) (l : LinkSlot) (x : Link) : (s.setLink l x).freeCount = s.freeCount := rfl
@[simp] theorem State.setLink_pending (s : State) (l : LinkSlot) (x : Link) : (s.setLink l x).pending = s.pending := rfl

@[simp] theorem State.setOut_lines (s : State) (l : LinkSlot) (x : Option OutContext) : (s.setOut l x).lines = s.lines := rfl
@[simp] theorem State.setOut_steering (s : State) (l : LinkSlot) (x : Option OutContext) : (s.setOut l x).steering = s.steering := rfl
@[simp] theorem State.setOut_arbiter (s : State) (l : LinkSlot) (x : Option OutContext) : (s.setOut l x).arbiter = s.arbiter := rfl
@[simp] theorem State.setOut_internal (s : State) (l : LinkSlot) (x : Option OutContext) : (s.setOut l x).internal = s.internal := rfl
@[simp] theorem State.setOut_completions (s : State) (l : LinkSlot) (x : Option OutContext) : (s.setOut l x).completions = s.completions := rfl
@[simp] theorem State.setOut_memory (s : State) (l : LinkSlot) (x : Option OutContext) : (s.setOut l x).memory = s.memory := rfl
@[simp] theorem State.setOut_rings (s : State) (l : LinkSlot) (x : Option OutContext) : (s.setOut l x).rings = s.rings := rfl
@[simp] theorem State.setOut_phantom (s : State) (l : LinkSlot) (x : Option OutContext) : (s.setOut l x).phantom = s.phantom := rfl
@[simp] theorem State.setOut_cipher (s : State) (l : LinkSlot) (x : Option OutContext) : (s.setOut l x).cipher = s.cipher := rfl
@[simp] theorem State.setOut_keys (s : State) (l : LinkSlot) (x : Option OutContext) : (s.setOut l x).keys = s.keys := rfl
@[simp] theorem State.setOut_store (s : State) (l : LinkSlot) (x : Option OutContext) : (s.setOut l x).store = s.store := rfl
@[simp] theorem State.setOut_time (s : State) (l : LinkSlot) (x : Option OutContext) : (s.setOut l x).time = s.time := rfl
@[simp] theorem State.setOut_reports (s : State) (l : LinkSlot) (x : Option OutContext) : (s.setOut l x).reports = s.reports := rfl
@[simp] theorem State.setOut_command (s : State) (l : LinkSlot) (x : Option OutContext) : (s.setOut l x).command = s.command := rfl
@[simp] theorem State.setOut_mail (s : State) (l : LinkSlot) (x : Option OutContext) : (s.setOut l x).mail = s.mail := rfl
@[simp] theorem State.setOut_nextIdent (s : State) (l : LinkSlot) (x : Option OutContext) : (s.setOut l x).nextIdent = s.nextIdent := rfl
@[simp] theorem State.setOut_freeCount (s : State) (l : LinkSlot) (x : Option OutContext) : (s.setOut l x).freeCount = s.freeCount := rfl
@[simp] theorem State.setOut_pending (s : State) (l : LinkSlot) (x : Option OutContext) : (s.setOut l x).pending = s.pending := rfl

@[simp] theorem State.setIn_lines (s : State) (l : LinkSlot) (x : Option InContext) : (s.setIn l x).lines = s.lines := rfl
@[simp] theorem State.setIn_steering (s : State) (l : LinkSlot) (x : Option InContext) : (s.setIn l x).steering = s.steering := rfl
@[simp] theorem State.setIn_arbiter (s : State) (l : LinkSlot) (x : Option InContext) : (s.setIn l x).arbiter = s.arbiter := rfl
@[simp] theorem State.setIn_internal (s : State) (l : LinkSlot) (x : Option InContext) : (s.setIn l x).internal = s.internal := rfl
@[simp] theorem State.setIn_completions (s : State) (l : LinkSlot) (x : Option InContext) : (s.setIn l x).completions = s.completions := rfl
@[simp] theorem State.setIn_memory (s : State) (l : LinkSlot) (x : Option InContext) : (s.setIn l x).memory = s.memory := rfl
@[simp] theorem State.setIn_rings (s : State) (l : LinkSlot) (x : Option InContext) : (s.setIn l x).rings = s.rings := rfl
@[simp] theorem State.setIn_phantom (s : State) (l : LinkSlot) (x : Option InContext) : (s.setIn l x).phantom = s.phantom := rfl
@[simp] theorem State.setIn_cipher (s : State) (l : LinkSlot) (x : Option InContext) : (s.setIn l x).cipher = s.cipher := rfl
@[simp] theorem State.setIn_keys (s : State) (l : LinkSlot) (x : Option InContext) : (s.setIn l x).keys = s.keys := rfl
@[simp] theorem State.setIn_store (s : State) (l : LinkSlot) (x : Option InContext) : (s.setIn l x).store = s.store := rfl
@[simp] theorem State.setIn_time (s : State) (l : LinkSlot) (x : Option InContext) : (s.setIn l x).time = s.time := rfl
@[simp] theorem State.setIn_reports (s : State) (l : LinkSlot) (x : Option InContext) : (s.setIn l x).reports = s.reports := rfl
@[simp] theorem State.setIn_command (s : State) (l : LinkSlot) (x : Option InContext) : (s.setIn l x).command = s.command := rfl
@[simp] theorem State.setIn_mail (s : State) (l : LinkSlot) (x : Option InContext) : (s.setIn l x).mail = s.mail := rfl
@[simp] theorem State.setIn_nextIdent (s : State) (l : LinkSlot) (x : Option InContext) : (s.setIn l x).nextIdent = s.nextIdent := rfl
@[simp] theorem State.setIn_freeCount (s : State) (l : LinkSlot) (x : Option InContext) : (s.setIn l x).freeCount = s.freeCount := rfl
@[simp] theorem State.setIn_pending (s : State) (l : LinkSlot) (x : Option InContext) : (s.setIn l x).pending = s.pending := rfl

@[simp] theorem State.setHealth_lines (s : State) (l : LinkSlot) (x : Health) : (s.setHealth l x).lines = s.lines := rfl
@[simp] theorem State.setHealth_steering (s : State) (l : LinkSlot) (x : Health) : (s.setHealth l x).steering = s.steering := rfl
@[simp] theorem State.setHealth_arbiter (s : State) (l : LinkSlot) (x : Health) : (s.setHealth l x).arbiter = s.arbiter := rfl
@[simp] theorem State.setHealth_internal (s : State) (l : LinkSlot) (x : Health) : (s.setHealth l x).internal = s.internal := rfl
@[simp] theorem State.setHealth_completions (s : State) (l : LinkSlot) (x : Health) : (s.setHealth l x).completions = s.completions := rfl
@[simp] theorem State.setHealth_memory (s : State) (l : LinkSlot) (x : Health) : (s.setHealth l x).memory = s.memory := rfl
@[simp] theorem State.setHealth_rings (s : State) (l : LinkSlot) (x : Health) : (s.setHealth l x).rings = s.rings := rfl
@[simp] theorem State.setHealth_phantom (s : State) (l : LinkSlot) (x : Health) : (s.setHealth l x).phantom = s.phantom := rfl
@[simp] theorem State.setHealth_cipher (s : State) (l : LinkSlot) (x : Health) : (s.setHealth l x).cipher = s.cipher := rfl
@[simp] theorem State.setHealth_keys (s : State) (l : LinkSlot) (x : Health) : (s.setHealth l x).keys = s.keys := rfl
@[simp] theorem State.setHealth_store (s : State) (l : LinkSlot) (x : Health) : (s.setHealth l x).store = s.store := rfl
@[simp] theorem State.setHealth_time (s : State) (l : LinkSlot) (x : Health) : (s.setHealth l x).time = s.time := rfl
@[simp] theorem State.setHealth_reports (s : State) (l : LinkSlot) (x : Health) : (s.setHealth l x).reports = s.reports := rfl
@[simp] theorem State.setHealth_command (s : State) (l : LinkSlot) (x : Health) : (s.setHealth l x).command = s.command := rfl
@[simp] theorem State.setHealth_mail (s : State) (l : LinkSlot) (x : Health) : (s.setHealth l x).mail = s.mail := rfl
@[simp] theorem State.setHealth_nextIdent (s : State) (l : LinkSlot) (x : Health) : (s.setHealth l x).nextIdent = s.nextIdent := rfl
@[simp] theorem State.setHealth_freeCount (s : State) (l : LinkSlot) (x : Health) : (s.setHealth l x).freeCount = s.freeCount := rfl
@[simp] theorem State.setHealth_pending (s : State) (l : LinkSlot) (x : Health) : (s.setHealth l x).pending = s.pending := rfl

@[simp] theorem State.setRing_lines (s : State) (r : RingIndex) (x : Option Ring) : (s.setRing r x).lines = s.lines := rfl
@[simp] theorem State.setRing_steering (s : State) (r : RingIndex) (x : Option Ring) : (s.setRing r x).steering = s.steering := rfl
@[simp] theorem State.setRing_arbiter (s : State) (r : RingIndex) (x : Option Ring) : (s.setRing r x).arbiter = s.arbiter := rfl
@[simp] theorem State.setRing_internal (s : State) (r : RingIndex) (x : Option Ring) : (s.setRing r x).internal = s.internal := rfl
@[simp] theorem State.setRing_completions (s : State) (r : RingIndex) (x : Option Ring) : (s.setRing r x).completions = s.completions := rfl
@[simp] theorem State.setRing_memory (s : State) (r : RingIndex) (x : Option Ring) : (s.setRing r x).memory = s.memory := rfl
@[simp] theorem State.setRing_links (s : State) (r : RingIndex) (x : Option Ring) : (s.setRing r x).links = s.links := rfl
@[simp] theorem State.setRing_phantom (s : State) (r : RingIndex) (x : Option Ring) : (s.setRing r x).phantom = s.phantom := rfl
@[simp] theorem State.setRing_cipher (s : State) (r : RingIndex) (x : Option Ring) : (s.setRing r x).cipher = s.cipher := rfl
@[simp] theorem State.setRing_keys (s : State) (r : RingIndex) (x : Option Ring) : (s.setRing r x).keys = s.keys := rfl
@[simp] theorem State.setRing_store (s : State) (r : RingIndex) (x : Option Ring) : (s.setRing r x).store = s.store := rfl
@[simp] theorem State.setRing_time (s : State) (r : RingIndex) (x : Option Ring) : (s.setRing r x).time = s.time := rfl
@[simp] theorem State.setRing_reports (s : State) (r : RingIndex) (x : Option Ring) : (s.setRing r x).reports = s.reports := rfl
@[simp] theorem State.setRing_command (s : State) (r : RingIndex) (x : Option Ring) : (s.setRing r x).command = s.command := rfl
@[simp] theorem State.setRing_mail (s : State) (r : RingIndex) (x : Option Ring) : (s.setRing r x).mail = s.mail := rfl
@[simp] theorem State.setRing_nextIdent (s : State) (r : RingIndex) (x : Option Ring) : (s.setRing r x).nextIdent = s.nextIdent := rfl
@[simp] theorem State.setRing_freeCount (s : State) (r : RingIndex) (x : Option Ring) : (s.setRing r x).freeCount = s.freeCount := rfl
@[simp] theorem State.setRing_pending (s : State) (r : RingIndex) (x : Option Ring) : (s.setRing r x).pending = s.pending := rfl

@[simp] theorem State.setKey_lines (s : State) (k : KeyIndex) (x : KeySlot) : (s.setKey k x).lines = s.lines := rfl
@[simp] theorem State.setKey_steering (s : State) (k : KeyIndex) (x : KeySlot) : (s.setKey k x).steering = s.steering := rfl
@[simp] theorem State.setKey_arbiter (s : State) (k : KeyIndex) (x : KeySlot) : (s.setKey k x).arbiter = s.arbiter := rfl
@[simp] theorem State.setKey_internal (s : State) (k : KeyIndex) (x : KeySlot) : (s.setKey k x).internal = s.internal := rfl
@[simp] theorem State.setKey_completions (s : State) (k : KeyIndex) (x : KeySlot) : (s.setKey k x).completions = s.completions := rfl
@[simp] theorem State.setKey_memory (s : State) (k : KeyIndex) (x : KeySlot) : (s.setKey k x).memory = s.memory := rfl
@[simp] theorem State.setKey_links (s : State) (k : KeyIndex) (x : KeySlot) : (s.setKey k x).links = s.links := rfl
@[simp] theorem State.setKey_rings (s : State) (k : KeyIndex) (x : KeySlot) : (s.setKey k x).rings = s.rings := rfl
@[simp] theorem State.setKey_phantom (s : State) (k : KeyIndex) (x : KeySlot) : (s.setKey k x).phantom = s.phantom := rfl
@[simp] theorem State.setKey_cipher (s : State) (k : KeyIndex) (x : KeySlot) : (s.setKey k x).cipher = s.cipher := rfl
@[simp] theorem State.setKey_store (s : State) (k : KeyIndex) (x : KeySlot) : (s.setKey k x).store = s.store := rfl
@[simp] theorem State.setKey_time (s : State) (k : KeyIndex) (x : KeySlot) : (s.setKey k x).time = s.time := rfl
@[simp] theorem State.setKey_reports (s : State) (k : KeyIndex) (x : KeySlot) : (s.setKey k x).reports = s.reports := rfl
@[simp] theorem State.setKey_command (s : State) (k : KeyIndex) (x : KeySlot) : (s.setKey k x).command = s.command := rfl
@[simp] theorem State.setKey_mail (s : State) (k : KeyIndex) (x : KeySlot) : (s.setKey k x).mail = s.mail := rfl
@[simp] theorem State.setKey_nextIdent (s : State) (k : KeyIndex) (x : KeySlot) : (s.setKey k x).nextIdent = s.nextIdent := rfl
@[simp] theorem State.setKey_freeCount (s : State) (k : KeyIndex) (x : KeySlot) : (s.setKey k x).freeCount = s.freeCount := rfl
@[simp] theorem State.setKey_pending (s : State) (k : KeyIndex) (x : KeySlot) : (s.setKey k x).pending = s.pending := rfl

@[simp] theorem State.mapKeys_lines (s : State) (f : KeySlot → KeySlot) : (s.mapKeys f).lines = s.lines := rfl
@[simp] theorem State.mapKeys_steering (s : State) (f : KeySlot → KeySlot) : (s.mapKeys f).steering = s.steering := rfl
@[simp] theorem State.mapKeys_arbiter (s : State) (f : KeySlot → KeySlot) : (s.mapKeys f).arbiter = s.arbiter := rfl
@[simp] theorem State.mapKeys_internal (s : State) (f : KeySlot → KeySlot) : (s.mapKeys f).internal = s.internal := rfl
@[simp] theorem State.mapKeys_completions (s : State) (f : KeySlot → KeySlot) : (s.mapKeys f).completions = s.completions := rfl
@[simp] theorem State.mapKeys_memory (s : State) (f : KeySlot → KeySlot) : (s.mapKeys f).memory = s.memory := rfl
@[simp] theorem State.mapKeys_links (s : State) (f : KeySlot → KeySlot) : (s.mapKeys f).links = s.links := rfl
@[simp] theorem State.mapKeys_rings (s : State) (f : KeySlot → KeySlot) : (s.mapKeys f).rings = s.rings := rfl
@[simp] theorem State.mapKeys_phantom (s : State) (f : KeySlot → KeySlot) : (s.mapKeys f).phantom = s.phantom := rfl
@[simp] theorem State.mapKeys_cipher (s : State) (f : KeySlot → KeySlot) : (s.mapKeys f).cipher = s.cipher := rfl
@[simp] theorem State.mapKeys_store (s : State) (f : KeySlot → KeySlot) : (s.mapKeys f).store = s.store := rfl
@[simp] theorem State.mapKeys_time (s : State) (f : KeySlot → KeySlot) : (s.mapKeys f).time = s.time := rfl
@[simp] theorem State.mapKeys_reports (s : State) (f : KeySlot → KeySlot) : (s.mapKeys f).reports = s.reports := rfl
@[simp] theorem State.mapKeys_command (s : State) (f : KeySlot → KeySlot) : (s.mapKeys f).command = s.command := rfl
@[simp] theorem State.mapKeys_mail (s : State) (f : KeySlot → KeySlot) : (s.mapKeys f).mail = s.mail := rfl
@[simp] theorem State.mapKeys_nextIdent (s : State) (f : KeySlot → KeySlot) : (s.mapKeys f).nextIdent = s.nextIdent := rfl
@[simp] theorem State.mapKeys_freeCount (s : State) (f : KeySlot → KeySlot) : (s.mapKeys f).freeCount = s.freeCount := rfl
@[simp] theorem State.mapKeys_pending (s : State) (f : KeySlot → KeySlot) : (s.mapKeys f).pending = s.pending := rfl

@[simp] theorem State.setKek_lines (s : State) (k : KekIndex) (x : KekSlot) : (s.setKek k x).lines = s.lines := rfl
@[simp] theorem State.setKek_steering (s : State) (k : KekIndex) (x : KekSlot) : (s.setKek k x).steering = s.steering := rfl
@[simp] theorem State.setKek_arbiter (s : State) (k : KekIndex) (x : KekSlot) : (s.setKek k x).arbiter = s.arbiter := rfl
@[simp] theorem State.setKek_internal (s : State) (k : KekIndex) (x : KekSlot) : (s.setKek k x).internal = s.internal := rfl
@[simp] theorem State.setKek_completions (s : State) (k : KekIndex) (x : KekSlot) : (s.setKek k x).completions = s.completions := rfl
@[simp] theorem State.setKek_memory (s : State) (k : KekIndex) (x : KekSlot) : (s.setKek k x).memory = s.memory := rfl
@[simp] theorem State.setKek_links (s : State) (k : KekIndex) (x : KekSlot) : (s.setKek k x).links = s.links := rfl
@[simp] theorem State.setKek_rings (s : State) (k : KekIndex) (x : KekSlot) : (s.setKek k x).rings = s.rings := rfl
@[simp] theorem State.setKek_phantom (s : State) (k : KekIndex) (x : KekSlot) : (s.setKek k x).phantom = s.phantom := rfl
@[simp] theorem State.setKek_cipher (s : State) (k : KekIndex) (x : KekSlot) : (s.setKek k x).cipher = s.cipher := rfl
@[simp] theorem State.setKek_keys (s : State) (k : KekIndex) (x : KekSlot) : (s.setKek k x).keys = s.keys := rfl
@[simp] theorem State.setKek_time (s : State) (k : KekIndex) (x : KekSlot) : (s.setKek k x).time = s.time := rfl
@[simp] theorem State.setKek_reports (s : State) (k : KekIndex) (x : KekSlot) : (s.setKek k x).reports = s.reports := rfl
@[simp] theorem State.setKek_command (s : State) (k : KekIndex) (x : KekSlot) : (s.setKek k x).command = s.command := rfl
@[simp] theorem State.setKek_mail (s : State) (k : KekIndex) (x : KekSlot) : (s.setKek k x).mail = s.mail := rfl
@[simp] theorem State.setKek_nextIdent (s : State) (k : KekIndex) (x : KekSlot) : (s.setKek k x).nextIdent = s.nextIdent := rfl
@[simp] theorem State.setKek_freeCount (s : State) (k : KekIndex) (x : KekSlot) : (s.setKek k x).freeCount = s.freeCount := rfl
@[simp] theorem State.setKek_pending (s : State) (k : KekIndex) (x : KekSlot) : (s.setKek k x).pending = s.pending := rfl

@[simp] theorem State.post_lines (s : State) (b : ReportSource) (l : Option LinkSlot) (d : ReportDetail) : (s.post b l d).lines = s.lines := rfl
@[simp] theorem State.post_steering (s : State) (b : ReportSource) (l : Option LinkSlot) (d : ReportDetail) : (s.post b l d).steering = s.steering := rfl
@[simp] theorem State.post_arbiter (s : State) (b : ReportSource) (l : Option LinkSlot) (d : ReportDetail) : (s.post b l d).arbiter = s.arbiter := rfl
@[simp] theorem State.post_internal (s : State) (b : ReportSource) (l : Option LinkSlot) (d : ReportDetail) : (s.post b l d).internal = s.internal := rfl
@[simp] theorem State.post_completions (s : State) (b : ReportSource) (l : Option LinkSlot) (d : ReportDetail) : (s.post b l d).completions = s.completions := rfl
@[simp] theorem State.post_memory (s : State) (b : ReportSource) (l : Option LinkSlot) (d : ReportDetail) : (s.post b l d).memory = s.memory := rfl
@[simp] theorem State.post_links (s : State) (b : ReportSource) (l : Option LinkSlot) (d : ReportDetail) : (s.post b l d).links = s.links := rfl
@[simp] theorem State.post_rings (s : State) (b : ReportSource) (l : Option LinkSlot) (d : ReportDetail) : (s.post b l d).rings = s.rings := rfl
@[simp] theorem State.post_phantom (s : State) (b : ReportSource) (l : Option LinkSlot) (d : ReportDetail) : (s.post b l d).phantom = s.phantom := rfl
@[simp] theorem State.post_cipher (s : State) (b : ReportSource) (l : Option LinkSlot) (d : ReportDetail) : (s.post b l d).cipher = s.cipher := rfl
@[simp] theorem State.post_keys (s : State) (b : ReportSource) (l : Option LinkSlot) (d : ReportDetail) : (s.post b l d).keys = s.keys := rfl
@[simp] theorem State.post_store (s : State) (b : ReportSource) (l : Option LinkSlot) (d : ReportDetail) : (s.post b l d).store = s.store := rfl
@[simp] theorem State.post_time (s : State) (b : ReportSource) (l : Option LinkSlot) (d : ReportDetail) : (s.post b l d).time = s.time := rfl
@[simp] theorem State.post_reports (s : State) (b : ReportSource) (l : Option LinkSlot) (d : ReportDetail) : (s.post b l d).reports = s.reports := rfl
@[simp] theorem State.post_command (s : State) (b : ReportSource) (l : Option LinkSlot) (d : ReportDetail) : (s.post b l d).command = s.command := rfl
@[simp] theorem State.post_nextIdent (s : State) (b : ReportSource) (l : Option LinkSlot) (d : ReportDetail) : (s.post b l d).nextIdent = s.nextIdent := rfl
@[simp] theorem State.post_freeCount (s : State) (b : ReportSource) (l : Option LinkSlot) (d : ReportDetail) : (s.post b l d).freeCount = s.freeCount := rfl
@[simp] theorem State.post_pending (s : State) (b : ReportSource) (l : Option LinkSlot) (d : ReportDetail) : (s.post b l d).pending = s.pending := rfl

@[simp] theorem State.notifyStatus_lines (s : State) (n : StatusNotice) : (s.notifyStatus n).lines = s.lines := rfl
@[simp] theorem State.notifyStatus_steering (s : State) (n : StatusNotice) : (s.notifyStatus n).steering = s.steering := rfl
@[simp] theorem State.notifyStatus_arbiter (s : State) (n : StatusNotice) : (s.notifyStatus n).arbiter = s.arbiter := rfl
@[simp] theorem State.notifyStatus_internal (s : State) (n : StatusNotice) : (s.notifyStatus n).internal = s.internal := rfl
@[simp] theorem State.notifyStatus_completions (s : State) (n : StatusNotice) : (s.notifyStatus n).completions = s.completions := rfl
@[simp] theorem State.notifyStatus_memory (s : State) (n : StatusNotice) : (s.notifyStatus n).memory = s.memory := rfl
@[simp] theorem State.notifyStatus_links (s : State) (n : StatusNotice) : (s.notifyStatus n).links = s.links := rfl
@[simp] theorem State.notifyStatus_rings (s : State) (n : StatusNotice) : (s.notifyStatus n).rings = s.rings := rfl
@[simp] theorem State.notifyStatus_phantom (s : State) (n : StatusNotice) : (s.notifyStatus n).phantom = s.phantom := rfl
@[simp] theorem State.notifyStatus_cipher (s : State) (n : StatusNotice) : (s.notifyStatus n).cipher = s.cipher := rfl
@[simp] theorem State.notifyStatus_keys (s : State) (n : StatusNotice) : (s.notifyStatus n).keys = s.keys := rfl
@[simp] theorem State.notifyStatus_store (s : State) (n : StatusNotice) : (s.notifyStatus n).store = s.store := rfl
@[simp] theorem State.notifyStatus_time (s : State) (n : StatusNotice) : (s.notifyStatus n).time = s.time := rfl
@[simp] theorem State.notifyStatus_reports (s : State) (n : StatusNotice) : (s.notifyStatus n).reports = s.reports := rfl
@[simp] theorem State.notifyStatus_command (s : State) (n : StatusNotice) : (s.notifyStatus n).command = s.command := rfl
@[simp] theorem State.notifyStatus_nextIdent (s : State) (n : StatusNotice) : (s.notifyStatus n).nextIdent = s.nextIdent := rfl
@[simp] theorem State.notifyStatus_freeCount (s : State) (n : StatusNotice) : (s.notifyStatus n).freeCount = s.freeCount := rfl
@[simp] theorem State.notifyStatus_pending (s : State) (n : StatusNotice) : (s.notifyStatus n).pending = s.pending := rfl

@[simp] theorem State.notifyNoBuffer_lines (s : State) (l : LinkSlot) : (s.notifyNoBuffer l).lines = s.lines := rfl
@[simp] theorem State.notifyNoBuffer_steering (s : State) (l : LinkSlot) : (s.notifyNoBuffer l).steering = s.steering := rfl
@[simp] theorem State.notifyNoBuffer_arbiter (s : State) (l : LinkSlot) : (s.notifyNoBuffer l).arbiter = s.arbiter := rfl
@[simp] theorem State.notifyNoBuffer_internal (s : State) (l : LinkSlot) : (s.notifyNoBuffer l).internal = s.internal := rfl
@[simp] theorem State.notifyNoBuffer_completions (s : State) (l : LinkSlot) : (s.notifyNoBuffer l).completions = s.completions := rfl
@[simp] theorem State.notifyNoBuffer_memory (s : State) (l : LinkSlot) : (s.notifyNoBuffer l).memory = s.memory := rfl
@[simp] theorem State.notifyNoBuffer_links (s : State) (l : LinkSlot) : (s.notifyNoBuffer l).links = s.links := rfl
@[simp] theorem State.notifyNoBuffer_rings (s : State) (l : LinkSlot) : (s.notifyNoBuffer l).rings = s.rings := rfl
@[simp] theorem State.notifyNoBuffer_phantom (s : State) (l : LinkSlot) : (s.notifyNoBuffer l).phantom = s.phantom := rfl
@[simp] theorem State.notifyNoBuffer_cipher (s : State) (l : LinkSlot) : (s.notifyNoBuffer l).cipher = s.cipher := rfl
@[simp] theorem State.notifyNoBuffer_keys (s : State) (l : LinkSlot) : (s.notifyNoBuffer l).keys = s.keys := rfl
@[simp] theorem State.notifyNoBuffer_store (s : State) (l : LinkSlot) : (s.notifyNoBuffer l).store = s.store := rfl
@[simp] theorem State.notifyNoBuffer_time (s : State) (l : LinkSlot) : (s.notifyNoBuffer l).time = s.time := rfl
@[simp] theorem State.notifyNoBuffer_reports (s : State) (l : LinkSlot) : (s.notifyNoBuffer l).reports = s.reports := rfl
@[simp] theorem State.notifyNoBuffer_command (s : State) (l : LinkSlot) : (s.notifyNoBuffer l).command = s.command := rfl
@[simp] theorem State.notifyNoBuffer_nextIdent (s : State) (l : LinkSlot) : (s.notifyNoBuffer l).nextIdent = s.nextIdent := rfl
@[simp] theorem State.notifyNoBuffer_freeCount (s : State) (l : LinkSlot) : (s.notifyNoBuffer l).freeCount = s.freeCount := rfl
@[simp] theorem State.notifyNoBuffer_pending (s : State) (l : LinkSlot) : (s.notifyNoBuffer l).pending = s.pending := rfl

@[simp] theorem State.notifyArrival_lines (s : State) (l : LinkSlot) : (s.notifyArrival l).lines = s.lines := rfl
@[simp] theorem State.notifyArrival_steering (s : State) (l : LinkSlot) : (s.notifyArrival l).steering = s.steering := rfl
@[simp] theorem State.notifyArrival_arbiter (s : State) (l : LinkSlot) : (s.notifyArrival l).arbiter = s.arbiter := rfl
@[simp] theorem State.notifyArrival_internal (s : State) (l : LinkSlot) : (s.notifyArrival l).internal = s.internal := rfl
@[simp] theorem State.notifyArrival_completions (s : State) (l : LinkSlot) : (s.notifyArrival l).completions = s.completions := rfl
@[simp] theorem State.notifyArrival_memory (s : State) (l : LinkSlot) : (s.notifyArrival l).memory = s.memory := rfl
@[simp] theorem State.notifyArrival_links (s : State) (l : LinkSlot) : (s.notifyArrival l).links = s.links := rfl
@[simp] theorem State.notifyArrival_rings (s : State) (l : LinkSlot) : (s.notifyArrival l).rings = s.rings := rfl
@[simp] theorem State.notifyArrival_phantom (s : State) (l : LinkSlot) : (s.notifyArrival l).phantom = s.phantom := rfl
@[simp] theorem State.notifyArrival_cipher (s : State) (l : LinkSlot) : (s.notifyArrival l).cipher = s.cipher := rfl
@[simp] theorem State.notifyArrival_keys (s : State) (l : LinkSlot) : (s.notifyArrival l).keys = s.keys := rfl
@[simp] theorem State.notifyArrival_store (s : State) (l : LinkSlot) : (s.notifyArrival l).store = s.store := rfl
@[simp] theorem State.notifyArrival_time (s : State) (l : LinkSlot) : (s.notifyArrival l).time = s.time := rfl
@[simp] theorem State.notifyArrival_reports (s : State) (l : LinkSlot) : (s.notifyArrival l).reports = s.reports := rfl
@[simp] theorem State.notifyArrival_command (s : State) (l : LinkSlot) : (s.notifyArrival l).command = s.command := rfl
@[simp] theorem State.notifyArrival_nextIdent (s : State) (l : LinkSlot) : (s.notifyArrival l).nextIdent = s.nextIdent := rfl
@[simp] theorem State.notifyArrival_freeCount (s : State) (l : LinkSlot) : (s.notifyArrival l).freeCount = s.freeCount := rfl
@[simp] theorem State.notifyArrival_pending (s : State) (l : LinkSlot) : (s.notifyArrival l).pending = s.pending := rfl

@[simp] theorem State.askStore_lines (s : State) (r : StoreRequest) : (s.askStore r).lines = s.lines := rfl
@[simp] theorem State.askStore_steering (s : State) (r : StoreRequest) : (s.askStore r).steering = s.steering := rfl
@[simp] theorem State.askStore_arbiter (s : State) (r : StoreRequest) : (s.askStore r).arbiter = s.arbiter := rfl
@[simp] theorem State.askStore_internal (s : State) (r : StoreRequest) : (s.askStore r).internal = s.internal := rfl
@[simp] theorem State.askStore_completions (s : State) (r : StoreRequest) : (s.askStore r).completions = s.completions := rfl
@[simp] theorem State.askStore_memory (s : State) (r : StoreRequest) : (s.askStore r).memory = s.memory := rfl
@[simp] theorem State.askStore_links (s : State) (r : StoreRequest) : (s.askStore r).links = s.links := rfl
@[simp] theorem State.askStore_rings (s : State) (r : StoreRequest) : (s.askStore r).rings = s.rings := rfl
@[simp] theorem State.askStore_phantom (s : State) (r : StoreRequest) : (s.askStore r).phantom = s.phantom := rfl
@[simp] theorem State.askStore_cipher (s : State) (r : StoreRequest) : (s.askStore r).cipher = s.cipher := rfl
@[simp] theorem State.askStore_keys (s : State) (r : StoreRequest) : (s.askStore r).keys = s.keys := rfl
@[simp] theorem State.askStore_time (s : State) (r : StoreRequest) : (s.askStore r).time = s.time := rfl
@[simp] theorem State.askStore_reports (s : State) (r : StoreRequest) : (s.askStore r).reports = s.reports := rfl
@[simp] theorem State.askStore_command (s : State) (r : StoreRequest) : (s.askStore r).command = s.command := rfl
@[simp] theorem State.askStore_mail (s : State) (r : StoreRequest) : (s.askStore r).mail = s.mail := rfl
@[simp] theorem State.askStore_nextIdent (s : State) (r : StoreRequest) : (s.askStore r).nextIdent = s.nextIdent := rfl
@[simp] theorem State.askStore_freeCount (s : State) (r : StoreRequest) : (s.askStore r).freeCount = s.freeCount := rfl
@[simp] theorem State.askStore_pending (s : State) (r : StoreRequest) : (s.askStore r).pending = s.pending := rfl

@[simp] theorem State.forgetAsks_lines (s : State) (q : StoreRequester) : (s.forgetAsks q).lines = s.lines := rfl
@[simp] theorem State.forgetAsks_steering (s : State) (q : StoreRequester) : (s.forgetAsks q).steering = s.steering := rfl
@[simp] theorem State.forgetAsks_arbiter (s : State) (q : StoreRequester) : (s.forgetAsks q).arbiter = s.arbiter := rfl
@[simp] theorem State.forgetAsks_internal (s : State) (q : StoreRequester) : (s.forgetAsks q).internal = s.internal := rfl
@[simp] theorem State.forgetAsks_completions (s : State) (q : StoreRequester) : (s.forgetAsks q).completions = s.completions := rfl
@[simp] theorem State.forgetAsks_memory (s : State) (q : StoreRequester) : (s.forgetAsks q).memory = s.memory := rfl
@[simp] theorem State.forgetAsks_links (s : State) (q : StoreRequester) : (s.forgetAsks q).links = s.links := rfl
@[simp] theorem State.forgetAsks_rings (s : State) (q : StoreRequester) : (s.forgetAsks q).rings = s.rings := rfl
@[simp] theorem State.forgetAsks_phantom (s : State) (q : StoreRequester) : (s.forgetAsks q).phantom = s.phantom := rfl
@[simp] theorem State.forgetAsks_cipher (s : State) (q : StoreRequester) : (s.forgetAsks q).cipher = s.cipher := rfl
@[simp] theorem State.forgetAsks_keys (s : State) (q : StoreRequester) : (s.forgetAsks q).keys = s.keys := rfl
@[simp] theorem State.forgetAsks_time (s : State) (q : StoreRequester) : (s.forgetAsks q).time = s.time := rfl
@[simp] theorem State.forgetAsks_reports (s : State) (q : StoreRequester) : (s.forgetAsks q).reports = s.reports := rfl
@[simp] theorem State.forgetAsks_command (s : State) (q : StoreRequester) : (s.forgetAsks q).command = s.command := rfl
@[simp] theorem State.forgetAsks_mail (s : State) (q : StoreRequester) : (s.forgetAsks q).mail = s.mail := rfl
@[simp] theorem State.forgetAsks_nextIdent (s : State) (q : StoreRequester) : (s.forgetAsks q).nextIdent = s.nextIdent := rfl
@[simp] theorem State.forgetAsks_freeCount (s : State) (q : StoreRequester) : (s.forgetAsks q).freeCount = s.freeCount := rfl
@[simp] theorem State.forgetAsks_pending (s : State) (q : StoreRequester) : (s.forgetAsks q).pending = s.pending := rfl

@[simp] theorem State.askKeyUnit_lines (s : State) (r : KeyRequest) : (s.askKeyUnit r).lines = s.lines := rfl
@[simp] theorem State.askKeyUnit_steering (s : State) (r : KeyRequest) : (s.askKeyUnit r).steering = s.steering := rfl
@[simp] theorem State.askKeyUnit_arbiter (s : State) (r : KeyRequest) : (s.askKeyUnit r).arbiter = s.arbiter := rfl
@[simp] theorem State.askKeyUnit_internal (s : State) (r : KeyRequest) : (s.askKeyUnit r).internal = s.internal := rfl
@[simp] theorem State.askKeyUnit_completions (s : State) (r : KeyRequest) : (s.askKeyUnit r).completions = s.completions := rfl
@[simp] theorem State.askKeyUnit_memory (s : State) (r : KeyRequest) : (s.askKeyUnit r).memory = s.memory := rfl
@[simp] theorem State.askKeyUnit_links (s : State) (r : KeyRequest) : (s.askKeyUnit r).links = s.links := rfl
@[simp] theorem State.askKeyUnit_rings (s : State) (r : KeyRequest) : (s.askKeyUnit r).rings = s.rings := rfl
@[simp] theorem State.askKeyUnit_phantom (s : State) (r : KeyRequest) : (s.askKeyUnit r).phantom = s.phantom := rfl
@[simp] theorem State.askKeyUnit_cipher (s : State) (r : KeyRequest) : (s.askKeyUnit r).cipher = s.cipher := rfl
@[simp] theorem State.askKeyUnit_store (s : State) (r : KeyRequest) : (s.askKeyUnit r).store = s.store := rfl
@[simp] theorem State.askKeyUnit_time (s : State) (r : KeyRequest) : (s.askKeyUnit r).time = s.time := rfl
@[simp] theorem State.askKeyUnit_reports (s : State) (r : KeyRequest) : (s.askKeyUnit r).reports = s.reports := rfl
@[simp] theorem State.askKeyUnit_command (s : State) (r : KeyRequest) : (s.askKeyUnit r).command = s.command := rfl
@[simp] theorem State.askKeyUnit_mail (s : State) (r : KeyRequest) : (s.askKeyUnit r).mail = s.mail := rfl
@[simp] theorem State.askKeyUnit_nextIdent (s : State) (r : KeyRequest) : (s.askKeyUnit r).nextIdent = s.nextIdent := rfl
@[simp] theorem State.askKeyUnit_freeCount (s : State) (r : KeyRequest) : (s.askKeyUnit r).freeCount = s.freeCount := rfl
@[simp] theorem State.askKeyUnit_pending (s : State) (r : KeyRequest) : (s.askKeyUnit r).pending = s.pending := rfl

@[simp] theorem State.nextContext_lines (s : State) : (s.nextContext).lines = s.lines := rfl
@[simp] theorem State.nextContext_steering (s : State) : (s.nextContext).steering = s.steering := rfl
@[simp] theorem State.nextContext_arbiter (s : State) : (s.nextContext).arbiter = s.arbiter := rfl
@[simp] theorem State.nextContext_internal (s : State) : (s.nextContext).internal = s.internal := rfl
@[simp] theorem State.nextContext_completions (s : State) : (s.nextContext).completions = s.completions := rfl
@[simp] theorem State.nextContext_memory (s : State) : (s.nextContext).memory = s.memory := rfl
@[simp] theorem State.nextContext_links (s : State) : (s.nextContext).links = s.links := rfl
@[simp] theorem State.nextContext_rings (s : State) : (s.nextContext).rings = s.rings := rfl
@[simp] theorem State.nextContext_phantom (s : State) : (s.nextContext).phantom = s.phantom := rfl
@[simp] theorem State.nextContext_cipher (s : State) : (s.nextContext).cipher = s.cipher := rfl
@[simp] theorem State.nextContext_keys (s : State) : (s.nextContext).keys = s.keys := rfl
@[simp] theorem State.nextContext_store (s : State) : (s.nextContext).store = s.store := rfl
@[simp] theorem State.nextContext_time (s : State) : (s.nextContext).time = s.time := rfl
@[simp] theorem State.nextContext_reports (s : State) : (s.nextContext).reports = s.reports := rfl
@[simp] theorem State.nextContext_command (s : State) : (s.nextContext).command = s.command := rfl
@[simp] theorem State.nextContext_mail (s : State) : (s.nextContext).mail = s.mail := rfl
@[simp] theorem State.nextContext_freeCount (s : State) : (s.nextContext).freeCount = s.freeCount := rfl
@[simp] theorem State.nextContext_pending (s : State) : (s.nextContext).pending = s.pending := rfl

@[simp] theorem State.useFree_lines (s : State) : (s.useFree).lines = s.lines := rfl
@[simp] theorem State.useFree_steering (s : State) : (s.useFree).steering = s.steering := rfl
@[simp] theorem State.useFree_arbiter (s : State) : (s.useFree).arbiter = s.arbiter := rfl
@[simp] theorem State.useFree_internal (s : State) : (s.useFree).internal = s.internal := rfl
@[simp] theorem State.useFree_completions (s : State) : (s.useFree).completions = s.completions := rfl
@[simp] theorem State.useFree_memory (s : State) : (s.useFree).memory = s.memory := rfl
@[simp] theorem State.useFree_links (s : State) : (s.useFree).links = s.links := rfl
@[simp] theorem State.useFree_rings (s : State) : (s.useFree).rings = s.rings := rfl
@[simp] theorem State.useFree_phantom (s : State) : (s.useFree).phantom = s.phantom := rfl
@[simp] theorem State.useFree_cipher (s : State) : (s.useFree).cipher = s.cipher := rfl
@[simp] theorem State.useFree_keys (s : State) : (s.useFree).keys = s.keys := rfl
@[simp] theorem State.useFree_store (s : State) : (s.useFree).store = s.store := rfl
@[simp] theorem State.useFree_time (s : State) : (s.useFree).time = s.time := rfl
@[simp] theorem State.useFree_reports (s : State) : (s.useFree).reports = s.reports := rfl
@[simp] theorem State.useFree_command (s : State) : (s.useFree).command = s.command := rfl
@[simp] theorem State.useFree_mail (s : State) : (s.useFree).mail = s.mail := rfl
@[simp] theorem State.useFree_nextIdent (s : State) : (s.useFree).nextIdent = s.nextIdent := rfl
@[simp] theorem State.useFree_pending (s : State) : (s.useFree).pending = s.pending := rfl

@[simp] theorem State.setEngine_lines (s : State) (e : Engine) : (s.setEngine e).lines = s.lines := rfl
@[simp] theorem State.setEngine_steering (s : State) (e : Engine) : (s.setEngine e).steering = s.steering := rfl
@[simp] theorem State.setEngine_arbiter (s : State) (e : Engine) : (s.setEngine e).arbiter = s.arbiter := rfl
@[simp] theorem State.setEngine_internal (s : State) (e : Engine) : (s.setEngine e).internal = s.internal := rfl
@[simp] theorem State.setEngine_completions (s : State) (e : Engine) : (s.setEngine e).completions = s.completions := rfl
@[simp] theorem State.setEngine_memory (s : State) (e : Engine) : (s.setEngine e).memory = s.memory := rfl
@[simp] theorem State.setEngine_links (s : State) (e : Engine) : (s.setEngine e).links = s.links := rfl
@[simp] theorem State.setEngine_rings (s : State) (e : Engine) : (s.setEngine e).rings = s.rings := rfl
@[simp] theorem State.setEngine_phantom (s : State) (e : Engine) : (s.setEngine e).phantom = s.phantom := rfl
@[simp] theorem State.setEngine_keys (s : State) (e : Engine) : (s.setEngine e).keys = s.keys := rfl
@[simp] theorem State.setEngine_store (s : State) (e : Engine) : (s.setEngine e).store = s.store := rfl
@[simp] theorem State.setEngine_time (s : State) (e : Engine) : (s.setEngine e).time = s.time := rfl
@[simp] theorem State.setEngine_reports (s : State) (e : Engine) : (s.setEngine e).reports = s.reports := rfl
@[simp] theorem State.setEngine_command (s : State) (e : Engine) : (s.setEngine e).command = s.command := rfl
@[simp] theorem State.setEngine_mail (s : State) (e : Engine) : (s.setEngine e).mail = s.mail := rfl
@[simp] theorem State.setEngine_nextIdent (s : State) (e : Engine) : (s.setEngine e).nextIdent = s.nextIdent := rfl
@[simp] theorem State.setEngine_freeCount (s : State) (e : Engine) : (s.setEngine e).freeCount = s.freeCount := rfl
@[simp] theorem State.setEngine_pending (s : State) (e : Engine) : (s.setEngine e).pending = s.pending := rfl

/-! ### Records after an update -/

@[simp] theorem State.setLink_ring (s : State) (l : LinkSlot) (x : Link) (q : RingIndex) : (s.setLink l x).ring q = s.ring q := rfl
@[simp] theorem State.setLink_key (s : State) (l : LinkSlot) (x : Link) (j : KeyIndex) : (s.setLink l x).key j = s.key j := rfl
@[simp] theorem State.setLink_kek (s : State) (l : LinkSlot) (x : Link) (j : KekIndex) : (s.setLink l x).kek j = s.kek j := rfl
@[simp] theorem State.setLink_erasures (s : State) (l : LinkSlot) (x : Link) (j : KekIndex) : (s.setLink l x).erasures j = s.erasures j := rfl

@[simp] theorem State.setOut_ring (s : State) (l : LinkSlot) (x : Option OutContext) (q : RingIndex) : (s.setOut l x).ring q = s.ring q := rfl
@[simp] theorem State.setOut_key (s : State) (l : LinkSlot) (x : Option OutContext) (j : KeyIndex) : (s.setOut l x).key j = s.key j := rfl
@[simp] theorem State.setOut_kek (s : State) (l : LinkSlot) (x : Option OutContext) (j : KekIndex) : (s.setOut l x).kek j = s.kek j := rfl
@[simp] theorem State.setOut_erasures (s : State) (l : LinkSlot) (x : Option OutContext) (j : KekIndex) : (s.setOut l x).erasures j = s.erasures j := rfl

@[simp] theorem State.setIn_ring (s : State) (l : LinkSlot) (x : Option InContext) (q : RingIndex) : (s.setIn l x).ring q = s.ring q := rfl
@[simp] theorem State.setIn_key (s : State) (l : LinkSlot) (x : Option InContext) (j : KeyIndex) : (s.setIn l x).key j = s.key j := rfl
@[simp] theorem State.setIn_kek (s : State) (l : LinkSlot) (x : Option InContext) (j : KekIndex) : (s.setIn l x).kek j = s.kek j := rfl
@[simp] theorem State.setIn_erasures (s : State) (l : LinkSlot) (x : Option InContext) (j : KekIndex) : (s.setIn l x).erasures j = s.erasures j := rfl

@[simp] theorem State.setHealth_ring (s : State) (l : LinkSlot) (x : Health) (q : RingIndex) : (s.setHealth l x).ring q = s.ring q := rfl
@[simp] theorem State.setHealth_key (s : State) (l : LinkSlot) (x : Health) (j : KeyIndex) : (s.setHealth l x).key j = s.key j := rfl
@[simp] theorem State.setHealth_kek (s : State) (l : LinkSlot) (x : Health) (j : KekIndex) : (s.setHealth l x).kek j = s.kek j := rfl
@[simp] theorem State.setHealth_erasures (s : State) (l : LinkSlot) (x : Health) (j : KekIndex) : (s.setHealth l x).erasures j = s.erasures j := rfl

@[simp] theorem State.setRing_link (s : State) (r : RingIndex) (x : Option Ring) (m : LinkSlot) : (s.setRing r x).link m = s.link m := rfl
@[simp] theorem State.setRing_key (s : State) (r : RingIndex) (x : Option Ring) (j : KeyIndex) : (s.setRing r x).key j = s.key j := rfl
@[simp] theorem State.setRing_kek (s : State) (r : RingIndex) (x : Option Ring) (j : KekIndex) : (s.setRing r x).kek j = s.kek j := rfl
@[simp] theorem State.setRing_erasures (s : State) (r : RingIndex) (x : Option Ring) (j : KekIndex) : (s.setRing r x).erasures j = s.erasures j := rfl

@[simp] theorem State.setKey_link (s : State) (k : KeyIndex) (x : KeySlot) (m : LinkSlot) : (s.setKey k x).link m = s.link m := rfl
@[simp] theorem State.setKey_ring (s : State) (k : KeyIndex) (x : KeySlot) (q : RingIndex) : (s.setKey k x).ring q = s.ring q := rfl
@[simp] theorem State.setKey_kek (s : State) (k : KeyIndex) (x : KeySlot) (j : KekIndex) : (s.setKey k x).kek j = s.kek j := rfl
@[simp] theorem State.setKey_erasures (s : State) (k : KeyIndex) (x : KeySlot) (j : KekIndex) : (s.setKey k x).erasures j = s.erasures j := rfl

@[simp] theorem State.mapKeys_link (s : State) (f : KeySlot → KeySlot) (m : LinkSlot) : (s.mapKeys f).link m = s.link m := rfl
@[simp] theorem State.mapKeys_ring (s : State) (f : KeySlot → KeySlot) (q : RingIndex) : (s.mapKeys f).ring q = s.ring q := rfl
@[simp] theorem State.mapKeys_kek (s : State) (f : KeySlot → KeySlot) (j : KekIndex) : (s.mapKeys f).kek j = s.kek j := rfl
@[simp] theorem State.mapKeys_erasures (s : State) (f : KeySlot → KeySlot) (j : KekIndex) : (s.mapKeys f).erasures j = s.erasures j := rfl

@[simp] theorem State.setKek_link (s : State) (k : KekIndex) (x : KekSlot) (m : LinkSlot) : (s.setKek k x).link m = s.link m := rfl
@[simp] theorem State.setKek_ring (s : State) (k : KekIndex) (x : KekSlot) (q : RingIndex) : (s.setKek k x).ring q = s.ring q := rfl
@[simp] theorem State.setKek_key (s : State) (k : KekIndex) (x : KekSlot) (j : KeyIndex) : (s.setKek k x).key j = s.key j := rfl

@[simp] theorem State.post_link (s : State) (b : ReportSource) (l : Option LinkSlot) (d : ReportDetail) (m : LinkSlot) : (s.post b l d).link m = s.link m := rfl
@[simp] theorem State.post_ring (s : State) (b : ReportSource) (l : Option LinkSlot) (d : ReportDetail) (q : RingIndex) : (s.post b l d).ring q = s.ring q := rfl
@[simp] theorem State.post_key (s : State) (b : ReportSource) (l : Option LinkSlot) (d : ReportDetail) (j : KeyIndex) : (s.post b l d).key j = s.key j := rfl
@[simp] theorem State.post_kek (s : State) (b : ReportSource) (l : Option LinkSlot) (d : ReportDetail) (j : KekIndex) : (s.post b l d).kek j = s.kek j := rfl
@[simp] theorem State.post_erasures (s : State) (b : ReportSource) (l : Option LinkSlot) (d : ReportDetail) (j : KekIndex) : (s.post b l d).erasures j = s.erasures j := rfl

@[simp] theorem State.notifyStatus_link (s : State) (n : StatusNotice) (m : LinkSlot) : (s.notifyStatus n).link m = s.link m := rfl
@[simp] theorem State.notifyStatus_ring (s : State) (n : StatusNotice) (q : RingIndex) : (s.notifyStatus n).ring q = s.ring q := rfl
@[simp] theorem State.notifyStatus_key (s : State) (n : StatusNotice) (j : KeyIndex) : (s.notifyStatus n).key j = s.key j := rfl
@[simp] theorem State.notifyStatus_kek (s : State) (n : StatusNotice) (j : KekIndex) : (s.notifyStatus n).kek j = s.kek j := rfl
@[simp] theorem State.notifyStatus_erasures (s : State) (n : StatusNotice) (j : KekIndex) : (s.notifyStatus n).erasures j = s.erasures j := rfl

@[simp] theorem State.notifyNoBuffer_link (s : State) (l : LinkSlot) (m : LinkSlot) : (s.notifyNoBuffer l).link m = s.link m := rfl
@[simp] theorem State.notifyNoBuffer_ring (s : State) (l : LinkSlot) (q : RingIndex) : (s.notifyNoBuffer l).ring q = s.ring q := rfl
@[simp] theorem State.notifyNoBuffer_key (s : State) (l : LinkSlot) (j : KeyIndex) : (s.notifyNoBuffer l).key j = s.key j := rfl
@[simp] theorem State.notifyNoBuffer_kek (s : State) (l : LinkSlot) (j : KekIndex) : (s.notifyNoBuffer l).kek j = s.kek j := rfl
@[simp] theorem State.notifyNoBuffer_erasures (s : State) (l : LinkSlot) (j : KekIndex) : (s.notifyNoBuffer l).erasures j = s.erasures j := rfl

@[simp] theorem State.notifyArrival_link (s : State) (l : LinkSlot) (m : LinkSlot) : (s.notifyArrival l).link m = s.link m := rfl
@[simp] theorem State.notifyArrival_ring (s : State) (l : LinkSlot) (q : RingIndex) : (s.notifyArrival l).ring q = s.ring q := rfl
@[simp] theorem State.notifyArrival_key (s : State) (l : LinkSlot) (j : KeyIndex) : (s.notifyArrival l).key j = s.key j := rfl
@[simp] theorem State.notifyArrival_kek (s : State) (l : LinkSlot) (j : KekIndex) : (s.notifyArrival l).kek j = s.kek j := rfl
@[simp] theorem State.notifyArrival_erasures (s : State) (l : LinkSlot) (j : KekIndex) : (s.notifyArrival l).erasures j = s.erasures j := rfl

@[simp] theorem State.askStore_link (s : State) (r : StoreRequest) (m : LinkSlot) : (s.askStore r).link m = s.link m := rfl
@[simp] theorem State.askStore_ring (s : State) (r : StoreRequest) (q : RingIndex) : (s.askStore r).ring q = s.ring q := rfl
@[simp] theorem State.askStore_key (s : State) (r : StoreRequest) (j : KeyIndex) : (s.askStore r).key j = s.key j := rfl
@[simp] theorem State.askStore_kek (s : State) (r : StoreRequest) (j : KekIndex) : (s.askStore r).kek j = s.kek j := rfl
@[simp] theorem State.askStore_erasures (s : State) (r : StoreRequest) (j : KekIndex) : (s.askStore r).erasures j = s.erasures j := rfl
@[simp] theorem State.forgetAsks_link (s : State) (o : StoreRequester) (m : LinkSlot) : (s.forgetAsks o).link m = s.link m := rfl
@[simp] theorem State.forgetAsks_ring (s : State) (o : StoreRequester) (q : RingIndex) : (s.forgetAsks o).ring q = s.ring q := rfl
@[simp] theorem State.forgetAsks_key (s : State) (o : StoreRequester) (j : KeyIndex) : (s.forgetAsks o).key j = s.key j := rfl
@[simp] theorem State.forgetAsks_kek (s : State) (o : StoreRequester) (j : KekIndex) : (s.forgetAsks o).kek j = s.kek j := rfl
@[simp] theorem State.forgetAsks_erasures (s : State) (o : StoreRequester) (j : KekIndex) : (s.forgetAsks o).erasures j = s.erasures j := rfl

@[simp] theorem State.askKeyUnit_link (s : State) (r : KeyRequest) (m : LinkSlot) : (s.askKeyUnit r).link m = s.link m := rfl
@[simp] theorem State.askKeyUnit_ring (s : State) (r : KeyRequest) (q : RingIndex) : (s.askKeyUnit r).ring q = s.ring q := rfl
@[simp] theorem State.askKeyUnit_key (s : State) (r : KeyRequest) (j : KeyIndex) : (s.askKeyUnit r).key j = s.key j := rfl
@[simp] theorem State.askKeyUnit_kek (s : State) (r : KeyRequest) (j : KekIndex) : (s.askKeyUnit r).kek j = s.kek j := rfl
@[simp] theorem State.askKeyUnit_erasures (s : State) (r : KeyRequest) (j : KekIndex) : (s.askKeyUnit r).erasures j = s.erasures j := rfl

@[simp] theorem State.nextContext_link (s : State) (m : LinkSlot) : (s.nextContext).link m = s.link m := rfl
@[simp] theorem State.nextContext_ring (s : State) (q : RingIndex) : (s.nextContext).ring q = s.ring q := rfl
@[simp] theorem State.nextContext_key (s : State) (j : KeyIndex) : (s.nextContext).key j = s.key j := rfl
@[simp] theorem State.nextContext_kek (s : State) (j : KekIndex) : (s.nextContext).kek j = s.kek j := rfl
@[simp] theorem State.nextContext_erasures (s : State) (j : KekIndex) : (s.nextContext).erasures j = s.erasures j := rfl

@[simp] theorem State.useFree_link (s : State) (m : LinkSlot) : (s.useFree).link m = s.link m := rfl
@[simp] theorem State.useFree_ring (s : State) (q : RingIndex) : (s.useFree).ring q = s.ring q := rfl
@[simp] theorem State.useFree_key (s : State) (j : KeyIndex) : (s.useFree).key j = s.key j := rfl
@[simp] theorem State.useFree_kek (s : State) (j : KekIndex) : (s.useFree).kek j = s.kek j := rfl
@[simp] theorem State.useFree_erasures (s : State) (j : KekIndex) : (s.useFree).erasures j = s.erasures j := rfl

@[simp] theorem State.setEngine_link (s : State) (e : Engine) (m : LinkSlot) : (s.setEngine e).link m = s.link m := rfl
@[simp] theorem State.setEngine_ring (s : State) (e : Engine) (q : RingIndex) : (s.setEngine e).ring q = s.ring q := rfl
@[simp] theorem State.setEngine_key (s : State) (e : Engine) (j : KeyIndex) : (s.setEngine e).key j = s.key j := rfl
@[simp] theorem State.setEngine_kek (s : State) (e : Engine) (j : KekIndex) : (s.setEngine e).kek j = s.kek j := rfl
@[simp] theorem State.setEngine_erasures (s : State) (e : Engine) (j : KekIndex) : (s.setEngine e).erasures j = s.erasures j := rfl

/-! ### What an update writes -/

@[simp] theorem State.setLink_link_self (s : State) (l : LinkSlot) (x : Link) :
    (s.setLink l x).link l = x := by simp [State.setLink, State.link]

theorem State.setLink_link_ne (s : State) {l m : LinkSlot} (x : Link) (h : l ≠ m) :
    (s.setLink l x).link m = s.link m := by
  have h' : l.val ≠ m.val := fun e => h (Fin.ext e)
  simp [State.setLink, State.link, h']

@[simp] theorem State.setRing_ring_self (s : State) (r : RingIndex) (x : Option Ring) :
    (s.setRing r x).ring r = x := by simp [State.setRing, State.ring]

theorem State.setRing_ring_ne (s : State) {r q : RingIndex} (x : Option Ring) (h : r ≠ q) :
    (s.setRing r x).ring q = s.ring q := by
  have h' : r.val ≠ q.val := fun e => h (Fin.ext e)
  simp [State.setRing, State.ring, h']

@[simp] theorem State.setKey_key_self (s : State) (k : KeyIndex) (x : KeySlot) :
    (s.setKey k x).key k = x := by simp [State.setKey, State.key]

theorem State.setKey_key_ne (s : State) {k j : KeyIndex} (x : KeySlot) (h : k ≠ j) :
    (s.setKey k x).key j = s.key j := by
  have h' : k.val ≠ j.val := fun e => h (Fin.ext e)
  simp [State.setKey, State.key, h']

@[simp] theorem State.setKek_kek_self (s : State) (k : KekIndex) (x : KekSlot) :
    (s.setKek k x).kek k = x := by simp [State.setKek, State.kek]

theorem State.setKek_kek_ne (s : State) {k j : KekIndex} (x : KekSlot) (h : k ≠ j) :
    (s.setKek k x).kek j = s.kek j := by
  have h' : k.val ≠ j.val := fun e => h (Fin.ext e)
  simp [State.setKek, State.kek, h']

@[simp] theorem State.setKek_erasures (s : State) (k : KekIndex) (x : KekSlot) (j : KekIndex) :
    (s.setKek k x).erasures j = s.erasures j := rfl

/-! An erase (R133): the slot EMPTY and counted, every other slot as it was. -/

@[simp] theorem State.eraseKek_kek_self (s : State) (k : KekIndex) :
    (s.eraseKek k).kek k = KekSlot.blank .empty := by simp [State.eraseKek, State.kek]
theorem State.eraseKek_kek_ne (s : State) {k j : KekIndex} (h : k ≠ j) :
    (s.eraseKek k).kek j = s.kek j := by
  have h' : k.val ≠ j.val := fun e => h (Fin.ext e)
  simp [State.eraseKek, State.kek, h']
@[simp] theorem State.eraseKek_erasures_self (s : State) (k : KekIndex) :
    (s.eraseKek k).erasures k = s.erasures k + 1 := by simp [State.eraseKek, State.erasures]
theorem State.eraseKek_erasures_ne (s : State) {k j : KekIndex} (h : k ≠ j) :
    (s.eraseKek k).erasures j = s.erasures j := by
  have h' : k.val ≠ j.val := fun e => h (Fin.ext e)
  simp [State.eraseKek, State.erasures, h']
@[simp] theorem State.eraseKek_lines (s : State) (k : KekIndex) : (s.eraseKek k).lines = s.lines := rfl
@[simp] theorem State.eraseKek_steering (s : State) (k : KekIndex) : (s.eraseKek k).steering = s.steering := rfl
@[simp] theorem State.eraseKek_arbiter (s : State) (k : KekIndex) : (s.eraseKek k).arbiter = s.arbiter := rfl
@[simp] theorem State.eraseKek_internal (s : State) (k : KekIndex) : (s.eraseKek k).internal = s.internal := rfl
@[simp] theorem State.eraseKek_completions (s : State) (k : KekIndex) : (s.eraseKek k).completions = s.completions := rfl
@[simp] theorem State.eraseKek_memory (s : State) (k : KekIndex) : (s.eraseKek k).memory = s.memory := rfl
@[simp] theorem State.eraseKek_links (s : State) (k : KekIndex) : (s.eraseKek k).links = s.links := rfl
@[simp] theorem State.eraseKek_rings (s : State) (k : KekIndex) : (s.eraseKek k).rings = s.rings := rfl
@[simp] theorem State.eraseKek_phantom (s : State) (k : KekIndex) : (s.eraseKek k).phantom = s.phantom := rfl
@[simp] theorem State.eraseKek_cipher (s : State) (k : KekIndex) : (s.eraseKek k).cipher = s.cipher := rfl
@[simp] theorem State.eraseKek_keys (s : State) (k : KekIndex) : (s.eraseKek k).keys = s.keys := rfl
@[simp] theorem State.eraseKek_time (s : State) (k : KekIndex) : (s.eraseKek k).time = s.time := rfl
@[simp] theorem State.eraseKek_reports (s : State) (k : KekIndex) : (s.eraseKek k).reports = s.reports := rfl
@[simp] theorem State.eraseKek_command (s : State) (k : KekIndex) : (s.eraseKek k).command = s.command := rfl
@[simp] theorem State.eraseKek_mail (s : State) (k : KekIndex) : (s.eraseKek k).mail = s.mail := rfl
@[simp] theorem State.eraseKek_nextIdent (s : State) (k : KekIndex) : (s.eraseKek k).nextIdent = s.nextIdent := rfl
@[simp] theorem State.eraseKek_freeCount (s : State) (k : KekIndex) : (s.eraseKek k).freeCount = s.freeCount := rfl
@[simp] theorem State.eraseKek_pending (s : State) (k : KekIndex) : (s.eraseKek k).pending = s.pending := rfl
@[simp] theorem State.eraseKek_marker (s : State) (k : KekIndex) : (s.eraseKek k).store.marker = s.store.marker := rfl
@[simp] theorem State.eraseKek_cellsLost (s : State) (k : KekIndex) : (s.eraseKek k).store.cellsLost = s.store.cellsLost := rfl
@[simp] theorem State.eraseKek_requests (s : State) (k : KekIndex) : (s.eraseKek k).store.requests = s.store.requests := rfl
@[simp] theorem State.eraseKek_waiting (s : State) (k : KekIndex) : (s.eraseKek k).store.waiting = s.store.waiting := rfl
@[simp] theorem State.eraseKek_staging (s : State) (k : KekIndex) : (s.eraseKek k).store.staging = s.store.staging := rfl

@[simp] theorem State.setKek_marker (s : State) (k : KekIndex) (x : KekSlot) :
    (s.setKek k x).store.marker = s.store.marker := rfl
@[simp] theorem State.setKek_requests (s : State) (k : KekIndex) (x : KekSlot) :
    (s.setKek k x).store.requests = s.store.requests := rfl
@[simp] theorem State.setKek_staging (s : State) (k : KekIndex) (x : KekSlot) :
    (s.setKek k x).store.staging = s.store.staging := rfl
@[simp] theorem State.setKey_jobs (s : State) (k : KeyIndex) (x : KeySlot) :
    (s.setKey k x).keys.jobs = s.keys.jobs := rfl
@[simp] theorem State.setKey_requests (s : State) (k : KeyIndex) (x : KeySlot) :
    (s.setKey k x).keys.requests = s.keys.requests := rfl
@[simp] theorem State.setKey_installations (s : State) (k : KeyIndex) (x : KeySlot) :
    (s.setKey k x).keys.installations = s.keys.installations := rfl
@[simp] theorem State.askStore_slots (s : State) (r : StoreRequest) :
    (s.askStore r).store.slots = s.store.slots := rfl
@[simp] theorem State.askStore_marker (s : State) (r : StoreRequest) :
    (s.askStore r).store.marker = s.store.marker := rfl
@[simp] theorem State.askStore_cellsLost (s : State) (r : StoreRequest) :
    (s.askStore r).store.cellsLost = s.store.cellsLost := rfl
@[simp] theorem State.askStore_staging (s : State) (r : StoreRequest) :
    (s.askStore r).store.staging = s.store.staging := rfl
@[simp] theorem State.forgetAsks_slots (s : State) (q : StoreRequester) :
    (s.forgetAsks q).store.slots = s.store.slots := rfl
@[simp] theorem State.forgetAsks_marker (s : State) (q : StoreRequester) :
    (s.forgetAsks q).store.marker = s.store.marker := rfl
@[simp] theorem State.forgetAsks_requests (s : State) (q : StoreRequester) :
    (s.forgetAsks q).store.requests = s.store.requests := rfl
@[simp] theorem State.askKeyUnit_table (s : State) (r : KeyRequest) :
    (s.askKeyUnit r).keys.table = s.keys.table := rfl

/-- A table after a function over every element. -/
@[simp] theorem mapTable_get {α β : Type} {n : Nat} (v : Vector α n) (f : α → β) (i : Fin n) :
    (mapTable v f)[i] = f v[i] := by simp [mapTable]

@[simp] theorem State.mapKeys_key (s : State) (f : KeySlot → KeySlot) (k : KeyIndex) :
    (s.mapKeys f).key k = f (s.key k) := mapTable_get s.keys.table f k

end Sys2Proof.Machine
end

