-- ==== Sys2Proof/Laws/Still.lean ====
section
/-! SUPPORT. The engines, the link unit and the ports leave `State.still` alone: one lemma per
operation. -/

namespace Sys2Proof.Machine

section updates
variable (s : State)

@[simp] theorem still_setLink (l : LinkSlot) (x : Link) : (s.setLink l x).still = s.still := rfl
@[simp] theorem still_setOut (l : LinkSlot) (c : Option OutContext) :
    (s.setOut l c).still = s.still := rfl
@[simp] theorem still_setIn (l : LinkSlot) (c : Option InContext) :
    (s.setIn l c).still = s.still := rfl
@[simp] theorem still_setHealth (l : LinkSlot) (h : Health) : (s.setHealth l h).still = s.still := rfl
@[simp] theorem still_setRing (r : RingIndex) (x : Option Ring) : (s.setRing r x).still = s.still := rfl
@[simp] theorem still_setKey (k : KeyIndex) (x : KeySlot) : (s.setKey k x).still = s.still := rfl
@[simp] theorem still_mapKeys (f : KeySlot → KeySlot) : (s.mapKeys f).still = s.still := rfl
@[simp] theorem still_post (b : ReportSource) (l : Option LinkSlot) (d : ReportDetail) :
    (s.post b l d).still = s.still := rfl
@[simp] theorem still_fault (l : Option LinkSlot) (a : Nat) : (s.fault l a).still = s.still := rfl
@[simp] theorem still_notifyStatus (n : StatusNotice) : (s.notifyStatus n).still = s.still := rfl
@[simp] theorem still_notifyNoBuffer (l : LinkSlot) : (s.notifyNoBuffer l).still = s.still := rfl
@[simp] theorem still_notifyArrival (l : LinkSlot) : (s.notifyArrival l).still = s.still := rfl
@[simp] theorem still_askStore (r : StoreRequest) : (s.askStore r).still = s.still := rfl
@[simp] theorem still_forgetAsks (q : StoreRequester) : (s.forgetAsks q).still = s.still := rfl
@[simp] theorem still_askKeyUnit (r : KeyRequest) : (s.askKeyUnit r).still = s.still := rfl
@[simp] theorem still_nextContext : s.nextContext.still = s.still := rfl
@[simp] theorem still_useFree : s.useFree.still = s.still := rfl
@[simp] theorem still_cipher (c : CipherUnit) : ({ s with cipher := c } : State).still = s.still := rfl
@[simp] theorem still_setEngine (e : Engine) : (s.setEngine e).still = s.still := rfl
@[simp] theorem still_keys (k : KeyUnit) : ({ s with keys := k } : State).still = s.still := rfl
@[simp] theorem still_links (x : Vector Link 8) : ({ s with links := x } : State).still = s.still := rfl
@[simp] theorem still_mail (m : Mail) : ({ s with mail := m } : State).still = s.still := rfl
@[simp] theorem still_internal (m : InternalMaster) :
    ({ s with internal := m } : State).still = s.still := rfl
@[simp] theorem still_phase (x : Option Executing) :
    ({ s with command := { s.command with executing := x } } : State).still = s.still := rfl
@[simp] theorem still_portL (x : Port) :
    ({ s with steering := { s.steering with l := x } } : State).still = s.still := rfl
@[simp] theorem still_portP (x : Port) :
    ({ s with steering := { s.steering with p := x } } : State).still = s.still := rfl

@[simp] theorem still_setPort (b : Bool) (x : Port) : (s.setPort b x).still = s.still := by
  cases b <;> rfl

@[simp] theorem still_setSlot (r : RingIndex) (i : Nat) (x : SlotRecord) :
    (s.setSlot r i x).still = s.still := by unfold State.setSlot; split <;> simp

@[simp] theorem still_admitWrite (w : InternalWrite) : (s.admitWrite w).still = s.still := by
  unfold State.admitWrite; split <;> rfl
@[simp] theorem still_admitRead (r : InternalRead) : (s.admitRead r).still = s.still := rfl
@[simp] theorem still_queueWrite (w : InternalWrite) : (s.queueWrite w).still = s.still := by
  unfold State.queueWrite; split <;> simp
@[simp] theorem still_queueRead (r : InternalRead) : (s.queueRead r).still = s.still := by
  unfold State.queueRead; split <;> simp
@[simp] theorem still_admitWaitingWrite : s.admitWaitingWrite.still = s.still := by
  unfold State.admitWaitingWrite; split <;> simp
@[simp] theorem still_admitWaitingRead : s.admitWaitingRead.still = s.still := by
  unfold State.admitWaitingRead; split <;> simp
@[simp] theorem still_answer (r : List Byte) (c : ResultCode) (b : List (Nat × List Byte)) :
    (s.answer r c b).still = s.still := by
  unfold State.answer; split <;> simp

end updates

/-- A fold of an operation that leaves it alone. -/
theorem still_foldl {α : Type} (f : State → α → State) (h : ∀ s a, (f s a).still = s.still)
    (xs : List α) (s : State) : (xs.foldl f s).still = s.still := by
  induction xs generalizing s with
  | nil => rfl
  | cons x xs ih => rw [List.foldl_cons, ih, h]

/-! ### Cipher requests (R15, R61, R68, R93) -/

@[simp] theorem still_feedOut (s : State) (l : LinkSlot) : (s.feedOut l).still = s.still := by
  unfold State.feedOut; dsimp only; (repeat' split) <;> simp

@[simp] theorem still_feedIn (s : State) (l : LinkSlot) : (s.feedIn l).still = s.still := by
  unfold State.feedIn; dsimp only; (repeat' split) <;> simp

@[simp] theorem still_moveOutWindow (s : State) (l : LinkSlot) (w : Nat) : (s.moveOutWindow l w).still = s.still := by
  unfold State.moveOutWindow; dsimp only; (repeat' split) <;> simp

@[simp] theorem still_moveInWindow (s : State) (l : LinkSlot) (w : Nat) : (s.moveInWindow l w).still = s.still := by
  unfold State.moveInWindow; dsimp only; (repeat' split) <;> simp

@[simp] theorem still_loseOut (s : State) (l : LinkSlot) (c : PartCode) : (s.loseOut l c).still = s.still := by
  unfold State.loseOut; (repeat' split) <;> simp

@[simp] theorem still_loseIn (s : State) (l : LinkSlot) (c : PartCode) : (s.loseIn l c).still = s.still := by
  unfold State.loseIn; (repeat' split) <;> simp

@[simp] theorem still_closeOut (s : State) (l : LinkSlot) : (s.closeOut l).still = s.still := by
  unfold State.closeOut; (repeat' split) <;> simp

@[simp] theorem still_closeIn (s : State) (l : LinkSlot) : (s.closeIn l).still = s.still := by
  unfold State.closeIn; (repeat' split) <;> simp

/-! ### Link records (R18, R25, R37) -/

@[simp] theorem still_linkActivated (s : State) (l : LinkSlot) : (s.linkActivated l).still = s.still := by
  unfold State.linkActivated; dsimp only; (repeat' split) <;> simp

@[simp] theorem still_linkKeyLost (s : State) (l : LinkSlot) : (s.linkKeyLost l).still = s.still := by
  unfold State.linkKeyLost; dsimp only; (repeat' split) <;> simp

@[simp] theorem still_queueReplacement (s : State) (r : RingIndex) (i : Nat) (st : Byte) (o : FrameOutcome) : (s.queueReplacement r i st o).still = s.still := by
  unfold State.queueReplacement; dsimp only; (repeat' split) <;> simp

@[simp] theorem still_replacementLanded (s : State) (r : RingIndex) (i : Nat) : (s.replacementLanded r i).still = s.still := by
  unfold State.replacementLanded; simp

@[simp] theorem still_clearRing (s : State) (r : Option RingIndex) : (s.clearRing r).still = s.still := by
  unfold State.clearRing; (repeat' split) <;> simp

@[simp] theorem still_emptyKeysOf (s : State) (l : LinkSlot) : (s.emptyKeysOf l).still = s.still := by
  unfold State.emptyKeysOf; simp

@[simp] theorem still_dropNotices (s : State) (l : LinkSlot) : (s.dropNotices l).still = s.still := by
  unfold State.dropNotices; dsimp only; simp

@[simp] theorem still_answerClose (s : State) (l : LinkSlot) : (s.answerClose l).still = s.still := by
  unfold State.answerClose; (repeat' split) <;> simp

@[simp] theorem still_closeLink (s : State) (l : LinkSlot) : (s.closeLink l).still = s.still := by
  unfold State.closeLink; dsimp only; simp

@[simp] theorem still_closeIfDrained (s : State) (l : LinkSlot) : (s.closeIfDrained l).still = s.still := by
  unfold State.closeIfDrained; (repeat' split) <;> simp

@[simp] theorem still_closeDrained (s : State) : (s.closeDrained).still = s.still := by
  exact still_foldl _ still_closeIfDrained _ _

/-! ### Key unit (R106, R113, R117 to R121) -/

@[simp] theorem still_noticeOut (s : State) (l : LinkSlot) (ref : KeyRef) : (s.noticeOut l ref).still = s.still := by
  unfold State.noticeOut; (repeat' split) <;> simp

@[simp] theorem still_noticeIn (s : State) (l : LinkSlot) (ref : KeyRef) : (s.noticeIn l ref).still = s.still := by
  unfold State.noticeIn; (repeat' split) <;> simp

@[simp] theorem still_retireSlot (s : State) (k : KeyIndex) (d : ReportDetail) : (s.retireSlot k d).still = s.still := by
  unfold State.retireSlot; dsimp only; simp

@[simp] theorem still_cutDraining (s : State) (l : LinkSlot) : (s.cutDraining l).still = s.still := by
  unfold State.cutDraining; (repeat' split) <;> simp

@[simp] theorem still_supersede (s : State) (l : LinkSlot) (n : Nat) : (s.supersede l n).still = s.still := by
  unfold State.supersede; dsimp only; (repeat' split) <;> simp

@[simp] theorem still_activate (s : State) (l : LinkSlot) (k : KeyIndex) (c : ActivationCause) : (s.activate l k c).still = s.still := by
  unfold State.activate; dsimp only; simp

@[simp] theorem still_retire (s : State) (k : KeyIndex) (c : RetireCause) : (s.retire k c).still = s.still := by
  unfold State.retire; dsimp only; (repeat' split) <;> simp

@[simp] theorem still_passBoundary (s : State) (l : LinkSlot) : (s.passBoundary l).still = s.still := by
  unfold State.passBoundary; simp

@[simp] theorem still_drainEndTest (s : State) (l : LinkSlot) : (s.drainEndTest l).still = s.still := by
  unfold State.drainEndTest; (repeat' split) <;> simp

@[simp] theorem still_timedActivationTest (s : State) (l : LinkSlot) : (s.timedActivationTest l).still = s.still := by
  unfold State.timedActivationTest; (repeat' split) <;> simp

@[simp] theorem still_overdueTest (s : State) (l : LinkSlot) : (s.overdueTest l).still = s.still := by
  unfold State.overdueTest; dsimp only; (repeat' split) <;> simp

@[simp] theorem still_expiryTest (s : State) (l : LinkSlot) : (s.expiryTest l).still = s.still := by
  unfold State.expiryTest; (repeat' split) <;> simp

@[simp] theorem still_reportDue (s : State) (l : LinkSlot) (k : KeyIndex) (b : Bool) : (s.reportDue l k b).still = s.still := by
  unfold State.reportDue; dsimp only; simp

@[simp] theorem still_dueTest (s : State) (l : LinkSlot) : (s.dueTest l).still = s.still := by
  unfold State.dueTest; dsimp only; (repeat' split) <;> simp

@[simp] theorem still_keyBoundary (s : State) (l : LinkSlot) : (s.keyBoundary l).still = s.still := by
  unfold State.keyBoundary; simp

@[simp] theorem still_sequenceDueTest (s : State) (l : LinkSlot) (k : KeyIndex) : (s.sequenceDueTest l k).still = s.still := by
  unfold State.sequenceDueTest; (repeat' split) <;> simp

@[simp] theorem still_sequenceLimitTest (s : State) (k : KeyIndex) (q : Seq) : (s.sequenceLimitTest k q).still = s.still := by
  unfold State.sequenceLimitTest; (repeat' split) <;> simp

@[simp] theorem still_settleKey (s : State) (k : KeyIndex) (l : LinkSlot) (e : Half) (n : BitVec 64)
    (q : Seq) : (s.settleKey k l e n q).1.still = s.still := by
  unfold State.settleKey; dsimp only; (repeat' split) <;> simp

/-! ### Renewal jobs (R101, R107 to R112) -/

@[simp] theorem still_keepOutcome (s : State) (l : LinkSlot) (c : InContext) : (s.keepOutcome l c).still = s.still := by
  unfold State.keepOutcome; dsimp only; (repeat' split) <;> simp

@[simp] theorem still_enqueueJob (s : State) (j : Job) : (s.enqueueJob j).still = s.still := by
  unfold State.enqueueJob; dsimp only; simp

@[simp] theorem still_handOver (s : State) (l : LinkSlot) : (s.handOver l).still = s.still := by
  unfold State.handOver; (repeat' split) <;> simp

@[simp] theorem still_settleJob (s : State) (j : Job) (c : PartCode) : (s.settleJob j c).still = s.still := by
  unfold State.settleJob; (repeat' split) <;> simp

@[simp] theorem still_removeJob (s : State) (j : Job) : (s.removeJob j).still = s.still := by
  rfl

@[simp] theorem still_endJob (s : State) (j : Job) (c : PartCode) : (s.endJob j c).still = s.still := by
  unfold State.endJob; dsimp only; (repeat' split) <;> simp

@[simp] theorem still_setJob (s : State) (j : Job) : (s.setJob j).still = s.still := by
  rfl

@[simp] theorem still_startJobs (n : Nat) (s : State) : (State.startJobs n s).still = s.still := by
  induction n generalizing s with
  | zero => rfl
  | succ n ih => unfold State.startJobs; (repeat' split) <;> simp [ih]

@[simp] theorem still_finishJob (s : State) (j : Job) (c : PartCode) : (s.finishJob j c).still = s.still := by
  unfold State.finishJob; simp

@[simp] theorem still_kekAnswered (s : State) (i : Nat) (k : KekIndex) (b : Bool) : (s.kekAnswered i k b).still = s.still := by
  unfold State.kekAnswered; dsimp only; (repeat' split) <;> simp

@[simp] theorem still_unwrapReturned (s : State) (i h : Nat) (o : List Byte) : (s.unwrapReturned i h o).still = s.still := by
  unfold State.unwrapReturned; dsimp only; (repeat' split) <;> simp

@[simp] theorem still_unwrapGone (s : State) (i : Nat) : (s.unwrapGone i).still = s.still := by
  unfold State.unwrapGone; (repeat' split) <;> simp

@[simp] theorem still_nextInstallation (s : State) : (s.nextInstallation).still = s.still := by
  unfold State.nextInstallation; dsimp only; (repeat' split) <;> simp

@[simp] theorem still_fillKey (s : State) (j : Job) (c : List Byte) (k : KeyIndex) (f : KeySlot → ReportDetail) : (s.fillKey j c k f).still = s.still := by
  unfold State.fillKey; dsimp only; simp

@[simp] theorem still_activateImmediate (s : State) (j : Job) (k : KeyIndex) : (s.activateImmediate j k).still = s.still := by
  unfold State.activateImmediate; (repeat' split) <;> simp

@[simp] theorem still_replaceKey (s : State) (j : Job) (c : List Byte) (k : KeyIndex) : (s.replaceKey j c k).still = s.still := by
  unfold State.replaceKey; dsimp only; simp

@[simp] theorem still_installKey (s : State) (j : Job) (c : List Byte) (k : KeyIndex) : (s.installKey j c k).still = s.still := by
  unfold State.installKey; simp

@[simp] theorem still_finalStep (s : State) (j : Job) (c : List Byte) : (s.finalStep j c).still = s.still := by
  unfold State.finalStep; (repeat' split) <;> simp

@[simp] theorem still_checkReturned (s : State) (i : Nat) (o : List Byte) : (s.checkReturned i o).still = s.still := by
  unfold State.checkReturned; (repeat' split) <;> simp

/-! ### Inbound engine (R81 to R103) -/

@[simp] theorem still_openInbound (s : State) (l : LinkSlot) (i : Nat) (d : List Byte) : (s.openInbound l i d).still = s.still := by
  unfold State.openInbound; simp

@[simp] theorem still_streamFaultIn (s : State) (l : LinkSlot) : (s.streamFaultIn l).still = s.still := by
  unfold State.streamFaultIn; (repeat' split) <;> simp

@[simp] theorem still_askSelection (s : State) (l : LinkSlot) (c : InContext) (h : Header) (x : FrameClass) : (s.askSelection l c h x).still = s.still := by
  unfold State.askSelection; dsimp only; (repeat' split) <;> simp

@[simp] theorem still_parseIn (s : State) (l : LinkSlot) (c : InContext) : (s.parseIn l c).still = s.still := by
  unfold State.parseIn; dsimp only; (repeat' split) <;> simp

@[simp] theorem still_selectionAnswered (s : State) (l : LinkSlot) (i : Nat) (a : Selection) : (s.selectionAnswered l i a).still = s.still := by
  unfold State.selectionAnswered; dsimp only; (repeat' split) <;> simp

theorem still_takePayload (s : State) (l : LinkSlot) (c : InContext) (h : Header) (o : Nat) (b : Byte)
    {r : State × Byte} (e : s.takePayload l c h o b = some r) : r.1.still = s.still := by
  unfold State.takePayload at e
  (repeat' split at e) <;> simp only [Option.some.injEq, reduceCtorEq] at e <;> subst e <;> simp

theorem still_takeTrailer (s : State) (l : LinkSlot) (c : InContext) (h : Header) (b : Byte)
    {r : State × Byte} (e : s.takeTrailer l c h b = some r) : r.1.still = s.still := by
  unfold State.takeTrailer at e
  (repeat' split at e) <;> simp only [Option.some.injEq, reduceCtorEq] at e <;> subst e <;> simp

@[simp] theorem still_takeHeader (s : State) (l : LinkSlot) (c : InContext) (x : Nat) (b : Byte) : (s.takeHeader l c x b).still = s.still := by
  unfold State.takeHeader; dsimp only; (repeat' split) <;> simp

theorem still_takeByte (s : State) (l : LinkSlot) (c : InContext) (x : Nat) (b : Byte)
    {r : State × Byte} (e : s.takeByte l c x b = some r) : r.1.still = s.still := by
  unfold State.takeByte at e
  (repeat' split at e)
  case _ => cases e
  case _ => cases e; rfl
  case _ => cases e; simp
  case _ => cases e; simp
  case _ => exact still_takePayload _ _ _ _ _ _ e
  case _ => exact still_takeTrailer _ _ _ _ _ e
  case _ => cases e; simp

@[simp] theorem still_storeBytes (l : LinkSlot) (bs : List (Option Byte)) (s : State) (p : Portion) :
    (s.storeBytes l p bs).1.still = s.still := by
  induction bs generalizing s p with
  | nil => rfl
  | cons b bs ih =>
    cases b with
    | none => exact ih s _
    | some b =>
      unfold State.storeBytes
      dsimp only
      split
      · rw [ih]; split <;> simp
      · split
        · rfl
        · rename_i r e
          rw [ih, still_takeByte _ _ _ _ _ e]

@[simp] theorem still_issueL (s : State) (a : Access) : (s.issueL a).still = s.still := by
  unfold State.issueL; dsimp only; simp

@[simp] theorem still_issueBeats (i n : Nat) (s : State) (p : Portion) :
    (s.issueBeats i p n).1.still = s.still := by
  induction n generalizing s p with
  | zero => rfl
  | succ n ih => unfold State.issueBeats; dsimp only; (repeat' split) <;> simp [ih]

@[simp] theorem still_advanceInbound (s : State) (l : LinkSlot) (i : Nat) (p : Portion) :
    (s.advanceInbound l i p).1.still = s.still := by
  unfold State.advanceInbound; simp

@[simp] theorem still_inBlock (s : State) (l : LinkSlot) (i n : Nat) (b : List Byte) : (s.inBlock l i n b).still = s.still := by
  unfold State.inBlock; (repeat' split) <;> simp

@[simp] theorem still_inKeyGone (s : State) (l : LinkSlot) (i : Nat) (ref : KeyRef) : (s.inKeyGone l i ref).still = s.still := by
  unfold State.inKeyGone; (repeat' split) <;> simp

@[simp] theorem still_endSettlement (s : State) (l : LinkSlot) (c : InContext) (x : Byte) (b : Bool) : (s.endSettlement l c x b).still = s.still := by
  unfold State.endSettlement; dsimp only; (repeat' split) <;> simp

@[simp] theorem still_settleWith (s : State) (l : LinkSlot) (c : InContext) (x : PartCode) : (s.settleWith l c x).still = s.still := by
  unfold State.settleWith; simp

@[simp] theorem still_confirm (s : State) (l : LinkSlot) (c : InContext) (q : Seq) : (s.confirm l c q).still = s.still := by
  unfold State.confirm; dsimp only; (repeat' split) <;> simp

@[simp] theorem still_settle (s : State) (l : LinkSlot) (c : InContext) (x : Byte) (n : Nat) : (s.settle l c x n).still = s.still := by
  unfold State.settle; (repeat' split) <;> simp

@[simp] theorem still_filterKeepalive (s : State) (l : LinkSlot) (p : List Byte) :
    (s.filterKeepalive l p).1.still = s.still := rfl

@[simp] theorem still_restartFilter (s : State) (l : LinkSlot) : (s.restartFilter l).still = s.still := by
  unfold State.restartFilter; dsimp only; simp

@[simp] theorem still_recordArrival (s : State) (l : LinkSlot) : (s.recordArrival l).still = s.still := by
  unfold State.recordArrival; dsimp only; simp

@[simp] theorem still_handBeacon (s : State) (l : LinkSlot) (p : List Byte) : (s.handBeacon l p).still = s.still := by
  unfold State.handBeacon; dsimp only; simp

@[simp] theorem still_verified (s : State) (l : LinkSlot) (c : InContext) (x : Byte) : (s.verified l c x).still = s.still := by
  unfold State.verified; dsimp only; (repeat' split) <;> simp

@[simp] theorem still_confirmAnswered (s : State) (l : LinkSlot) (i : Nat) (x : Option PartCode) : (s.confirmAnswered l i x).still = s.still := by
  unfold State.confirmAnswered; (repeat' split) <;> simp

@[simp] theorem still_forceIn (s : State) (l : LinkSlot) : (s.forceIn l).still = s.still := by
  unfold State.forceIn; (repeat' split) <;> simp

/-! ### Outbound engine (R56 to R80) -/

@[simp] theorem still_openSoftware (s : State) (l : LinkSlot) (i : Nat) (d p : List Byte) (c : FrameClass) : (s.openSoftware l i d p c).still = s.still := by
  unfold State.openSoftware; simp

@[simp] theorem still_openSubstituted (s : State) (l : LinkSlot) (i n : Nat) (p : List Byte) : (s.openSubstituted l i n p).still = s.still := by
  unfold State.openSubstituted; simp

@[simp] theorem still_beginRelease (s : State) (l : LinkSlot) (c : OutContext) : (s.beginRelease l c).still = s.still := by
  unfold State.beginRelease; simp

@[simp] theorem still_bindOut (s : State) (l : LinkSlot) (c : OutContext) (ref : KeyRef) (e : Half) (q : Seq) : (s.bindOut l c ref e q).still = s.still := by
  unfold State.bindOut; simp

@[simp] theorem still_releaseWithoutKey (s : State) (l : LinkSlot) (c : OutContext) : (s.releaseWithoutKey l c).still = s.still := by
  unfold State.releaseWithoutKey; (repeat' split) <;> simp

@[simp] theorem still_startFill (s : State) (l : LinkSlot) (a b : Nat) : (s.startFill l a b).still = s.still := by
  unfold State.startFill; dsimp only; (repeat' split) <;> simp

@[simp] theorem still_advanceFill (s : State) (l : LinkSlot) : (s.advanceFill l).still = s.still := by
  unfold State.advanceFill; dsimp only; (repeat' split) <;> simp

@[simp] theorem still_fillData (s : State) (l : LinkSlot) (i : Nat) (b : List Byte) : (s.fillData l i b).still = s.still := by
  unfold State.fillData; (repeat' split) <;> simp

@[simp] theorem still_takePortion (s : State) (l : LinkSlot) (c : OutContext) (p : Portion) : (s.takePortion l c p).still = s.still := by
  unfold State.takePortion; dsimp only; (repeat' split) <;> simp

@[simp] theorem still_withdrawPayload (s : State) (i : Nat) : (s.withdrawPayload i).still = s.still := by
  unfold State.withdrawPayload; dsimp only; simp

@[simp] theorem still_servePortion (s : State) (l : LinkSlot) (i : Nat) (p : Portion) :
    (s.servePortion l i p).1.still = s.still := by
  unfold State.servePortion; dsimp only; (repeat' split) <;> simp

@[simp] theorem still_advanceOutbound (s : State) (l : LinkSlot) (b : Bool) (i n : Nat) (p : Portion) :
    (s.advanceOutbound l b i n p).1.still = s.still := by
  unfold State.advanceOutbound; dsimp only; (repeat' split) <;> first | rfl | simp

@[simp] theorem still_finishOut (s : State) (l : LinkSlot) (x : Byte) : (s.finishOut l x).still = s.still := by
  unfold State.finishOut; dsimp only; (repeat' split) <;> simp

@[simp] theorem still_completeOut (s : State) (l : LinkSlot) (c : OutContext) (r : RingIndex) (x : Byte) : (s.completeOut l c r x).still = s.still := by
  unfold State.completeOut; (repeat' split) <;> simp

@[simp] theorem still_outBlock (s : State) (l : LinkSlot) (i n : Nat) (b : List Byte) : (s.outBlock l i n b).still = s.still := by
  unfold State.outBlock; dsimp only; (repeat' split) <;> simp

@[simp] theorem still_outKeyGone (s : State) (l : LinkSlot) (i : Nat) (ref : KeyRef) : (s.outKeyGone l i ref).still = s.still := by
  unfold State.outKeyGone; (repeat' split) <;> simp

/-! ### Link unit (R30 to R35, R26) -/

@[simp] theorem still_record (s : State) (r : RingIndex) (i : Nat) (h : Option PartCode) (d : List Byte) : (s.record r i h d).still = s.still := by
  unfold State.record; dsimp only; simp

@[simp] theorem still_presentOut (s : State) (r : RingIndex) (l : LinkSlot) (i : Nat) (d : List Byte) :
    (s.presentOut r l i d).1.still = s.still := by
  unfold State.presentOut; dsimp only; (repeat' split) <;> simp

@[simp] theorem still_presentIn (s : State) (r : RingIndex) (l : LinkSlot) (i : Nat) (c : Bool)
    (d : List Byte) : (s.presentIn r l i c d).1.still = s.still := by
  unfold State.presentIn; dsimp only; (repeat' split) <;> simp

@[simp] theorem still_ringFault (s : State) (l : LinkSlot) (a : Nat) : (s.ringFault l a).still = s.still := by
  unfold State.ringFault; simp

@[simp] theorem still_presentRead (s : State) (r : RingIndex) (a : Area) (n : Nat) (d : List Byte)
    (b c : Bool) : (s.presentRead r a n d b c).1.still = s.still := by
  unfold State.presentRead; dsimp only; (repeat' split) <;> simp

theorem still_completeIdle (s : State) (r : RingIndex) (ring : Ring) (i : Nat) (x : Byte) {t : State}
    (e : s.completeIdle r ring i x = some t) : t.still = s.still := by
  unfold State.completeIdle at e
  (repeat' split at e) <;> simp only [Option.some.injEq, reduceCtorEq] at e <;> subst e <;> simp

theorem still_completeSlot (s : State) (r : RingIndex) (ring : Ring) (i : Nat) (x : Byte) (n : Nat)
    {t : State} (e : s.completeSlot r ring i x n = some t) : t.still = s.still := by
  unfold State.completeSlot at e
  (repeat' split at e)
  case _ => cases e
  case _ => cases e; simp
  case _ => exact still_completeIdle _ _ _ _ _ e
  case _ => cases e; simp
  case _ => exact still_completeIdle _ _ _ _ _ e

@[simp] theorem still_completeAll (r : RingIndex) (a : Area) (cs : List (Nat × Byte × Nat)) (s : State)
    (b : Bool) : (s.completeAll r a b cs).1.still = s.still := by
  induction cs generalizing s b with
  | nil => rfl
  | cons c cs ih =>
    obtain ⟨i, x, n⟩ := c
    unfold State.completeAll
    split
    · rename_i t e
      obtain ⟨ring, -, e⟩ := Option.bind_eq_some_iff.mp e
      rw [ih, still_completeSlot _ _ _ _ _ _ e]
    · exact ih s true

@[simp] theorem still_completeWrite (s : State) (r : RingIndex) (a : Area) (n : Nat) (b : List (Option Byte)) : (s.completeWrite r a n b).still = s.still := by
  unfold State.completeWrite; dsimp only; (repeat' split) <;> simp

@[simp] theorem still_loseAtLimit (s : State) (l : LinkSlot) : (s.loseAtLimit l).still = s.still := by
  unfold State.loseAtLimit; simp

@[simp] theorem still_forceOut (s : State) (l : LinkSlot) : (s.forceOut l).still = s.still := by
  unfold State.forceOut; dsimp only; (repeat' split) <;> simp

@[simp] theorem still_forceJobs (s : State) (l : LinkSlot) : (s.forceJobs l).still = s.still := by
  unfold State.forceJobs
  split
  · rfl
  · split
    · rfl
    · exact still_foldl _ (fun s i => by split <;> simp) _ _

/-! ### Ports (R40 to R44) -/

@[simp] theorem still_issue (s : State) (b : Bool) (a : Access) : (s.issue b a).still = s.still := by
  unfold State.issue; dsimp only; simp

@[simp] theorem still_passPortion (s : State) (x y : Bool) (i : Nat) (p : Portion) :
    (s.passPortion x y i p).1.still = s.still := by
  unfold State.passPortion; dsimp only; (repeat' split) <;> simp

@[simp] theorem still_advanceP (s : State) (x : Bool) (i : Nat) (p : Portion) :
    (s.advanceP x i p).1.still = s.still := by
  unfold State.advanceP; dsimp only; (repeat' split) <;> simp

@[simp] theorem still_advanceReadL (s : State) (i n : Nat) (p : Portion) :
    (s.advanceReadL i n p).1.still = s.still := by
  unfold State.advanceReadL; (repeat' split) <;> simp

@[simp] theorem still_advanceWriteL (s : State) (i : Nat) (p : Portion) :
    (s.advanceWriteL i p).1.still = s.still := by
  unfold State.advanceWriteL; (repeat' split) <;> simp

@[simp] theorem still_advance (s : State) (x y z w : Bool) (i n : Nat) (p : Portion) :
    (s.advance x y z w i n p).1.still = s.still := by
  unfold State.advance; (repeat' split) <;> simp

@[simp] theorem still_advanceAll (x y : Bool) (n : Nat) (ps : List Portion) (s : State) (i o : Nat)
    (z w : Bool) : (s.advanceAll x y n i o z w ps).1.still = s.still := by
  induction ps generalizing s i o z w with
  | nil => rfl
  | cons p ps ih => unfold State.advanceAll; dsimp only; rw [ih]; simp

@[simp] theorem still_advanceTransaction (s : State) (b : Bool) (t : Transaction) :
    (s.advanceTransaction b t).1.still = s.still := by
  unfold State.advanceTransaction; simp

@[simp] theorem still_handle (s : State) (b : Bool) : (s.handle b).still = s.still := by
  unfold State.handle; dsimp only; (repeat' split) <;> simp

@[simp] theorem still_runPort (b : Bool) (n : Nat) (s : State) :
    (State.runPort b n s).still = s.still := by
  induction n generalizing s with
  | zero => rfl
  | succ n ih =>
    unfold State.runPort; dsimp only; (repeat' split) <;> first | rfl | simp [ih]

@[simp] theorem still_run (s : State) (b : Bool) : (s.run b).still = s.still := by
  unfold State.run; simp

@[simp] theorem still_resume (s : State) : (s.resume).still = s.still := by
  unfold State.resume; simp

@[simp] theorem still_present (s : State) (b : Bool) (q : BusRequest) : (s.present b q).still = s.still := by
  unfold State.present; dsimp only; simp

@[simp] theorem still_serve (s : State) (b : Bool) (i : Nat) (f : Portion → Portion) : (s.serve b i f).still = s.still := by
  unfold State.serve; dsimp only; (repeat' split) <;> simp

end Sys2Proof.Machine
end

