-- ==== Sys2Proof/Laws/Commands.lean ====
section
/-! SUPPORT. The commands of the ring as claims use them: what the one-byte arguments name, when a command is
carried out, what the store's queue takes, and how a step ends when nothing is held. -/

namespace Sys2Proof.Machine

/-! ### Arguments (12.4) -/

theorem linkArg_eq_none {b : Byte} (h : 8 ≤ b.toNat) : linkArg b = none := by
  unfold linkArg
  rw [dif_neg (by omega)]

theorem linkArg_eq_some {b : Byte} {l : LinkSlot} (h : b.toNat = l.val) : linkArg b = some l := by
  have := l.isLt
  unfold linkArg
  rw [dif_pos (by omega)]
  exact congrArg some (Fin.ext h)

theorem kekArg_eq_none {b : Byte} (h : 4 ≤ b.toNat) : kekArg b = none := by
  unfold kekArg
  rw [dif_neg (by omega)]

theorem kekArg_eq_some {b : Byte} {k : KekIndex} (h : b.toNat = k.val) : kekArg b = some k := by
  have := k.isLt
  unfold kekArg
  rw [dif_pos (by omega)]
  exact congrArg some (Fin.ext h)

theorem directionArg_directionByte (inbound : Bool) :
    directionArg (directionByte inbound) = some inbound := by cases inbound <;> rfl

theorem directionArg_eq_none {b : Byte} (h : 2 ≤ b.toNat) : directionArg b = none := by
  unfold directionArg
  split
  · subst b; simp at h
  · split
    · subst b; simp at h
    · rfl

theorem bindingArg_bindingByte (k : Option KekIndex) : bindingArg (bindingByte k) = some k := by
  revert k; decide

/-! ### Carrying out (R179) -/

theorem carryOut_of_offered {s : State} {c : Instr} {r : List Byte} {stamp : Seq}
    (h : s.offered c = some (r, stamp)) (f : State → Answer) :
    s.carryOut c f = (f s).1.answer r (f s).2.1 (f s).2.2 := by
  simp [State.carryOut, h]

theorem carryOut_of_not_offered {s : State} {c : Instr} (h : s.offered c = none)
    (f : State → Answer) : s.carryOut c f = s := by
  simp [State.carryOut, h]

/-! ### The store's queue (R127) -/

@[simp] theorem RetainedStore.ask_slots (x : RetainedStore) (r : StoreRequest) :
    (x.ask r).slots = x.slots := rfl
@[simp] theorem RetainedStore.ask_erasures (x : RetainedStore) (r : StoreRequest) :
    (x.ask r).erasures = x.erasures := rfl
@[simp] theorem RetainedStore.ask_marker (x : RetainedStore) (r : StoreRequest) :
    (x.ask r).marker = x.marker := rfl
@[simp] theorem RetainedStore.ask_staging (x : RetainedStore) (r : StoreRequest) :
    (x.ask r).staging = x.staging := rfl
@[simp] theorem RetainedStore.tookHead_slots (x : RetainedStore) (r : StoreRequest)
    (rest : List StoreRequest) : (x.tookHead r rest).slots = x.slots := rfl
@[simp] theorem RetainedStore.tookHead_erasures (x : RetainedStore) (r : StoreRequest)
    (rest : List StoreRequest) : (x.tookHead r rest).erasures = x.erasures := rfl
@[simp] theorem RetainedStore.tookHead_marker (x : RetainedStore) (r : StoreRequest)
    (rest : List StoreRequest) : (x.tookHead r rest).marker = x.marker := rfl
@[simp] theorem RetainedStore.tookHead_staging (x : RetainedStore) (r : StoreRequest)
    (rest : List StoreRequest) : (x.tookHead r rest).staging = x.staging := rfl

/-- The KEK of a reference whose slot has been erased since is gone, whatever has been loaded there (R133). -/
theorem usableKek_after_erase (s : State) {k : KekIndex} {n : Nat} (h : s.erasures k ≠ n) :
    s.usableKek (.kek k n) = none := by simp [State.usableKek, h]

/-- A reference to the KEK that a usable slot holds gives its key (R16, R128). -/
theorem usableKek_current (s : State) {k : KekIndex} (h : s.kekUsable k = true) :
    s.usableKek (s.kekRef k) = some (s.kek k).key := by
  simp [State.usableKek, State.kekRef, h]

/-- Keeping a fetched key changes the engine alone. -/
theorem keepFetched_engine (s : State) (k : KekIndex) :
    ∃ e, s.keepFetched k = s.setEngine e := by
  unfold State.keepFetched
  (repeat' split) <;> exact ⟨_, rfl⟩

/-- A requester owes when a request of its own is queued or waits. -/
theorem RetainedStore.owes_iff (x : RetainedStore) (q : StoreRequester) :
    x.owes q = true ↔ ∃ r ∈ x.requests ++ x.waiting, r.requester = q := by
  simp [RetainedStore.owes, or_and_right, exists_or]

/-- Nothing is taken from a list in which nothing passes the test. -/
theorem takeFirst_eq_none {α : Type} {p : α → Bool} {xs : List α} (h : ∀ x ∈ xs, p x = false) :
    takeFirst p xs = none := by
  induction xs with
  | nil => rfl
  | cons x xs ih =>
    simp [takeFirst, h x (by simp), ih (fun y hy => h y (by simp [hy]))]

/-- The first element that passes the test is taken out of the list. -/
theorem takeFirst_append {α : Type} {p : α → Bool} {before rest : List α} {x : α}
    (h : ∀ y ∈ before, p y = false) (hx : p x = true) :
    takeFirst p (before ++ x :: rest) = some (x, before ++ rest) := by
  induction before with
  | nil => simp [takeFirst, hx]
  | cons y ys ih =>
    simp [takeFirst, h y (by simp), ih (fun z hz => h z (by simp [hz]))]

/-! ### Endings (R25, R41) -/

theorem runPort_of_idle {s : State} {onL : Bool} (n : Nat) (h : (s.port onL).current = none)
    (h' : (s.port onL).presented = []) : State.runPort onL n s = s := by
  cases n <;> simp [State.runPort, h, h']

/-- A port with nothing inside and nothing presented does nothing. -/
theorem run_of_quiet {s : State} {onL : Bool} (h : (s.port onL).quiet = true) : s.run onL = s := by
  simp only [Port.quiet, Bool.and_eq_true, Option.isNone_iff_eq_none, List.isEmpty_iff] at h
  exact runPort_of_idle _ h.1.1 h.1.2

/-- With no drained link none closes. -/
theorem closeDrained_of_none {s : State} (h : ∀ l, s.drained l = false) : s.closeDrained = s := by
  have all : ∀ ls : List LinkSlot, ls.foldl State.closeIfDrained s = s := by
    intro ls
    induction ls with
    | nil => rfl
    | cons a ls ih =>
      have : s.closeIfDrained a = s := by simp [State.closeIfDrained, h]
      rw [List.foldl_cons, this, ih]
  exact all _

/-- A step's ending changes nothing when port L is quiet and no link has drained. -/
theorem resume_of_quiet {s : State} (h : (s.port true).quiet = true)
    (h' : ∀ l, s.drained l = false) : s.resume = s := by
  unfold State.resume
  rw [run_of_quiet h, closeDrained_of_none h']

end Sys2Proof.Machine
end

