-- ==== Sys2Proof/Laws/Memory.lean ====
section
/-! SUPPORT. Frame memory: every operation keeps the canonical form, and what a read gives after a write. -/

namespace Sys2Proof.Machine

theorem memWfFrom_of_le {lo lo' : Nat} (h : lo ≤ lo') :
    ∀ {m : List Host.Cell}, memWfFrom lo' m = true → memWfFrom lo m = true
  | [], _ => rfl
  | (a, v) :: m, w => by
    simp only [memWfFrom, Bool.and_eq_true, decide_eq_true_eq] at w ⊢
    exact ⟨⟨by omega, w.1.2⟩, w.2⟩

theorem memWfFrom_memWrite (v : Byte) : ∀ {m : List Host.Cell} {lo a : Nat}, lo ≤ a →
    memWfFrom lo m = true → memWfFrom lo (memWrite m a v) = true
  | [], lo, a, h, _ => by
    unfold memWrite
    split
    · rfl
    · rename_i hv
      simp [memWfFrom, h, hv]
  | (b, w) :: m, lo, a, h, hm => by
    have hm' := hm
    simp only [memWfFrom, Bool.and_eq_true, decide_eq_true_eq] at hm
    obtain ⟨⟨hlo, hw⟩, hrest⟩ := hm
    unfold memWrite
    split
    · rename_i hab
      split
      · exact hm'
      · rename_i hv
        simp only [memWfFrom, Bool.and_eq_true, decide_eq_true_eq, bne_iff_ne, ne_eq]
        exact ⟨⟨h, hv⟩, ⟨by omega, by simpa using hw⟩, hrest⟩
    · split
      · rename_i hab
        split
        · exact memWfFrom_of_le (by omega) hrest
        · rename_i hv
          simp only [memWfFrom, Bool.and_eq_true, decide_eq_true_eq, bne_iff_ne, ne_eq]
          exact ⟨⟨h, hv⟩, by subst hab; exact hrest⟩
      · rename_i h1 h2
        simp only [memWfFrom, Bool.and_eq_true, decide_eq_true_eq]
        exact ⟨⟨hlo, hw⟩, memWfFrom_memWrite v (by omega) hrest⟩

/-- A byte written keeps the canonical form. -/
theorem memWf_memWrite {m : List Host.Cell} (a : Nat) (v : Byte) (h : memWf m = true) :
    memWf (memWrite m a v) = true :=
  memWfFrom_memWrite v (Nat.zero_le a) h

/-- Bytes written keep the canonical form. -/
theorem memWf_memWriteBytes : ∀ (bytes : List (Option Byte)) {m : List Host.Cell} (a : Nat),
    memWf m = true → memWf (memWriteBytes m a bytes) = true
  | [], _, _, h => h
  | none :: bs, _, a, h => memWf_memWriteBytes bs (a + 1) h
  | some v :: bs, _, a, h => memWf_memWriteBytes bs (a + 1) (memWf_memWrite a v h)

theorem lookup_of_memWfFrom {b : Nat} : ∀ {m : List Host.Cell} {lo : Nat}, memWfFrom lo m = true →
    b < lo → m.lookup b = none
  | [], _, _, _ => rfl
  | (a, v) :: m, lo, h, hb => by
    simp only [memWfFrom, Bool.and_eq_true, decide_eq_true_eq] at h
    have : (b == a) = false := by simp; omega
    simp only [List.lookup_cons, this]
    exact lookup_of_memWfFrom h.2 (by omega)

theorem memRead_cons (b a : Nat) (v : Byte) (m : List Host.Cell) :
    memRead ((a, v) :: m) b = if b = a then v else memRead m b := by
  unfold memRead
  by_cases h : b = a
  · subst h; simp
  · have : (b == a) = false := by simp [h]
    simp [List.lookup_cons, this, h]

theorem memRead_memWriteFrom (v : Byte) (b : Nat) : ∀ {m : List Host.Cell} {lo a : Nat},
    memWfFrom lo m = true → memRead (memWrite m a v) b = if b = a then v else memRead m b
  | [], lo, a, _ => by
    unfold memWrite
    split
    · rename_i hv
      subst hv
      split <;> rfl
    · rw [memRead_cons]
  | (c, w) :: m, lo, a, h => by
    have h' := h
    simp only [memWfFrom, Bool.and_eq_true, decide_eq_true_eq] at h
    unfold memWrite
    split
    · rename_i hac
      split
      · rename_i hv
        split
        · rename_i hb
          have : memRead ((c, w) :: m) b = unwritten := by
            unfold memRead
            rw [lookup_of_memWfFrom (lo := c) (by
              simp only [memWfFrom, Bool.and_eq_true, decide_eq_true_eq]
              exact ⟨⟨Nat.le_refl c, h.1.2⟩, h.2⟩) (by omega)]
            rfl
          rw [this, hv]
        · rfl
      · rw [memRead_cons]
    · split
      · rename_i hac
        subst hac
        split
        · rename_i hv
          rw [memRead_cons]
          split
          · rename_i hb
            unfold memRead
            rw [lookup_of_memWfFrom h.2 (by omega), hv]
            rfl
          · rfl
        · rw [memRead_cons, memRead_cons]
          split <;> rfl
      · rename_i h1 h2
        rw [memRead_cons, memRead_cons, memRead_memWriteFrom v b h.2]
        split
        · rename_i hb
          rw [if_neg (by omega)]
        · rfl

/-- A read after a write of one byte, in canonical memory. -/
theorem memRead_memWrite {m : List Host.Cell} (a : Nat) (v : Byte) (b : Nat)
    (h : memWf m = true) : memRead (memWrite m a v) b = if b = a then v else memRead m b :=
  memRead_memWriteFrom v b h

/-- A read after a write of bytes: the byte written there, or what the address held. -/
theorem memRead_memWriteBytes (b : Nat) : ∀ (bytes : List (Option Byte)) {m : List Host.Cell}
    (a : Nat), memWf m = true →
    memRead (memWriteBytes m a bytes) b = (writtenByte a bytes b).getD (memRead m b)
  | [], m, a, _ => by simp [memWriteBytes, writtenByte]
  | o :: bs, m, a, h => by
    have tail : ∀ {n : List Host.Cell}, memWf n = true →
        memRead (memWriteBytes n (a + 1) bs) b =
          (writtenByte (a + 1) bs b).getD (memRead n b) :=
      fun hn => memRead_memWriteBytes b bs (a + 1) hn
    have step : writtenByte a (o :: bs) b = if b = a then o else writtenByte (a + 1) bs b := by
      unfold writtenByte
      by_cases hb : b = a
      · subst hb; simp
      · rw [if_neg hb]
        by_cases hle : a ≤ b
        · have e : b - a = (b - (a + 1)) + 1 := by omega
          rw [if_pos hle, if_pos (by omega), e]
          simp
        · rw [if_neg hle, if_neg (by omega)]
    have out : writtenByte (a + 1) bs a = none := by
      unfold writtenByte
      rw [if_neg (by omega)]
    rw [step]
    cases o with
    | none =>
      rw [memWriteBytes, tail h]
      split
      · rename_i hb
        rw [hb, out]
      · rfl
    | some v =>
      rw [memWriteBytes, tail (memWf_memWrite a v h), memRead_memWrite a v b h]
      split
      · rename_i hb
        rw [hb, out]
        rfl
      · rfl

end Sys2Proof.Machine
end

