-- ==== Sys2Proof/Laws/Grant.lean ====
section
/-! SUPPORT. A grant of port M: it is the one step that writes frame memory, and it keeps its canonical
form. -/

namespace Sys2Proof.Machine

/-- Two states alike in what the engines leave alone have the same frame memory. -/
theorem memory_eq_of_still {s t : State} (h : s.still = t.still) : s.memory = t.memory :=
  congrArg Still.memory h

/-- An access writes its enabled bytes at its address; a read writes nothing. -/
theorem memory_performAccess (s : State) (onL : Bool) (a : Access) :
    (s.performAccess onL a).memory =
      match a.write with
      | some bytes => memWriteBytes s.memory a.address bytes
      | none => s.memory := by
  unfold State.performAccess
  cases a.write with
  | some bytes =>
    dsimp only
    rw [memory_eq_of_still (still_serve _ _ _ _)]
  | none =>
    dsimp only
    rw [memory_eq_of_still (still_serve _ _ _ _)]
    split
    · rw [memory_eq_of_still (still_presentRead _ _ _ _ _ _ _)]
    · rfl

theorem memWf_performAccess (s : State) (onL : Bool) (a : Access) (h : memWf s.memory = true) :
    memWf (s.performAccess onL a).memory = true := by
  rw [memory_performAccess]
  split
  · exact memWf_memWriteBytes _ _ h
  · exact h

theorem memWf_grantPort (s : State) (onL : Bool) (h : memWf s.memory = true) :
    memWf (s.grantPort onL).memory = true := by
  unfold State.grantPort
  split
  · exact h
  · rw [memory_eq_of_still (still_run _ _)]
    apply memWf_performAccess
    cases onL <;> exact h

@[simp] theorem memory_admitWrite (s : State) (w : InternalWrite) :
    (s.admitWrite w).memory = s.memory := by
  unfold State.admitWrite
  dsimp only
  split <;> rfl

@[simp] theorem memory_admitWaitingWrite (s : State) : s.admitWaitingWrite.memory = s.memory := by
  unfold State.admitWaitingWrite
  split <;> simp

@[simp] theorem memory_admitWaitingRead (s : State) : s.admitWaitingRead.memory = s.memory := by
  unfold State.admitWaitingRead
  split <;> rfl

/-- The internal master's granted request writes its bytes, or nothing for a read. -/
theorem memory_grantInternal (s : State) :
    s.grantInternal.memory = s.memory ∨
      ∃ w ∈ s.internal.writes,
        s.grantInternal.memory = memWriteBytes s.memory w.address (w.bytes.map some) := by
  unfold State.grantInternal
  split
  · exact .inl rfl
  · split
    · exact .inl rfl
    · left; simp
  · split
    · exact .inl rfl
    · rename_i w rest e
      right
      exact ⟨w, by rw [e]; exact List.mem_cons_self .., by simp⟩

theorem memWf_grantInternal (s : State) (h : memWf s.memory = true) :
    memWf s.grantInternal.memory = true := by
  rcases memory_grantInternal s with e | ⟨w, _, e⟩ <;> rw [e]
  · exact h
  · exact memWf_memWriteBytes _ _ h

/-- A grant of port M keeps frame memory in its canonical form. -/
theorem memWf_grant (s : State) (h : memWf s.memory = true) : memWf s.grant.memory = true := by
  unfold State.grant
  split
  · exact h
  · exact memWf_grantPort _ _ h
  · exact memWf_grantPort _ _ h
  · exact memWf_grantInternal _ h

end Sys2Proof.Machine
end

