-- ==== Sys2Proof/Tests/Slice0.lean ====
section
/-! SUPPORT. The model's own tests: what the check on commands refuses, worked values, and for every statement
that has hypotheses a state and operands that meet them, with what the step then gives. -/

namespace Sys2Proof.Tests
open Sys2Proof Sys2Proof.Machine
set_option Elab.async false

/-! ### Small states -/

/-- The next state, or the state itself where the command stops. -/
def after (c : Instr) (s : State) : State :=
  match exec c s with
  | .next t => t
  | .fault _ => s
  | .refused _ => s

/-- Whether a command stops. -/
def stops (c : Instr) (s : State) : Bool :=
  match exec c s with
  | .next _ => false
  | .fault _ => true
  | .refused _ => true

/-- The part after reset, its first report written. -/
def bench : State := { State.reset with reports := ReportUnit.reset }

/-- A command dispatched at raw tick 5 from entry 0. -/
def dispatch (c : Instr) (s : State) : State :=
  { s with command := ⟨[0], some ⟨0, .dispatched ((encodeRecord c).getD []) 5⟩⟩ }

/-- A command of the store dispatched, its request at the head of the store's queue. -/
def atStore (c : Instr) (s : State) : State :=
  { dispatch c s with store := { s.store with requests := [.command] } }

/-- The command is offered, and this is the result code its step queues; 0xFF when it answers nothing. -/
def resultOf (c : Instr) (s : State) : Byte :=
  match (after c s).internal.writes.getLast? with
  | some w => byteAt w.bytes 2
  | none => 0xFF

/-- A loaded KEK slot. -/
def loadedKek : KekSlot := ⟨.loaded, List.replicate 32 7, 40, 25⟩

/-- A descriptor: control byte, length, pointer, hold-off. -/
def descriptor (control : Byte) (len pointer holdOff : Nat) : List Byte :=
  [0, control] ++ leBytes 2 len ++ leBytes 4 pointer ++ leBytes 2 holdOff ++ zeroes 6

/-- The configured link 0 in a state. -/
def shopLink (st : LinkState) : Link :=
  { Link.reset with
    state := st, wireId := some 0x0210, keepalive := 30, grace := 60, kek := some 0,
    outRing := some 0, inRing := some 1, transmit := some ⟨0x100000, 0x10000⟩,
    receive := some ⟨0x200000, 0x10000⟩, openStamp := some 0 }

/-- A part with link 0 configured, its regions in the map, KEK slot 0 loaded. -/
def shop (st : LinkState) : State :=
  let s := { bench with
    links := bench.links.set 0 (shopLink st)
    rings := (bench.rings.set 0 (some ⟨0, true, 0x300000, List.replicate 4 SlotRecord.clear⟩)).set 1
      (some ⟨0, false, 0x301000, List.replicate 4 SlotRecord.clear⟩)
    phantom := some 0x303000
    store := { bench.store with slots := bench.store.slots.set 0 loadedKek } }
  { s with steering := { s.steering with map := s.ownMap } }

/-- A key of link 0 in a state. -/
def sessionKey (st : KeyState) (epoch : Half) : KeySlot :=
  { KeySlot.empty with
    state := st, epoch, installation := 1, key := List.replicate 32 3, activation := some 100,
    lifetime := 1000, overlap := 5, earlyGrace := 10, nextSequence := 1,
    age := if st.isCurrent then some 7 else none
    drain := if st = .draining then some 3 else none }

/-- The KEYED part with an ACTIVE key in slot 2. -/
def keyed : State := (shop .keyed).setKey 2 (sessionKey .active 4)

/-- An outbound context on slot 0 of link 0. -/
def sending : OutContext :=
  OutContext.fresh 9 0 0x100004 20 .data true false [] (descriptor 0x88 44 0x100004 0)

/-- An inbound context on slot 0 of link 0, its header parsed. -/
def receiving (cls : Byte) (epoch : Half) : InContext :=
  { InContext.fresh 9 0 0x200004 600 with
    next := 16, header := some ⟨1, cls, 0x0210, 8, epoch, 3⟩,
    headerBytes := [1, cls] ++ leBytes 2 0x0210 ++ leBytes 2 8 ++ leBytes 2 epoch.toNat ++
      leBytes 6 3 ++ zeroes 2 }

/-- Both slots 0 have a presented copy. -/
def withCopies (s : State) : State :=
  (s.setSlot 0 0 { SlotRecord.clear with copy := some (descriptor 0x88 20 0x100004 0) }).setSlot 1 0
    { SlotRecord.clear with copy := some (descriptor 0x88 600 0x200004 0) }

/-! ### The check on commands -/

theorem test_read_of_no_beat_is_ill_formed : (Instr.portPRead 0 0).wellFormed = false := by decide
theorem test_read_of_nine_beats_is_ill_formed : (Instr.portLRead 0 9).wellFormed = false := by
  decide
theorem test_read_past_the_space_is_ill_formed :
    (Instr.portPRead 0xFFFFFFF8 2).wellFormed = false := by decide
theorem test_write_of_part_beats_is_ill_formed :
    (Instr.portPWrite 0 (List.replicate 7 none)).wellFormed = false := by decide
theorem test_write_past_the_space_is_ill_formed :
    (Instr.portLWrite 0xFFFFFFFF (List.replicate 16 none)).wellFormed = false := by decide
theorem test_short_mask_is_ill_formed :
    (Instr.configLink 0 1 64 0 0 0 [1, 2]).wellFormed = false := by decide
theorem test_part_byte_2_is_no_part_1 :
    (Instr.loadKekPart1 2 0 (List.replicate 16 0) 0).wellFormed = false := by decide
theorem test_short_half_is_ill_formed :
    (Instr.loadKekPart2 0 [1] 0).wellFormed = false := by decide

/-! ### Worked values -/

/-- FIPS-197, appendix C.3 (log 12). -/
theorem test_block_transform :
    blockTransform ((List.range 32).map (BitVec.ofNat 8)) ((List.range 16).map
      (fun i => BitVec.ofNat 8 (17 * i))) =
      [0x8e, 0xa2, 0xb7, 0xca, 0x51, 0x67, 0x45, 0xbf, 0xea, 0xfc, 0x49, 0x90, 0x4b, 0x49, 0x60,
        0x89] := by decide +kernel

/-- The worked example of 1.5. -/
theorem test_tag_of_the_worked_example :
    ((({ Tag.start with keys := some (1000003, 100) } : Tag).absorbAll
      [1, 2, 3, 4, 5, 6]).finish).value = some 1950324322928399519 := by decide +kernel

/-- The first boundaries of the worked example of 8.4. -/
theorem test_boundaries_of_the_worked_slew :
    let t : TimeBase := { TimeBase.reset with c := 655, f := 572, s := 100 }
    (t.boundary.f, t.boundary.s, t.boundary.length) = (203, 68, 32737) ∧
      (t.boundary.boundary.boundary.boundary.f, t.boundary.boundary.boundary.boundary.length) =
        (120, 32765) := by decide

/-- The next state of a step, or the state itself where it stops. -/
def stepped (s : State) : State :=
  match step s with
  | .next t => t
  | .fault _ => s
  | .refused _ => s

theorem test_step_runs_the_front :
    let t := stepped { bench with pending := [.retainFall, .nop] }
    t.pending = [.nop] ∧ t.store.marker = .parked := by decide +kernel

/-! ### Witnesses: steps, records, reset -/

theorem test_StepRunsTheFrontCommand : bench.pending = [] := by decide

theorem test_OnlyMalformedTransactionsStop :
    (Instr.portLRead 0xFFFFFFC0 8).wellFormed = true ∧
      stops (.portPRead 0 0) bench ∧ stops (.portLRead 0 9) bench ∧
      stops (.portPRead 0xFFFFFFFF 2) bench ∧ stops (.portPRead 0xFFFFFFF8 1) bench = false ∧
      stops (.portPWrite 0 (List.replicate 7 none)) bench ∧ stops (.portLWrite 0 []) bench ∧
      stops (.portLWrite 0 (List.replicate 72 none)) bench ∧
      stops (.portPWrite 0xFFFFFFF8 (List.replicate 16 none)) bench := by decide +kernel

theorem test_CommandRecordsDecodeToTheirCommand :
    let c := Instr.loadKekPart1 1 3 (List.replicate 16 0xAB) 0x123456789ABC
    c.wellFormed = true ∧ (encodeRecord c).bind decodeRecord = some c := by decide +kernel

theorem test_EntriesDecodeToWellFormedCommands :
    (decodeRecord (0x01 :: 0x14 :: zeroes 30)).isSome = true ∧
      (decodeRecord (0x01 :: 0x01 :: zeroes 30)).isSome = true ∧
      decodeRecord (0x01 :: 0x00 :: zeroes 30) = none ∧
      decodeRecord (0x01 :: 0x15 :: zeroes 30) = none ∧
      (0x01#8 :: 0x15 :: zeroes 30).length = 32 := by decide +kernel

theorem test_ReportRecordLayout :
    recordBytes ⟨.keyReplaced 5 [1, 2, 3, 4, 5, 6, 7, 8], some 3, 2⟩ 9 true 0x01020304 =
      [1, 3, 3, 2, 9, 0, 1, 0, 4, 3, 2, 1, 5, 0, 1, 2, 3, 4, 5, 6, 7, 8] ++ zeroes 10 ∧
    (recordBytes ⟨.keyInstalled 5 [1, 2, 3, 4, 5, 6, 7, 8] none, none, 0⟩ 0 false 0).length = 32 ∧
    byteAt (recordBytes ⟨.ringFault 8, none, 0⟩ 0 false 0) 2 = 0xFF := by decide +kernel

theorem test_ResetLineResetsAndReleases :
    bench.lines.powered = true ∧ ({ bench with lines := ⟨false, false, true, true⟩ } : State).lines.powered
      = false ∧ (∀ onL, (bench.port onL).quiet = true) ∧ (∀ l, bench.drained l = false) ∧
      (after (.warmReset 2) (after (.portLRead 0x40 2) bench)).steering.l.answered =
        some (.data (zeroes 16)) ∧
      (after (.warmReset 2) (after (.portPWrite 0x40 (List.replicate 8 none))
        bench)).steering.p.answered = some .acknowledged ∧
      (after (.warmReset 2) bench).steering.map.anchor = 0x02000000 := by decide +kernel

/-- A block of the outbound frame of link 0 is requested under a key. -/
def asking (key : CipherKey) : CipherRequest := ⟨.outbound 0, 9, .block 1, List.replicate 16 1, key⟩

/-- The key of slot 2. -/
def inForce : CipherKey := .held (.session 2 0 4 1)

/-- Link 0 has an outbound frame under the key in force; its request waits, and the engine stands as given. -/
def ciphering (key : CipherKey) (engine : Engine) : State :=
  let s := keyed.setLink 0 { keyed.link 0 with
    outContext := some { sending with
      keyRef := some (.session 2 0 4 1), keystream := ⟨1, [], []⟩ }
    inContext := some { receiving 0 4 with
      keyRef := some (.session 2 0 4 1), keystream := ⟨1, [], []⟩ } }
  { s with cipher := ⟨s.cipher.queues.set 0 (if engine = .free then [asking key] else []), engine,
    16⟩ }

/-- The part without main power, its store in three conditions. -/
def dark (lost : Bool) (m : Marker) : State :=
  { bench with
    lines := ⟨false, false, true, true⟩
    store := { bench.store with
      slots := bench.store.slots.set 1 loadedKek, cellsLost := lost, marker := m } }

theorem test_PowerOnChecksTheStore :
    (dark true .live).lines.powered = false ∧
      ((after (.powerOn 1) (dark true .parked)).kek 1).state = .invalid ∧
      ((after (.powerOn 1) (dark false .parked)).kek 1) = loadedKek ∧
      (after (.powerOn 1) (dark false .parked)).reports.queue = [] ∧
      ((after (.powerOn 1) (dark false .live)).kek 1).state = .invalid ∧
      (after (.powerOn 1) (dark false .live)).reports.queue =
        [⟨.storeInvalid false [false, true, false, false], none, 0⟩] ∧
      (let t := after (.powerOn 1) { ciphering (.held (.kek 0 0)) .free with
        lines := ⟨false, false, true, true⟩, completions := [.landed (.record 3)] }
      t.cipher = CipherUnit.reset ∧ t.completions = [] ∧ t.phantom = none) := by
  decide +kernel

theorem test_RetainAndSupplyLines :
    bench.lines.powered = true ∧ bench.store.marker = .live ∧
      (after .retainFall bench).store.marker = .parked ∧
      (after .retainRise (after .retainFall bench)).store.marker = .live ∧
      (shop .keyed).store.requests = [] ∧ (shop .keyed).store.slots =
        (after .mainPowerLoss (shop .keyed)).store.slots ∧
      (after .vstbyLoss (dark false .live)).store.cellsLost = true ∧
      (after .vstbyLoss bench).store = bench.store ∧
      (after .mainPowerLoss (after .vstbyLoss bench)).store.cellsLost = true ∧
      (after .mainPowerLoss bench).store.cellsLost = false ∧
      (let t := after .mainPowerLoss (after (.portLRead 0x500 1) (ciphering (.held (.kek 0 0)) .free))
      t.cipher = CipherUnit.reset ∧ (∀ r, t.ring r = none) ∧ t.steering.map.ranges = [(0, 1024)] ∧
        t.steering.l.quiet = true) := by decide +kernel

theorem test_torn_commit :
    let s := (shop .keyed).askStore (.transmitCommit 0 9 0)
    s.lines.powered = true ∧ s.store.marker = .live ∧ (s.kek 0).state = .loaded ∧
      (s.kek 0).transmit ≠ BitVec.allOnes 48 := by decide +kernel

/-! ### Witnesses: the bus -/

theorem test_PlainTransactionsWaitAtPortM :
    bench.accepts = true ∧ (∀ onL, (bench.port onL).quiet = true) ∧
      bench.beatsIn 0xFFFFFFC0 8 .unwatched = true ∧ bench.beatsIn 0x3F8 1 .commandRing = true ∧
      Place.isPlain true true .commandRing = true ∧ Place.isPlain false false .commandRing = true ∧
      Place.isPlain true false .unwatched = true ∧
      (after (.portPRead 0x47 8) bench).steering.p.accesses = [⟨0, .plain, 0x40, 8, none⟩] := by
  decide +kernel

/-- A read of port P and one of port L wait at port M. -/
def waiting : State := after (.portLRead 0x500 1) (after (.portPRead 0x400 1) bench)

theorem test_PortMGrantIsRoundRobin :
    bench.granted = none ∧ waiting.arbiter = .internal ∧ waiting.granted = some .p ∧
      (after .portMGrant waiting).granted = some .l ∧
      (after .portMGrant (after .portMGrant waiting)).granted = none := by decide +kernel

/-- A write of one beat with two bytes enabled waits at port M. -/
def writing (onL : Bool) : State :=
  let w := [some 0x11, none, some 0x22, none, none, none, none, none]
  if onL then after (.portLWrite 0x400 w) bench else after (.portPWrite 0x400 w) bench

theorem test_GrantedPlainAccess :
    (waiting.port false).accesses = [⟨0, .plain, 0x400, 1, none⟩] ∧
      (waiting.port false).presented = [] ∧ waiting.granted = some .p ∧
      ((waiting.port false).current.map (fun x => (x.request.isRead, x.portions.map
        (fun p => (p.started, p.done, p.beats))))) = some (true, [(true, false, 1)]) ∧
      (writing true).granted = some .l ∧ memWf (writing true).memory = true ∧
      (after .portMGrant (writing true)).memory = [(0x400, 0x11), (0x402, 0x22)] ∧
      (after .portMGrant (writing false)).steering.p.answered = some .acknowledged ∧
      (after .portMGrant waiting).steering.p.answered = some (.data (zeroes 8)) := by
  decide +kernel

/-- A record's write and a fetch's read wait in the internal master. -/
def owing (write : Bool) : State :=
  if write then bench.queueWrite ⟨0x800, [1, 2], .record 3, none⟩
  else bench.queueRead ⟨0x800, 4, .fetch 7⟩

theorem test_InternalMasterRequests :
    (owing true).granted = some .internal ∧ (owing true).internal.presenting = some .writes ∧
      (owing false).granted = some .internal ∧ (owing false).internal.presenting = some .reads ∧
      (owing true).internal.waitingWrites = [] ∧ (owing false).internal.waitingReads = [] ∧
      (after .portMGrant (owing true)).memory = [(0x800, 1), (0x801, 2)] ∧
      (after .portMGrant (owing true)).completions = [.landed (.record 3)] ∧
      (after .portMGrant (owing false)).completions = [.data (.fetch 7) (zeroes 32)] := by
  decide +kernel

theorem test_ObservationsOfAWrite :
    let p : Portion := ⟨.commandRing, 0x3C0, 8, some 1 :: List.replicate 63 (some 9), false, false,
      [], none, [], 0, false, 0, false⟩
    p.start % 1024 + p.bytes.length ≤ 1024 ∧
      observations p = [.commandWrite 30 1, .commandWrite 31 9] ∧
      observations { p with place := .reportRing 2 0x380 } =
        [.reportWrite 2 2 1, .reportWrite 2 3 9] ∧
      observations { p with place := .unwatched } = [] := by decide +kernel

theorem test_TrafficAnsweredByThePart :
    let s := shop .keyed
    s.accepts = true ∧ s.steering.l.quiet = true ∧ s.steering.p.quiet = true ∧
      s.beatsIn 0x200000 8 (.receiveGuard 0) = true ∧ s.strayRead (.receiveGuard 0) = some 0 ∧
      s.beatsIn 0x10FFF8 1 (.transmitGuard 0) = true ∧ s.strayRead (.transmitGuard 0) = some 0 ∧
      s.beatsIn 0x303040 8 (.phantom 1 0x303000) = true ∧
      s.strayRead (.phantom 1 0x303000) = some 1 ∧ s.beatsIn 0x3C0 8 .commandRing = true ∧
      (after (.portLRead 0x200000 8) s).steering.l.answered = some (.data (zeroes 64)) ∧
      (after (.portLWrite 0x3C0 (List.replicate 8 (some 1))) s).mail.reports =
        [ringFaultPosting none 0x3C0] ∧
      (after (.portLWrite 0x303040 (List.replicate 8 (some 1))) s).mail.reports =
        [ringFaultPosting (some 1) 0x303040] ∧
      (after (.portPRead 0x303040 1) s).steering.p.answered = some (.data (zeroes 8)) := by
  decide +kernel

/-! ### Witnesses: descriptors -/

theorem test_ReadyDescriptorsHaveTheirContext :
    let out := (keyed.presentOut 0 0 3 (descriptor 0x80 20 0x100004 0))
    let inb := (keyed.presentIn 1 0 2 false (descriptor 0x80 600 0x200004 0))
    readsReady out.2 = true ∧ (out.1.link 0).outContext.map (·.slot) = some 3 ∧
      descLength out.2 = 44 ∧ readsReady inb.2 = true ∧
      (inb.1.link 0).inContext.map (·.slot) = some 2 := by decide +kernel

/-- A substituted keepalive for an idle link, and a refusal. -/
theorem test_substitution_and_refusal :
    let s := keyed.setLink 0 { keyed.link 0 with idle := 31 }
    (s.presentOut 0 0 1 (descriptor 0x48 20 0x100004 0)).2 =
        [0x00, 0xE1] ++ leBytes 2 32 ++ leBytes 4 0x303000 ++ zeroes 8 ∧
      (keyed.presentOut 0 0 1 (descriptor 0x80 2049 0x100004 0)).2 =
        descriptor 0x90 2049 0x100004 0 := by decide +kernel

theorem test_HoldOffSpacesDescriptors :
    let s : State := { keyed with time := { keyed.time with rawTick := 63 } }
    (s.link 0).lastTransmit = none ∧ (s.link 0).openStamp = some 0 ∧
      s.holdOffPassed 0 2 = false ∧ s.holdOffPassed 0 1 = true ∧
      ((s.setLink 0 { s.link 0 with lastTransmit := some 32 }).holdOffPassed 0 1) = false ∧
      (s.slot 0 0).pending = false ∧ (s.slot 0 0).held = none ∧
      outboundCheck (s.link 0) (descriptor 0x80 20 0x100004 2) = .inr .data := by decide +kernel

/-! ### Witnesses: landings and the command ring -/

theorem test_InternalWritesLand :
    let s : State := { (withCopies (shop .keyed)) with
      reports := { ReportUnit.reset with ring := some ⟨0x8000, 16, 0⟩, writeIndex := 15,
                                         inFlight := some 15 } }
    let landing (w : WriteUse) : State := { s with completions := [.landed w] }
    let waits : State := { landing (.record 15) with
      command := ⟨[0], some ⟨0, .replacingRing (zeroes 32) (some (0x9000, 32))⟩⟩ }
    (after .internalWriteLanded (landing (.replacement 0 0))).slot 0 0 = SlotRecord.clear ∧
      (after .internalWriteLanded (landing (.record 15))).reports.writeIndex = 0 ∧
      (after .internalWriteLanded (landing (.record 15))).int = true ∧
      (landing (.record 15)).ringWaits = false ∧ waits.ringWaits = true ∧
      (after .internalWriteLanded waits).reports.ring = some ⟨0x9000, 32, 0⟩ ∧
      (after .internalWriteLanded waits).int = false ∧
      (after .internalWriteLanded { landing (.result 0) with
        command := ⟨[0, 4], none⟩ }).command = ⟨[4], none⟩ := by decide +kernel

theorem test_PostingsAndFetches :
    let s : State := { bench with completions := [.commandWrite 31 1] }
    31 ∉ s.command.queue ∧ (after .commandPosting s).command.queue = [31] ∧
      (after .commandPosting { s with command := ⟨[31], none⟩ }).command.queue = [31] ∧
      (after .commandPosting { s with completions := [.commandWrite 31 3] }).command.queue = [] ∧
      (after .commandFetch { bench with command := ⟨[31], none⟩ }).internal.reads =
        [⟨0x3E0, 4, .fetch 31⟩] ∧ after .commandFetch bench = bench := by decide +kernel

theorem test_ReadDataReachTheirOwner :
    let s (b : List Byte) : State := { bench with
      completions := [.data (.fetch 2) b], command := ⟨[2], some ⟨2, .fetching⟩⟩ }
    (0x01#8 :: 0x14 :: zeroes 30).length = 32 ∧
      (after .internalReadData (s (zeroes 32))).command = ⟨[], none⟩ ∧
      resultOf .internalReadData (s (0x01 :: 0x15 :: zeroes 30)) = 1 ∧
      ((after .internalReadData (s (0x01 :: 0x14 :: zeroes 30))).dispatched).isSome = true ∧
      (after .internalReadData (s (0x01 :: 0x0C :: zeroes 30))).store.requests = [.command] ∧
      (bench.link 0).outContext = none := by decide +kernel

theorem test_ResultEntryIsWritten :
    let r : List Byte := 0x01 :: 0x0F :: 0x00 :: 0x9C :: 0xFF :: zeroes 27
    r.length = 32 ∧ ((dispatch (.setDrift 0xFF9C) bench).answer r .ok
      [(5, [1, 2, 3, 4])]).internal.writes.map (·.bytes) =
        [[0x03, 0x0F, 0x00, 0x9C, 0xFF, 1, 2, 3, 4] ++ zeroes 23] := by decide +kernel

/-! ### Witnesses: commands of the ring -/

theorem test_NopAndUndispatchedCommands :
    ((dispatch .nop bench).offered .nop).isSome = true ∧ resultOf .nop (dispatch .nop bench) = 0 ∧
      (encodeRecord (.openLink 3)).isSome = true ∧ bench.offered (.openLink 3) = none ∧
      (dispatch (.openLink 2) bench).offered (.openLink 3) = none ∧
      (atStore (.eraseKek 1) bench).offered (.eraseKek 0) = none := by decide +kernel

theorem test_ConfigLinkSetsTheLink :
    let c (link : Byte) (wire payload : Half) (binding : Byte) : Instr :=
      .configLink link wire payload 30 60 binding (List.replicate 8 0xFF)
    let run (c : Instr) (s : State) : Byte := resultOf c (dispatch c s)
    run (c 8 1 64 0) bench = 2 ∧ run (c 7 1 64 4) bench = 2 ∧ run (c 7 1 63 3) bench = 2 ∧
      run (c 7 1 8193 3) bench = 2 ∧ run (c 7 0 64 0) bench = 2 ∧
      run (c 7 0x0210 64 0) (shop .closed) = 2 ∧ run (c 0 0x0210 64 0) (shop .closed) = 0 ∧
      run (c 0 1 64 0) (shop .awaitKey) = 3 ∧ run (c 7 1 8192 0xFF) bench = 0 ∧
      ((after (c 7 1 64 3) (dispatch (c 7 1 64 3) bench)).link 7).kek = some 3 ∧
      bindingByte (some 3) = 3 := by decide +kernel

theorem test_GuardAndPhantomCommands :
    let run (c : Instr) (s : State) : Byte := resultOf c (dispatch c s)
    run (.setGuard 8 0 0x400000 4096) (shop .closed) = 2 ∧
      run (.setGuard 0 2 0x400000 4096) (shop .closed) = 2 ∧
      run (.setGuard 0 1 0x400000 4096) (shop .closing) = 3 ∧
      run (.setGuard 0 0 0 0) (shop .closed) = 0 ∧
      run (.setGuard 0 0 0x400000 4095) (shop .closed) = 2 ∧
      run (.setGuard 0 0 0xFF000000 0x1000000) (shop .closed) = 0 ∧
      run (.setGuard 0 0 0xFF001000 0x1000000) (shop .closed) = 2 ∧
      run (.setGuard 0 0 0x200000 4096) (shop .closed) = 6 ∧
      run (.setGuard 0 0 0x101000 4096) (shop .closed) = 0 ∧
      run (.setPhantom 1 0x400000) (shop .keyed) = 3 ∧
      run (.setPhantom 0 0) (shop .closed) = 0 ∧ run (.setPhantom 2 0) (shop .closed) = 2 ∧
      run (.setPhantom 1 0x100) (shop .closed) = 2 ∧
      run (.setPhantom 1 0x200) (shop .closed) = 6 ∧
      run (.setPhantom 1 0x303000) (shop .closed) = 0 := by decide +kernel

theorem test_RingCommands :
    let run (c : Instr) (s : State) : Byte := resultOf c (dispatch c s)
    run (.setRing 8 0 0x400000 2) (shop .closed) = 2 ∧
      run (.setRing 0 2 0x400000 2) (shop .closed) = 2 ∧
      run (.setRing 0 0 0x400000 2) (shop .keyed) = 3 ∧
      run (.setRing 0 0 0x400008 2) (shop .closed) = 2 ∧
      run (.setRing 0 0 0x400000 257) (shop .closed) = 2 ∧
      run (.setRing 0 0 0xFFFFFFF0 2) (shop .closed) = 2 ∧
      run (.setRing 0 0 0x301000 2) (shop .closed) = 6 ∧
      run (.setRing 0 0 0x300000 256) (shop .closed) = 0 ∧
      ((after (.setRing 7 1 0x400000 2) (dispatch (.setRing 7 1 0x400000 2) (shop .closed))).link
        7).inRing = some 2 ∧
      run (.clearRing 0 2) (shop .closed) = 2 ∧ run (.clearRing 0 1) (shop .keyed) = 3 ∧
      run (.clearRing 7 1) (shop .closed) = 0 ∧
      ((after (.clearRing 0 1) (dispatch (.clearRing 0 1) (shop .closed))).ring 1) = none := by
  decide +kernel

theorem test_OpenLinkOpensTheLink :
    let run (c : Instr) (s : State) : Byte := resultOf c (dispatch c s)
    run (.openLink 8) (shop .closed) = 2 ∧ run (.openLink 0) (shop .keyed) = 3 ∧
      run (.openLink 7) (shop .closed) = 2 ∧ run (.openLink 0) (shop .closed) = 0 ∧
      ((after (.openLink 0) (dispatch (.openLink 0) (shop .closed))).link 0).state = .awaitKey := by
  decide +kernel

/-- Link 0 CLOSING since raw tick 2, the raw tick at `now`, with a descriptor in each slot 0 and both contexts
open when `busy`. -/
def draining (busy : Bool) (now : Seq) : State :=
  let s := withCopies (shop .closing)
  let s := { s with time := { s.time with rawTick := now } }
  s.setLink 0 { s.link 0 with
    drainStart := some 2
    outContext := if busy then some sending else none
    inContext := if busy then some (receiving 0 4) else none }

theorem test_CloseLinkStartsTheDrain :
    let run (c : Instr) (s : State) : State := after c (dispatch c s)
    let open0 := keyed.setLink 0 { keyed.link 0 with outContext := some sending }
    resultOf (.closeLink 8) (dispatch (.closeLink 8) keyed) = 2 ∧
      resultOf (.closeLink 0) (dispatch (.closeLink 0) (shop .closed)) = 3 ∧
      ((run (.closeLink 0) open0).link 0).state = .closing ∧
      ((run (.closeLink 0) open0).link 0).drainStart = some 5 ∧
      ((run (.closeLink 0) keyed).link 0).state = .closed ∧
      resultOf (.closeLink 0) (dispatch (.closeLink 0) keyed) = 0 := by decide +kernel

theorem test_DrainedLinksClose :
    (draining true 9).drained 0 = false ∧ (draining false 9).drained 0 = true ∧
      (shop .keyed).drained 0 = false ∧
      (((draining false 9).closeIfDrained 0).slot 0 0) = SlotRecord.clear := by decide +kernel

theorem test_DrainLimitForcesTheDrain :
    let t := after (.drainLimitExpiry 0) (draining true 65538)
    after (.drainLimitExpiry 0) (draining true 65537) = draining true 65537 ∧
      ((draining true 65538).steering.l).quiet = true ∧
      (((draining true 65538).ring 0).map (fun r => (r.slot 0).copy.isSome)) = some true ∧
      (t.link 0).outContext = none ∧ (t.link 0).inContext = none ∧
      t.internal.writes.map (fun w => (w.use, byteAt w.bytes 0)) =
        [(.replacement 0 0, 0x45), (.replacement 1 0, 0x4C)] := by decide +kernel

theorem test_QueryAndFilterCommands :
    let run (c : Instr) (s : State) : Byte := resultOf c (dispatch c s)
    run (.queryLink 8) keyed = 2 ∧ run (.resetFilter 8) keyed = 2 ∧
      run (.resetFilter 7) keyed = 0 ∧
      (after (.queryLink 0) (dispatch (.queryLink 0) keyed)).internal.writes.map (·.bytes) =
        [[0x03, 0x08, 0x00, 0x00, 0x02, 0x10, 0x02, 0x04, 0x00, 0x10] ++ zeroes 22] := by
  decide +kernel

theorem test_RetireKeyRetiresTheKey :
    let run (c : Instr) (s : State) : State := after c (dispatch c s)
    let two := keyed.setKey 3 (sessionKey .pending 5)
    resultOf (.retireKey 8 1) (dispatch (.retireKey 8 1) keyed) = 2 ∧
      resultOf (.retireKey 0 3) (dispatch (.retireKey 0 3) keyed) = 2 ∧
      resultOf (.retireKey 0 2) (dispatch (.retireKey 0 2) keyed) = 3 ∧
      ((run (.retireKey 0 1) keyed).link 0).state = .awaitKey ∧
      (run (.retireKey 0 1) keyed).mail.reports =
        [(.keyUnit, ⟨.keyRetired 4 .active .command, some 0, 0⟩)] ∧
      ((run (.retireKey 0 1) two).key 3).state = .active ∧
      ((run (.retireKey 0 1) two).link 0).state = .keyed ∧
      ((run (.retireKey 0 0) two).key 3) = KeySlot.empty := by decide +kernel

theorem test_KekCommands :
    let run (c : Instr) (s : State) : Byte := resultOf c (atStore c s)
    let half := List.replicate 16 0xAA#8
    let parked := after .retainFall bench
    let staged : State := { bench with store := { bench.store with staging := some ⟨3, half, 9⟩ } }
    let t := after (.loadKekPart2 3 half 8) (atStore (.loadKekPart2 3 half 8) staged)
    run (.loadKekPart1 1 4 half 9) bench = 2 ∧ run (.loadKekPart1 0 3 half 9) bench = 2 ∧
      run (.loadKekPart1 1 3 half 9) parked = 4 ∧ run (.loadKekPart1 1 0 half 9) (shop .closed) = 3 ∧
      run (.loadKekPart1 1 3 half 9) bench = 0 ∧ run (.loadKekPart2 4 half 8) bench = 2 ∧
      run (.loadKekPart2 3 half 8) parked = 4 ∧ run (.loadKekPart2 3 half 8) bench = 3 ∧
      run (.loadKekPart2 2 half 8) staged = 3 ∧ run (.loadKekPart2 3 half 8) staged = 0 ∧
      t.kek 3 = ⟨.loaded, half ++ half, 9, 8⟩ ∧ t.store.staging = none ∧
      (t.internal.writes.map (fun w => slice w.bytes 5 16)) = [zeroes 16] ∧
      run (.eraseKek 4) bench = 2 ∧ run (.eraseKek 3) parked = 4 ∧ run (.eraseKek 3) bench = 0 ∧
      (after (.eraseKek 3) (atStore (.eraseKek 3) bench)).erasures 3 = 1 := by decide +kernel

/-! ### Witnesses: the cipher unit -/

theorem test_CipherTakesByRoundRobin :
    let s := ciphering inForce .free
    let gone := ciphering (.held (.session 2 0 5 1)) .free
    let job : Job := ⟨9, 0, zeroes 56, 0, 1, 0, .checking, none, none, some (zeroes 32)⟩
    let checking := { s with
      keys := { s.keys with jobs := [job] }
      cipher := ⟨s.cipher.queues.set 0 [] |>.set 16 [⟨.keyUnit, 9, .check, zeroes 16, .candidate⟩],
        .free, 3⟩ }
    s.holds 2 0 4 1 = true ∧ (after .cipherTake s).cipher.pointer = 0 ∧
      (after .cipherTake s).cipher.engine ≠ .free ∧
      (after .cipherTake checking).cipher.engine =
        .busy ⟨.keyUnit, 9, .check, zeroes 16, .candidate⟩
          (blockTransform (zeroes 32) (zeroes 16)) ∧
      (after .cipherTake checking).cipher.pointer = 16 ∧
      (after .cipherTake (ciphering (.held (.kek 0 0)) .free)).store.requests = [.keyFetch 0] ∧
      (after .cipherTake gone).cipher.engine = .free ∧
      ((after .cipherTake gone).link 0).outContext.map (·.lost) = some (some .keyLost) ∧
      after .cipherTake bench = bench := by decide +kernel

theorem test_CipherResultsReturn :
    let busy := ciphering inForce (.busy (asking inForce) (List.replicate 16 9))
    let heard := ciphering inForce (.busy { asking inForce with requester := .inbound 0 }
      (List.replicate 16 9))
    let closed := busy.setLink 0 { busy.link 0 with outContext := none }
    let fetching (loaded : Bool) : State :=
      let s := ciphering (.held (.kek 0 0)) (.fetching (asking (.held (.kek 0 0))) none)
      let s := s.setOut 0 (some { sending with keyRef := some (.kek 0 0) })
      let s := s.askStore (.keyFetch 0)
      if loaded then s else s.setKek 0 (KekSlot.blank .empty)
    1 ∈ windowBlocks 1 (lastBlock 20) ∧ 1 ∈ windowBlocks 1 (lastBlock 8) ∧
      ((after .cipherResult busy).link 0).outContext.map (·.keystream.held) =
        some [(1, List.replicate 16 9)] ∧
      (receiving 0 4).early = none ∧
      ((after .cipherResult heard).link 0).inContext.map (·.keystream.held) =
        some [(1, List.replicate 16 9)] ∧
      after .cipherResult closed = closed.setEngine .free ∧ after .cipherResult bench = bench ∧
      (after .keyFetch (fetching true)).cipher.engine ≠ .free ∧
      (after .keyFetch (fetching false)).cipher.engine = .free ∧
      ((after .keyFetch (fetching false)).link 0).outContext.map (·.lost) =
        some (some .kekAbsent) := by decide +kernel

/-- Block 0 brings the tag keys and takes the header groups (R9, R60, R91). -/
theorem test_block_0_keys_the_tag :
    let key : CipherRequest := { asking inForce with purpose := .block 0 }
    let s (q : CipherRequest) : State := ciphering inForce (.busy q (List.replicate 16 9))
    let tag (bytes : List Byte) (len : Nat) : Tag :=
      Tag.keyed ⟨none, 0, [], none⟩ (List.replicate 16 9) bytes len
    let headed (len : Nat) : State := (s key).setOut 0 (some { sending with
      keyRef := some (.session 2 0 4 1), header := some (List.replicate 16 5), len })
    let heard := s { key with requester := .inbound 0 }
    let out (len : Nat) : Option Tag := ((after .cipherResult (headed len)).link 0).outContext.map (·.tag)
    out 20 = some (tag (List.replicate 16 5) 20) ∧ out 0 = some (tag (List.replicate 16 5) 0) ∧
      (tag (List.replicate 16 5) 20).keys =
        some (leNat (List.replicate 8 9) % 2 ^ 60, leNat (List.replicate 8 9)) ∧
      (tag (List.replicate 16 5) 20).value = none ∧
      (tag (List.replicate 16 5) 0).value.isSome = true ∧
      ((after .cipherResult heard).link 0).inContext.map (·.tag) =
        some (tag (receiving 0 4).headerBytes 8) ∧
      (receiving 0 4).headerBytes.length = 16 ∧ (receiving 0 4).tag = ⟨none, 0, [], none⟩ := by
  decide +kernel

/-! ### Witnesses: binding, selection, confirmation -/

/-- A sequence request of link 0's outbound frame waits, the key in force about to release `next`. -/
def binding (cls : FrameClass) (key : Bool) (next : Seq) : State :=
  let s := if key then keyed.setKey 2 { sessionKey .active 4 with nextSequence := next }
    else withCopies (shop .keyed)
  (s.setOut 0 (some { sending with cls, binding := .sequenceAsked })).askKeyUnit (.sequence 0 9)

theorem test_SequenceRequestsBindTheFrame :
    let next (s : State) : State := after (.sequenceRequest 0) s
    ((next (binding .data true 1)).key 2).nextSequence = 2 ∧
      ((next (binding .data true 1)).link 0).outContext.map (fun c => (c.binding, c.epoch,
        c.sequence)) = some (.bound, some 4, some 1) ∧
      (next (binding .data true (BitVec.allOnes 48))).key 2 = KeySlot.empty ∧
      ((next (binding .data true (BitVec.allOnes 48))).link 0).outContext.map (·.lost) =
        some (some .keyLost) ∧
      (next (binding .renewal false 1)).store.requests = [.transmitCommit 0 9 0] ∧
      ((next (binding .data false 1)).link 0).outContext.map (·.lost) = some (some .keyLost) := by
  decide +kernel

/-- An inbound header of link 0 asks the key unit for a key of an epoch; the keyed part has key 2 of epoch 4 and
a PENDING key 3 of epoch 5 that activates at 100. -/
def selecting (cls : Byte) (epoch : Half) : State :=
  let s := keyed.setKey 3 (sessionKey .pending 5)
  let s := { s with time := { s.time with valid := true, seconds := 89 } }
  s.setIn 0 (some { receiving cls epoch with asking := true })

/-- What the selection left. -/
def selected (s : State) : Option (Option PartCode × Option KeyRef × Bool) :=
  (s.link 0).inContext.map (fun c => (c.early, c.keyRef, c.asking))

/-- What the key unit answers. -/
def keyAnswer (s : State) (epoch : Half) (q : Seq) : Option (Option PartCode × Option KeyRef × Bool) :=
  selected (after (.keySelection 0) (s.askKeyUnit (.selection 0 9 epoch q)))

/-- Link 0 quarantined. -/
def quarantined : State :=
  (selecting 0 4).setLink 0 { (selecting 0 4).link 0 with state := .quarantined }

theorem test_SelectionsFollowTheHeader :
    keyAnswer (selecting 0 6) 6 3 = some (some .noKey, none, false) ∧
      keyAnswer (selecting 0 5) 5 3 = some (some .earlyEpoch, none, false) ∧
      keyAnswer (selecting 0 4) 4 3 = some (none, some (.session 2 0 4 1), false) := by
  decide +kernel

theorem test_selection_replay_and_quarantine :
    keyAnswer (selecting 0 4) 4 0 = some (some .replay, some (.session 2 0 4 1), false) ∧
      keyAnswer quarantined 4 3 = some (some .quarantined, some (.session 2 0 4 1), false) := by
  decide +kernel

theorem test_kek_selection :
    let kek (s : State) (q : Seq) : State :=
      after .kekSelection (s.askStore (.selection 0 9 0 q))
    (selecting 2 0).store.marker = .live ∧
      selected (kek (selecting 2 0) 26) = some (none, some (.kek 0 0), false) ∧
      selected (kek (selecting 3 0) 25) = some (some .replay, some (.kek 0 0), false) ∧
      selected (kek (after .retainFall (selecting 2 0)) 26) =
        some (some .kekAbsent, none, false) := by decide +kernel

/-- A verified inbound frame of link 0 waits for its confirmation. -/
def confirming : State :=
  let s := withCopies (selecting 0 4)
  s.setIn 0 (some { receiving 0 4 with
    phase := .confirming, keyRef := some (.session 2 0 4 1), verdict := some true,
    trailer := zeroes 8 })

theorem test_ConfirmationsMarkTheFrame :
    let settle (installation : BitVec 64) : State := after (.settleRequest 0)
      (confirming.askKeyUnit (.settle 0 9 (.session 2 0 4 installation) 3))
    let commit (s : State) (q : Seq) : State :=
      after .receiveCommit (s.askStore (.receiveCommit 0 9 0 0 q))
    confirming.holds 2 0 4 1 = true ∧ confirming.holds 2 0 4 2 = false ∧
      ((settle 1).key 2).window.highest = some 3 ∧ ((settle 1).link 0).lastArrival = some 89 ∧
      (settle 1).mail.arrivals = [0] ∧
      (settle 2).mail.statuses = [⟨0, true, 0x45, false⟩] ∧
      (let s := confirming.setIn 0 (some { receiving 0 4 with
        phase := .confirming, keyRef := some (.session 2 0 4 1), outcome := some .quarantined })
      let t := after (.settleRequest 0) (s.askKeyUnit (.settle 0 9 (.session 2 0 4 2) 3))
      t.mail.statuses = [⟨0, true, 0x4A, false⟩] ∧ t.mail.arrivals = []) ∧
      ((commit confirming 26).kek 0).highWater = 26 ∧ (commit confirming 26).mail.arrivals = [0] ∧
      (commit confirming 25).mail.statuses = [⟨0, true, 0x49, false⟩] ∧
      (commit (after .retainFall confirming) 26).mail.statuses = [⟨0, true, 0x46, false⟩] := by
  decide +kernel

theorem test_ReplayWindowAcceptsNothingTwice :
    let w : ReplayWindow := ReplayWindow.mark (ReplayWindow.mark ReplayWindow.fresh 100) 40
    w.passes 100 = false ∧ w.passes 40 = false ∧ w.passes 37 = true ∧ w.passes 36 = false ∧
      w.passes 101 = true ∧ w.highest = some 100 ∧ ReplayWindow.fresh.passes 1 = true ∧
      ReplayWindow.fresh.passes 0 = false := by decide +kernel

/-- The store is asked about link 0's outbound frame. -/
def committing (transmit : Seq) : State :=
  let s := (withCopies (shop .awaitKey)).setKek 0 { loadedKek with transmit }
  (s.setOut 0 (some { sending with cls := .renewal, binding := .commitAsked })).askStore
    (.transmitCommit 0 9 0)

/-- A renewal job of link 0 waits for the store. -/
def checkingKek (lifetime : Nat) : State :=
  let s := withCopies (shop .awaitKey)
  let payload := zeroes 8 ++ leBytes 4 lifetime ++ zeroes 44
  ({ s with keys := { s.keys with
    jobs := [⟨7, 0, payload, 0, 26, 0, .askedKek, none, none, none⟩] } }).askStore (.kekCheck 7 0)

theorem test_StoreAnswersItsRequests :
    let commit (s : State) : State := after .transmitCommit s
    let sub := (shop .keyed).setOut 0 (some { sending with
      substituted := true, cls := .keepalive, len := 8, contents := zeroes 8,
      contentsComplete := false })
    let summary (k : Option KekIndex) : State :=
      after .stateSummaryRequest (sub.askStore (.summary 0 9 k))
    ((commit (committing 40)).kek 0).transmit = 41 ∧
      ((commit (committing 40)).link 0).outContext.map (fun c => (c.binding, c.sequence)) =
        some (.bound, some 41) ∧
      ((commit (committing (BitVec.allOnes 48))).link 0).outContext.map (·.lost) =
        some (some .kekAbsent) ∧
      ((commit (after .retainFall (committing 40))).link 0).outContext.map (·.lost) =
        some (some .kekAbsent) ∧
      ((summary (some 0)).link 0).outContext.map (·.contents[7]?) = some (some 0x01) ∧
      ((summary none).link 0).outContext.map (·.contents[7]?) = some (some 0x03) ∧
      ((summary (some 1)).link 0).outContext.map (·.contents[7]?) = some (some 0x02) := by
  decide +kernel

theorem test_kek_check :
    let check (s : State) : State := after .kekCheck s
    renewalLifetime (zeroes 8 ++ leBytes 4 60 ++ zeroes 44) = 60 ∧
      (check (checkingKek 60)).cipher.queues[(16 : Fin 17)].length = 2 ∧
      (check (checkingKek 31536000)).keys.jobs.map (·.step) = [.unwrapping] ∧
      (check (after .retainFall (checkingKek 60))).mail.reports =
        [(.keyUnit, ⟨.renewalRefused 0 .kekAbsent, some 0, 0⟩)] := by decide +kernel

theorem test_KeysDrainAgeAndExpire :
    let with2 (x : KeySlot) : State := (shop .keyed).setKey 2 x
    let drain (d : Nat) : State := with2 { sessionKey .draining 4 with drain := some d }
    let aged (st : KeyState) (age : Nat) : State :=
      with2 { sessionKey st 4 with age := some age }
    (after (.drainEnd 0) (drain 0)).key 2 = KeySlot.empty ∧
      after (.drainEnd 0) (drain 1) = drain 1 ∧
      ((after (.keyOverdue 0) (aged .active 1000)).key 2).state = .overdue ∧
      after (.keyOverdue 0) (aged .active 999) = aged .active 999 ∧
      after (.keyExpiry 0) (aged .overdue 1059) = aged .overdue 1059 ∧
      after (.keyExpiry 0) (aged .active 1060) = aged .active 1060 ∧
      ((after (.keyExpiry 0) (aged .overdue 1060)).link 0).state = .awaitKey ∧
      ((after (.keyExpiry 0) ((aged .overdue 1060).setKey 3 (sessionKey .pending 5))).key 3).state
        = .active := by decide +kernel

/-! ### Witnesses: the time base -/

/-- The part with a time base. -/
def timed (t : TimeBase) : State := { bench with time := t }

/-- A measurement of the reset reference whose window has counted. -/
def counted (edges count : Nat) : State :=
  timed { TimeBase.reset with measurement := some ⟨2048000, 15, false, true, edges, count⟩ }

theorem test_SetDriftClampsTheCorrection :
    let run (v : Half) : Int :=
      (after (.setDrift v) (dispatch (.setDrift v) bench)).time.c
    resultOf (.setDrift 0x7FFF) (dispatch (.setDrift 0x7FFF) bench) = 0 ∧ run 0x7FFF = 4095 ∧
      run 0x8000 = -4096 ∧ run 0xFFFF = -1 ∧ run 0x0FFF = 4095 ∧
      (counted 2048000 32768).time.windowDue = true := by decide +kernel

theorem test_ClockCommandsConfigureAndMeasure :
    let run (c : Instr) (s : State) : Byte := resultOf c (dispatch c s)
    let auto := { counted 0 0 with time := { (counted 0 0).time with
      autoPeriod := 1, autoCount := 60 } }
    run (.configClock 7999 10 0) bench = 2 ∧ run (.configClock 8000 9 0) bench = 2 ∧
      run (.configClock 8000 10 0) bench = 0 ∧ run (.configClock 25000000 15 255) bench = 0 ∧
      run (.configClock 25000001 15 0) bench = 2 ∧ run (.configClock 25000000 16 0) bench = 2 ∧
      run .measureClock bench = 0 ∧ run .measureClock (counted 0 0) = 5 ∧
      (after .autoMeasurementStart auto).time.autoCount = 0 ∧
      (after .autoMeasurementStart auto).time.measurement = auto.time.measurement := by
  decide +kernel

theorem test_TimeStepsAndSlews :
    let beacon (valid : Bool) (seconds : Nat) (flags : Byte) : State :=
      let s := timed { TimeBase.reset with valid, seconds := 50 }
      after (.beaconAbsorb 3) { s with mail := { s.mail with
        beacons := [(1, zeroes 8), (3, leBytes 4 seconds ++ leBytes 2 0 ++ [flags, 0])] } }
    let c := Instr.setTime 7 0xFFFF
    resultOf c (dispatch c bench) = 0 ∧ (after c (dispatch c bench)).time.ticks = 32767 ∧
      (beacon true 52 0).time.s = 65536 ∧ (beacon true 48 0).time.s = -65536 ∧
      (beacon true 52 0).time.seconds = 50 ∧ (beacon true 52 1).time.seconds = 52 ∧
      (beacon true 53 0).time.seconds = 53 ∧ (beacon false 50 0).time.valid = true ∧
      (beacon false 50 0).mail.beacons = [(1, zeroes 8)] := by decide +kernel

theorem test_SecondBoundaryCarriesTheFraction :
    let s := { keyed with time := { TimeBase.reset with ticks := 32768, c := 655, f := 572,
                                                        s := 100 } }
    let early := { s with time := { s.time with ticks := 32767 } }
    let t := after .correctedSecondBoundary s
    s.time.ranged = true ∧ after .correctedSecondBoundary early = early ∧ t.time.f = 203 ∧
      t.time.length = 32737 ∧ t.time.seconds = 1 ∧ (t.link 0).idle = 1 ∧ (t.link 1).idle = 0 ∧
      (t.key 2).age = some 8 := by decide +kernel

theorem test_RawTicksAndReferenceEdges :
    let s := { keyed with time := { (counted 5 7).time with rawTick := 41 } }
    let t := after .rawTick s
    s.running = true ∧ s.tickWaits = false ∧ t.time.rawTick = 42 ∧ t.time.ticks = 1 ∧
      t.time.measurement.map (·.count) = some 8 ∧ (t.link 0).health.timer = 1 ∧
      (t.link 1).health.timer = 0 ∧
      (timed { TimeBase.reset with rawTick := BitVec.allOnes 48 }).tickWaits = false ∧
      (timed { TimeBase.reset with ticks := 32768 }).tickWaits = true ∧
      (after .refclkRisingEdge (counted (2 ^ 32 - 1) 7)).time = (counted (2 ^ 32 - 1) 7).time ∧
      (after .refclkRisingEdge (counted 5 7)).time = (counted 6 7).time ∧
      after .refclkRisingEdge bench = bench := by decide +kernel

theorem test_MeasurementsRunToTheirEnd :
    let close (edges : Nat) : State := after .measurementWindowClose (counted edges 32768)
    let auto (count : Nat) : State := after .autoMeasurementStart
      (timed { TimeBase.reset with autoPeriod := 1, autoCount := count })
    after .measurementWindowClose (counted 5 32767) = counted 5 32767 ∧
      (close 0).mail.reports = [(.timeBase, ⟨.refOutOfRange 0 2048000 15, none, 0⟩)] ∧
      (close (2 ^ 32 - 1)).time.c = 0 ∧ (close 2048000).time.c = 0 ∧
      (close 2048000).time.measurement = none ∧ (close 2047900).time.c = 1638 ∧
      (close 2047000).mail.reports.length = 2 ∧ (close 2046975).time.c = 0 ∧
      (auto 59).time.measurement = none ∧ (auto 60).time.measurement.isSome = true := by
  decide +kernel

/-! ### Witnesses: the monitor -/

/-- A quarantined link 0 with a health record. -/
def ailing (st : LinkState) (h : Health) : State :=
  let s := shop st
  s.setLink 0 { s.link 0 with health := h }

theorem test_MonitorCommands :
    let run (c : Instr) (s : State) : Byte := resultOf c (dispatch c s)
    let c (link : Byte) (t : Half) (i n options : Byte) : Instr :=
      .configMonitor link t 16 1 i 3 n options
    run (c 8 1 1 1 0) bench = 2 ∧ run (c 7 0 1 1 0) bench = 2 ∧ run (c 7 1 0 1 0) bench = 2 ∧
      run (c 7 1 1 0 0) bench = 2 ∧ run (c 7 1 1 1 0) bench = 0 ∧
      ((after (c 7 9 1 1 1) (dispatch (c 7 9 1 1 1) bench)).link 7).health.noBuffer = true ∧
      run (.releaseLink 8) bench = 2 ∧ run (.releaseLink 0) (shop .keyed) = 3 ∧
      run (.releaseLink 0) (shop .quarantined) = 0 := by decide +kernel

theorem test_FinalStatusesScoreAndAbort :
    let tell (s : State) (n : StatusNotice) : State :=
      after (.finalStatus 0) { s with mail := { s.mail with statuses := [⟨1, true, 0, true⟩, n] } }
    let h (s : State) : Bool × Bool := ((s.link 0).health.errored, (s.link 0).health.silent)
    h (tell keyed ⟨0, true, 0x05, true⟩) = (true, false) ∧
      h (tell keyed ⟨0, true, 0x06, true⟩) = (false, false) ∧
      h (tell keyed ⟨0, false, 0x02, true⟩) = (false, false) ∧
      h (tell keyed ⟨0, true, 0x4C, false⟩) = (true, false) ∧
      h (tell keyed ⟨0, true, 0x4C, true⟩) = (false, false) ∧
      h (tell keyed ⟨0, false, 0x01, true⟩) = (true, true) ∧
      (tell keyed ⟨0, false, 0x01, true⟩).mail.reports.length = 1 ∧
      (tell (ailing .keyed { Health.reset with silent := true })
        ⟨0, true, 0x01, true⟩).mail.reports = [] ∧
      (shop .closed).links = (tell (shop .closed) ⟨0, true, 0x01, true⟩).links := by
  decide +kernel

theorem test_SilenceArrivalsAndQuarantine :
    let quiet (n : Nat) : State := ailing .keyed { Health.reset with quiet := n, noBuffer := true }
    let silent : State := ailing .keyed { Health.reset with silent := true, quiet := 99 }
    let arrive (s : State) : State :=
      after (.verifiedArrival 0) { s with mail := { s.mail with arrivals := [1, 0] } }
    let empty (s : State) : State :=
      after (.noBufferEvent 0) { s with mail := { s.mail with noBuffers := [1, 0] } }
    let ask (s : State) : State :=
      after (.quarantineRequest 0) { s with mail := { s.mail with quarantines := [(0, 3)] } }
    ((after (.silenceTimeout 0) (quiet 90)).link 0).health.silent = true ∧
      after (.silenceTimeout 0) (quiet 89) = quiet 89 ∧
      ((arrive (quiet 5)).link 0).health.quiet = 0 ∧ (arrive (quiet 5)).mail.reports = [] ∧
      (arrive silent).mail.reports = [(.healthMonitor, ⟨.linkHeard 99, some 0, 0⟩)] ∧
      (arrive (shop .closed)).mail.arrivals = [1] ∧
      ((empty (quiet 5)).link 0).health.errored = true ∧
      ((empty silent).link 0).health.errored = false ∧
      ((ask silent).link 0).state = .quarantined ∧
      ((ask (shop .awaitKey)).link 0).state = .awaitKey := by decide +kernel

theorem test_IntervalsAreEvaluated :
    let run (h : Health) : State := after (.intervalEnd 0) (ailing .keyed { h with due := true })
    let bad := run { Health.reset with e := 48, a := 2, errored := true, timer := 9 }
    let good := run { Health.reset with e := 1, a := 2, cleanRun := 59 }
    (bad.link 0).health = { Health.reset with a := 3 } ∧
      bad.mail.quarantines = [(0, 3)] ∧
      bad.mail.reports = [(.healthMonitor, ⟨.healthAlarm 64 3, some 0, 0⟩)] ∧
      (good.link 0).health = Health.reset ∧ good.mail.reports = [] ∧
      ((run { Health.reset with e := 47, errored := true }).link 0).health.e = 63 ∧
      after (.intervalEnd 0) (shop .keyed) = shop .keyed := by decide +kernel

/-! ### Witnesses: reports and INT -/

/-- A report ring of 16 entries, `n` reports of the link unit waiting, and one posting. -/
def reporting (n : Nat) (p : Report) : State :=
  { bench with
    reports := { ReportUnit.reset with
      ring := some ⟨0x8000, 16, 0⟩, writeIndex := 15, lost := 3,
      queue := (List.range n).map (fun i => ⟨.ringFault i, none, 255⟩) }
    mail := { Mail.none with reports := [(.linkUnit, p), (.keyUnit, ⟨.linkClosed, some 1, 0⟩)] } }

theorem test_ReportsAreQueuedWrittenAndCleared :
    let post (s : State) : ReportUnit := (after (.reportPosting .linkUnit) s).reports
    let fault : Report := ⟨.ringFault 77, none, 0⟩
    let closed : Report := ⟨.linkClosed, some 0, 0⟩
    let s := reporting 1 closed
    let full := { s with reports := { s.reports with valid := setFlag 0 15 } }
    (ReportDetail.ringFault 77).coalesces = true ∧
      (post (reporting 1 fault)).queue = [⟨.ringFault 77, none, 255⟩] ∧
      (post (reporting 7 closed)).queue.length = 8 ∧
      (post (reporting 8 closed)).queue.length = 8 ∧ (post (reporting 8 closed)).lost = 4 ∧
      (after .reportWriterTake s).reports.inFlight = some 15 ∧
      (after .reportWriterTake s).reports.lost = 0 ∧
      (after .reportWriterTake s).internal.writes.map (·.address) = [0x81E0] ∧
      after .reportWriterTake full = full ∧
      (after .reportClearObserved { full with
        completions := [.reportWrite 0 15 0x0E] }).int = false ∧
      (after .reportClearObserved { full with completions := [.reportWrite 0 15 1] }).int = true ∧
      (after .reportClearObserved { full with completions := [.reportWrite 1 15 0] }).int = true ∧
      (after .reportClearObserved { full with
        completions := [.reportWrite 0 14 0] }).int = true := by decide +kernel

theorem test_SetReportRingReplacesTheRing :
    let run (c : Instr) (s : State) : Byte := resultOf c (dispatch c s)
    let s := reporting 0 ⟨.linkClosed, none, 0⟩
    let busy := { s with reports := { s.reports with inFlight := some 15 } }
    let c := Instr.setReportRing 0x9000 1024
    run (.setReportRing 0x9000 15) s = 2 ∧ run (.setReportRing 0x9010 16) s = 2 ∧
      run (.setReportRing 0x9000 1025) s = 2 ∧ run (.setReportRing 0xFFFFFFE0 16) s = 2 ∧
      run (.setReportRing 0 16) s = 6 ∧ run (.setReportRing 0x8000 16) s = 0 ∧ run c s = 0 ∧
      (after c (dispatch c s)).reports.writeIndex = 0 ∧
      (after (.setReportRing 0x9001 0) (dispatch (.setReportRing 0x9001 0) s)).reports.ring = none ∧
      (after c (dispatch c busy)).ringWaits = true ∧ run c busy = 0xFF := by decide +kernel

theorem test_InterruptFollowsTheFlags :
    let s := reporting 1 ⟨.linkClosed, none, 0⟩
    let landed (s : State) : State := after .internalWriteLanded
      { s with completions := [.landed (.record 15)] }
    s.int = false ∧ s.ringWaits = false ∧ (landed s).int = true ∧
      (landed s).reports.flag 15 = true ∧
      (after (.warmReset 0) (landed s)).int = false := by decide +kernel

/-! ### Witnesses: waiting requests, descriptors, completions -/

/-- The internal master with so many writes and reads queued. -/
def loaded (writes reads : Nat) : State :=
  { bench with internal := { bench.internal with
    writes := List.replicate writes ⟨0x800, [1, 2], .record 3, none⟩
    reads := List.replicate reads ⟨0x800, 4, .fetch 7⟩
    presenting := some (if reads = 0 then .writes else .reads) } }

theorem test_requests_wait_for_a_full_queue :
    let done : Report := ⟨.frameDone false 1 0, some 0, 0⟩
    let w : InternalWrite := ⟨0x900, [5], .replacement 0 0, some done⟩
    let r : InternalRead := ⟨0x900, 1, .fetch 1⟩
    let a := (loaded 24 0).queueWrite w
    let b := (loaded 0 8).queueRead r
    a.internal.waitingWrites = [w] ∧ a.mail.reports = [] ∧ a.granted = some .internal ∧
      (after .portMGrant a).internal.writes.drop 23 = [w] ∧
      (after .portMGrant a).internal.waitingWrites = [] ∧
      (after .portMGrant a).mail.reports = [(.linkUnit, done)] ∧
      ((loaded 23 0).queueWrite w).internal.writes.drop 23 = [w] ∧
      ((loaded 23 0).queueWrite w).mail.reports = [(.linkUnit, done)] ∧
      b.internal.waitingReads = [r] ∧ b.granted = some .internal ∧
      (after .portMGrant b).internal.reads.drop 7 = [r] ∧
      ((loaded 0 7).queueRead r).internal.reads.drop 7 = [r] := by decide +kernel

/-- What an outbound or inbound presentation of slot 1 holds as refused; 0 when it refuses nothing. -/
def refusal (inbound : Bool) (s : State) (d : List Byte) : Byte :=
  let t := if inbound then (s.presentIn 1 0 1 ((s.link 0).state == .closing) d).1 else (s.presentOut 0 0 1 d).1
  ((t.slot (if inbound then 1 else 0) 1).held.map PartCode.byte).getD 0

theorem test_outbound_checks :
    let f := refusal false
    let d (control : Byte) (len pointer : Nat) := descriptor control len pointer 0
    f (shop .closing) (d 0x80 20 0x100002) = 0x43 ∧ f keyed (d 0x80 20 0x100002) = 0x40 ∧
      f keyed (d 0x83 20 0x100000) = 0x42 ∧ f keyed (d 0x80 2049 0x100000) = 0x41 ∧
      f keyed (d 0x81 9 0x100000) = 0x42 ∧ f keyed (d 0x80 4 0x10FFE8) = 0x40 ∧
      f keyed (d 0x80 0 0x10FFE8) = 0 ∧ f keyed (d 0x80 2048 0x100000) = 0 ∧
      f (shop .awaitKey) (d 0x80 20 0x100000) = 0x44 ∧
      f (shop .awaitKey) (d 0x82 56 0x100000) = 0 := by decide +kernel

theorem test_inbound_checks :
    let f := refusal true
    let d (len pointer : Nat) := descriptor 0x80 len pointer 0
    f (shop .closing) (d 24 0x200000) = 0x43 ∧ f keyed (d 24 0x200002) = 0x40 ∧
      f keyed (d 23 0x200000) = 0x40 ∧ f keyed (d 24 0x20FFEC) = 0x40 ∧
      f keyed (d 24 0x20FFE8) = 0 := by decide +kernel

/-- Slot 0 of link 0's rings with a record. -/
def withSlot (s : State) (x : SlotRecord) : State := (s.setSlot 0 0 x).setSlot 1 0 x

theorem test_presentation_cases :
    let d := descriptor 0x88 44 0x100004 0
    let held : SlotRecord := { SlotRecord.clear with held := some .noKey, copy := some d }
    let busy := (keyed.setOut 0 (some sending)).setIn 0 (some (receiving 0 4))
    let idle (n : Nat) : State := keyed.setLink 0 { keyed.link 0 with idle := n }
    let skip := descriptor 0x90 44 0x100004 0
    let empty := descriptor 0x40 20 0x100004 0
    (withSlot keyed { SlotRecord.clear with pending := true }).presentOut 0 0 0 d =
        (withSlot keyed { SlotRecord.clear with pending := true }, withOwnClear d) ∧
      ((withSlot keyed { SlotRecord.clear with pending := true }).presentIn 1 0 0 false d).1.mail.noBuffers
        = [0] ∧
      ((withSlot keyed held).presentOut 0 0 0 empty).2 = d.set 1 0x98 ∧
      ((withSlot keyed held).presentIn 1 0 0 false empty).2 = d.set 1 0x98 ∧
      (busy.presentOut 0 0 0 empty).2 = d ∧ (busy.presentOut 0 0 1 d).2 = d.set 1 0x08 ∧
      (busy.presentIn 1 0 0 false d).1.mail.noBuffers = [0] ∧ (busy.presentIn 1 0 0 false d).2 = d.set 1 0x08 ∧
      (keyed.presentIn 1 0 0 false empty).1.mail.noBuffers = [0] ∧
      ((idle 30).presentOut 0 0 0 empty) = (idle 30, empty) ∧
      (((idle 31).presentOut 0 0 0 empty).1.link 0).outContext.map (·.substituted) = some true ∧
      ((idle 31).presentOut 0 0 0 empty).1.store.requests = [.summary 0 0 (some 0)] ∧
      (keyed.presentOut 0 0 0 skip).2 = skip ∧
      ((keyed.presentIn 1 0 0 false skip).1.slot 1 0).copy = some skip := by decide +kernel

theorem test_presented_reads :
    let d := descriptor 0x80 20 0x100004 0
    let area : Area := ⟨0, true, 0x300000, 4⟩
    let whole := keyed.presentRead 0 area 0x300010 d true false
    let fault : List (ReportSource × Report) := [(.linkUnit, ⟨.ringFault 0x300010, some 0, 0⟩)]
    area = ⟨0, true, 0x300000, 4⟩ ∧ whole = keyed.presentOut 0 0 1 d ∧
      (keyed.presentRead 0 area 0x300010 d false false).1.mail.reports = fault ∧
      (keyed.presentRead 0 area 0x300010 d false false).2 = d.set 1 0x00 ∧
      (keyed.presentRead 0 area 0x300010 (d ++ d) true false).2 = d.set 1 0x00 ++ d.set 1 0x00 ∧
      (keyed.presentRead 0 area 0x300018 d true false).2 = d.set 9 0x00 ∧
      (shop .closed).presentRead 0 area 0x300010 d true false = (shop .closed, d.set 1 0x00) ∧
      bench.presentRead 0 area 0x300010 d true false = (bench, d.set 1 0x00) ∧
      keyed.accepts = true ∧ keyed.beatsIn 0x300010 2 (.descriptors 0 area) = true ∧
      (after (.portLRead 0x300010 2) keyed).granted = some .l ∧
      (after .portMGrant (after (.portLRead 0x300010 2) keyed)).steering.l.answered =
        some (.data (zeroes 16)) := by decide +kernel

/-- A descriptor read before CLOSE_LINK was dispatched opens its context in CLOSING (R81); one read after it, or
presented after the drain was forced, is refused with LINK_CLOSED (R24, R26, R33; log 47). -/
theorem test_inbound_context_opens_in_closing :
    let s (x : LinkState) : State := { ((shop x).setOut 0 (some sending)) with
      memory := memWriteBytes [] 0x301010 ((descriptor 0x80 24 0x200000 0).map some) }
    let closing (t : State) : State :=
      t.setLink 0 { t.link 0 with state := .closing, drainStart := some 0 }
    let early := after .portMGrant (closing (after (.portLRead 0x301010 2) (s .keyed)))
    let late := after .portMGrant (after (.portLRead 0x301010 2) (closing (s .keyed)))
    (early.link 0).inContext.map (·.slot) = some 1 ∧ (early.link 0).state = .closing ∧
      (late.link 0).inContext = none ∧ (late.slot 1 1).held = some .linkClosed ∧
      (((shop .closing).presentIn 1 0 1 false (descriptor 0x80 24 0x200000 0)).1.slot 1 1).held =
        some .linkClosed := by decide +kernel

/-- A read of one slot of each of two touching rings shows neither as ready (R34). -/
theorem test_read_across_touching_rings :
    let d := (descriptor 0x80 20 0x100004 0).map some
    let s := { (keyed.setRing 1 (some ⟨0, false, 0x300040, List.replicate 4 SlotRecord.clear⟩)) with
      memory := memWriteBytes [] 0x300030 (d ++ d) }
    let s := { s with steering := { s.steering with map := s.ownMap } }
    let t := after .portMGrant (after .portMGrant (after (.portLRead 0x300030 4) s))
    (t.link 0).outContext = none ∧ (t.link 0).inContext = none ∧ t.mail.reports.length = 2 ∧
      t.steering.l.answered.isSome = true := by decide +kernel

/-- The completion write of slot 0 of link 0: what it enables, its status and length. -/
def completed (inbound : Bool) (s : State) (status : Byte) (total : Nat)
    (rest : List (Option Byte)) : State :=
  after (.portLWrite (if inbound then 0x301000 else 0x300000)
    ([some status, some 0x08, some (BitVec.ofNat 8 total), some (BitVec.ofNat 8 (total / 256))] ++
      rest)) s

/-- The replacements queued: slot and status. -/
def replacements (s : State) : List (WriteUse × Byte) :=
  s.internal.writes.map (fun w => (w.use, byteAt w.bytes 0))

/-- No other byte enabled. -/
def none4 : List (Option Byte) := List.replicate 4 none

/-- Link 0 keyed, its outbound context open on slot 0. -/
def sendingWith (f : OutContext → OutContext) : State := (withCopies keyed).setOut 0 (some (f sending))

/-- Link 0 keyed, its inbound context open on slot 0. -/
def receivingWith (f : InContext → InContext) : State :=
  (withCopies keyed).setIn 0 (some (f (receiving 0 4)))

theorem test_outbound_completions :
    let t := completed false (sendingWith id) 1 44 none4
    let u := completed false (sendingWith (fun c => { c with substituted := true })) 0 32 none4
    (sendingWith id).beatsIn 0x300000 1 (.descriptors 0 ⟨0, true, 0x300000, 4⟩) = true ∧
      replacements t = [(.replacement 0 0, 0x01)] ∧ (t.link 0).outContext = none ∧
      (t.link 0).idle = 0 ∧ t.mail.statuses = [⟨0, false, 0x01, true⟩] ∧
      t.mail.reports = [(.linkUnit, ⟨.frameDone false 0 0x01, some 0, 0⟩)] ∧
      t.steering.l.answered = some .acknowledged ∧
      replacements (completed false (sendingWith id) 0 44 none4) = [(.replacement 0 0, 0x00)] ∧
      replacements (completed false (sendingWith (fun c => { c with lost := some .keyLost })) 0 44
        none4) = [(.replacement 0 0, 0x45)] ∧
      replacements u = [] ∧ (u.link 0).outContext = none ∧
      (completed false (sendingWith id) 0 44 [some 1, none, none, none]).mail.reports.length = 2 := by
  decide +kernel

theorem test_inbound_completions :
    let full : InContext → InContext := fun c => { c with
      next := 32, trailer := zeroes 8, verdict := some true, keyRef := some (.session 2 0 4 1) }
    let kek : InContext → InContext := fun c => { full c with keyRef := some (.kek 0 0) }
    replacements (completed true (receivingWith id) 2 40 none4) = [(.replacement 1 0, 0x02)] ∧
      replacements (completed true (receivingWith id) 0 40 none4) = [(.replacement 1 0, 0x4D)] ∧
      (completed true (receivingWith id) 0 40 none4).mail.statuses = [⟨0, true, 0x4D, false⟩] ∧
      replacements (completed true (receivingWith full) 0 32 none4) = [] ∧
      (completed true (receivingWith full) 0 32 none4).keys.requests =
        [.settle 0 9 (.session 2 0 4 1) 3] ∧
      ((completed true (receivingWith full) 0 32 none4).slot 1 0).pending = true ∧
      (completed true (receivingWith kek) 0 32 none4).store.requests = [.receiveCommit 0 9 0 0 3] := by
  decide +kernel

theorem test_other_completions :
    let held : SlotRecord :=
      { SlotRecord.clear with held := some .noKey, copy := some (descriptor 0x88 20 0x100004 0) }
    let skip : SlotRecord :=
      { SlotRecord.clear with copy := some (descriptor 0x98 20 0x100004 0) }
    let pending : SlotRecord := { skip with pending := true }
    let f (s : State) : State := completed false s 0 20 none4
    let fault : List (ReportSource × Report) := [(.linkUnit, ⟨.ringFault 0x300000, some 0, 0⟩)]
    replacements (f (withSlot keyed held)) = [(.replacement 0 0, 0x44)] ∧
      (completed true (withSlot keyed held) 0 20 none4).mail.statuses =
        [⟨0, true, 0x44, false⟩] ∧
      replacements (f (withSlot keyed skip)) = [(.replacement 0 0, 0x00)] ∧
      (f (withSlot (shop .closed) skip)).mail.reports = fault ∧
      (f (withSlot keyed pending)).mail.reports = fault ∧ (f keyed).mail.reports = fault ∧
      (f (withCopies keyed)).mail.reports = fault ∧
      (after (.portLWrite 0x300000 (some 1 :: List.replicate 7 none))
        (withSlot keyed skip)).mail.reports = fault := by decide +kernel

/-! ### Witnesses: reads of an outbound extent -/

/-- Bytes that count up from `n` in steps of 7. -/
def counting (n count : Nat) : List Byte := (List.range count).map (fun i => BitVec.ofNat 8 (n + 7 * i))

/-- A bound outbound context with a payload of 40 bytes at 0x100014, of which `coverage` have been absorbed, all
three keystream blocks held. -/
def protecting (coverage : Nat) : OutContext :=
  let t := ({ Tag.start with keys := some (1000003, 100) } : Tag).absorbAll (zeroes coverage)
  { OutContext.fresh 9 0 0x100004 40 .data true false [] (descriptor 0x88 64 0x100004 0) with
    binding := .bound, keyRef := some (.session 2 0 4 1), epoch := some 4, sequence := some 1
    header := some (headerBytes .data 0x0210 40 4 1), coverage
    tag := if coverage = 40 then t.finish else t
    keystream := ⟨1, [(1, counting 1 16), (2, counting 50 16), (3, counting 99 16)], []⟩ }

/-- Link 0 keyed with that context, its payload in memory. -/
def readable (c : OutContext) : State :=
  { keyed.setOut 0 (some c) with
    memory := memWriteBytes [] 0x100014 ((counting 3 40).map some) }

/-- The data a port L read was answered with. -/
def answered (s : State) : List Byte :=
  match s.steering.l.answered with
  | some (.data b) => b
  | _ => []

theorem test_outbound_extent_reads :
    let s := readable (protecting 0)
    let full := readable (protecting 40)
    let lost (coverage : Nat) := readable { protecting coverage with lost := some .keyLost }
    let unbound := after (.portLRead 0x100000 2) (readable { protecting 0 with binding := .unbound })
    s.beatsIn 0x100000 8 (.transmitGuard 0) = true ∧
      unbound.keys.requests = [.sequence 0 9] ∧ unbound.steering.l.answered = none ∧
      answered (after (.portLRead 0x100038 3) (lost 0)) = zeroes 4 ++ List.replicate 8 0xFF ++ zeroes 12 ∧
      answered (after (.portLRead 0x100038 2) (lost 40)) =
        zeroes 4 ++ (tagBytes ((protecting 40).tag.value.getD 0)).map (~~~ ·) ++ zeroes 4 ∧
      answered (after (.portLRead 0x100000 2) s) =
        zeroes 4 ++ ((protecting 0).header.getD []).take 12 ∧
      answered (after (.portLRead 0x100040 1) full) =
        (tagBytes ((protecting 40).tag.value.getD 0)).drop 4 ++ zeroes 4 := by decide +kernel

theorem test_gap_fills :
    let gap := after (.portLRead 0x100030 1) (readable (protecting 5))
    let trailer := after (.portLRead 0x100040 1) (readable (protecting 5))
    (gap.link 0).outContext.map (fun c => (c.fill, c.keystream.start)) =
        some (some ⟨5, 27, true, none⟩, 1) ∧
      gap.internal.reads = [⟨0x100018, 3, .fill 0 9⟩] ∧ gap.steering.l.accesses = [] ∧
      (trailer.link 0).outContext.map (·.fill) = some (some ⟨5, 39, true, none⟩) ∧
      trailer.internal.reads = [⟨0x100018, 5, .fill 0 9⟩] := by decide +kernel

theorem test_payload_reads :
    let c := protecting 0
    let s := readable c
    let plain (o : Nat) : Byte := memRead s.memory (0x100014 + o)
    let t := after (.portLRead 0x100010 6) s
    let u := after .portMGrant t
    t.steering.l.accesses = [⟨0, .payload, 0x100010, 6, none⟩] ∧ t.granted = some .l ∧
      (∀ o, o < 40 → (c.keystream.held.lookup (1 + o / 16)).isSome = true) ∧
      answered u = ((c.header.getD []).drop 12) ++ (List.range 40).map (c.cipherAt plain) ++
        (tagBytes ((c.tagThrough plain 40).value.getD 0)).take 4 ∧
      (u.link 0).outContext = some { c with coverage := 40, tag := c.tagThrough plain 40 } := by
  decide +kernel

/-- A gap fill of that context from offset 5 to `last`, its read's data at hand. -/
def filling (last beats : Nat) : State :=
  { readable { protecting 5 with fill := some ⟨5, last, true, none⟩ } with
    completions := [.data (.fill 0 9) (counting 9 (8 * beats))] }

/-- Coverage, next fill offset and window start of link 0's outbound context. -/
def fillOf (s : State) : Option (Nat × Option Nat × Nat) :=
  (s.link 0).outContext.map (fun c => (c.coverage, c.fill.map (·.next), c.keystream.start))

theorem test_fill_data :
    let whole := after .internalReadData (filling 27 3)
    let part := after .internalReadData (filling 39 2)
    fillOf whole = some (28, none, 2) ∧ whole.internal.reads = [] ∧
      fillOf part = some (20, some 20, 2) ∧ part.internal.reads = [⟨0x100028, 3, .fill 0 9⟩] ∧
      (after .internalReadData ((filling 27 3).setOut 0 none)).completions = [] := by decide +kernel

/-- When the fill before a held read ends, the window stays at the block of the fill end, and the read is served
from it: block 1 is still held when the line controller goes back to it (R61, R66, the worked example of chapter 4;
log 28). -/
theorem test_window_stays_when_the_fill_ends :
    let s := readable { protecting 5 with pointer := 0x100000 }
    let held (s : State) : Option (List Nat) :=
      (s.link 0).outContext.map (fun c => c.keystream.held.map Prod.fst)
    let t := after .internalReadData { after (.portLRead 0x100020 2) s with
      completions := [.data (.fill 0 9) (counting 9 16)] }
    let u := after .portMGrant t
    let back := after (.portLRead 0x100010 1) u
    fillOf t = some (16, none, 1) ∧ held t = some [1, 2, 3] ∧
      t.steering.l.accesses = [⟨0, .payload, 0x100020, 2, none⟩] ∧
      (answered u).length = 16 ∧ fillOf u = some (32, none, 1) ∧ held back = some [1, 2, 3] ∧
      back.steering.l.accesses = [⟨0, .payload, 0x100010, 1, none⟩] := by decide +kernel

/-- A read that starts below coverage takes the window to its first payload byte (R61). -/
theorem test_window_goes_to_a_taken_read :
    let t := after (.portLRead 0x100020 1) (readable { protecting 40 with pointer := 0x100000 })
    fillOf t = some (40, none, 2) ∧
      (t.link 0).outContext.map (fun c => c.keystream.held.map Prod.fst) = some [2, 3] := by
  decide +kernel

/-- A substituted keepalive on link 0's sub-window, its contents complete. -/
def substituted : OutContext :=
  { protecting 0 with
    substituted := true, cls := .keepalive, pointer := 0x303000, len := 8
    contents := counting 20 8, contentsComplete := true }

theorem test_substituted_reads :
    let plain := byteAt substituted.contents
    let t := after (.portLRead 0x303010 2) (readable substituted)
    (readable substituted).beatsIn 0x303010 2 (.phantom 0 0x303000) = true ∧
      answered t = (List.range 8).map (substituted.cipherAt plain) ++
        tagBytes ((substituted.tagThrough plain 8).value.getD 0) ∧
      (t.link 0).outContext.map (·.coverage) = some 8 := by decide +kernel

/-- The shop processor reads the sub-window of an open substituted context (R53). -/
theorem test_phantom_read_of_an_open_context :
    let read (c : OutContext) (start : Long) (beats : Nat) : List Byte :=
      match (after (.portPRead start beats) (readable c)).steering.p.answered with
      | some (.data b) => b
      | _ => []
    let bare := { substituted with header := none, contentsComplete := false }
    (readable substituted).beatsIn 0x303000 8 (.phantom 0 0x303000) = true ∧
      substituted.header.isSome = true ∧ substituted.tag.value = none ∧
      read substituted 0x303000 8 = substituted.header.getD [] ++ counting 20 8 ++ zeroes 40 ∧
      read { substituted with tag := { substituted.tag with value := some 0x0102 } } 0x303018 2 =
        [2, 1] ++ zeroes 14 ∧
      read bare 0x303000 8 = zeroes 64 := by decide +kernel

/-! ### Witnesses: received frames and renewal jobs -/

/-- A read of the outbound extent is held when the drain limit comes: it is answered as of a key-lost frame, and
the completion behind it is no longer one of an open context (R26, R73). -/
theorem test_drain_limit_answers_the_held_read :
    let s := after (.portLRead 0x100018 3) (draining true 65538)
    let s := completed false s 0 44 none4
    let t := after (.drainLimitExpiry 0) s
    s.steering.l.current.isSome = true ∧ s.steering.l.presented.length = 1 ∧
      answered s = [] ∧ (t.link 0).lastTransmit = none ∧
      (replacements t).take 1 = [(.replacement 0 0, 0x45)] ∧
      t.mail.reports.any (fun r => r.2.detail == .ringFault 0x300000) = true ∧
      t.steering.l.answered = some .acknowledged := by decide +kernel

/-- The renewal payload: epoch, KEK slot, flags, activation, lifetime, overlap, early grace, check value. -/
def renewalOf (epoch kek flags activation lifetime overlap grace : Nat) (check : List Byte) : List Byte :=
  leBytes 2 epoch ++ leBytes 1 kek ++ leBytes 1 flags ++ leBytes 4 activation ++ leBytes 4 lifetime ++
    leBytes 2 overlap ++ leBytes 2 grace ++ List.replicate 32 9 ++ check

/-- A renewal job of link 0 at a step, its slot waiting for it. -/
def jobAt (step : JobStep) (payload : List Byte) : Job :=
  ⟨7, 0, payload, 0, 26, 0, step, none, none, none⟩

/-- The keyed part with that job. -/
def working (j : Job) : State :=
  let s := (withCopies keyed).setSlot 1 0 { SlotRecord.clear with
    copy := some (descriptor 0x88 600 0x200004 0), pending := true, job := some ⟨some 2, 56, 0, 26⟩ }
  { s with keys := { s.keys with jobs := [j] } }

/-- A transform of the key unit's is done. -/
def transformed (j : Job) (purpose : Purpose) (out : List Byte) : State :=
  { working j with cipher := ⟨bench.cipher.queues,
    .busy ⟨.keyUnit, 7, purpose, zeroes 16, .candidate⟩ out, 16⟩ }

theorem test_unwrap_results :
    let j := jobAt .unwrapping (renewalOf 5 0 0 100 1000 5 10 (zeroes 8))
    let t := after .cipherResult (transformed j (.unwrap 1) (List.replicate 16 1))
    let u := after .cipherResult
      (transformed { j with half1 := some (zeroes 16) } (.unwrap 2) (List.replicate 16 1))
    t.keys.jobs.map (·.half1) = [some (List.replicate 16 8)] ∧
      u.keys.jobs.map (fun i => (i.step, i.candidate)) =
        [(.checking, some (zeroes 16 ++ List.replicate 16 8))] ∧
      u.cipher.queues[(16 : Fin 17)].map (·.purpose) = [.check] := by decide +kernel

theorem test_jobs_end_and_start :
    let payload (epoch kek : Nat) := renewalOf epoch kek 0 100 1000 5 10 (zeroes 8)
    let start (epoch kek : Nat) : State := State.startJobs jobStarts (working (jobAt .queued (payload epoch kek)))
    let gone := jobAt .unwrapping (payload 5 0)
    let fetch : State := (working gone).askStore (.keyFetch 1)
    let fetch : State := { fetch with
      cipher := ⟨bench.cipher.queues, .fetching ⟨.keyUnit, 7, .unwrap 1, zeroes 16, .held (.kek 1 0)⟩ none,
        16⟩ }
    (start 5 0).store.requests = [.kekCheck 7 0] ∧ (start 5 0).keys.jobs.map (·.step) = [.askedKek] ∧
      replacements (start 6 0) = [(.replacement 1 0, 0x52)] ∧ (start 6 0).keys.jobs = [] ∧
      (start 6 0).mail.statuses = [⟨0, true, 0x52, false⟩] ∧
      replacements (start 5 4) = [(.replacement 1 0, 0x46)] ∧
      replacements (after .keyFetch fetch) = [(.replacement 1 0, 0x46)] ∧
      (after .keyFetch fetch).cipher.engine = .free ∧ (after .keyFetch fetch).keys.jobs = [] := by
  decide +kernel

theorem test_kek_check_ends_the_job :
    let j (lifetime : Nat) : Job := jobAt .askedKek (renewalOf 5 0 0 100 lifetime 5 10 (zeroes 8))
    let next : Job := ⟨8, 1, renewalOf 1 3 0 0 60 0 0 (zeroes 8), 0, 27, 1, .queued, none, none, none⟩
    let two (j : Job) : State :=
      let s := working j
      { s with keys := { s.keys with jobs := [j, next] } }
    let check (s : State) : State := after .kekCheck (s.askStore (.kekCheck 7 0))
    replacements (check (working (j 59))) = [(.replacement 1 0, 0x54)] ∧
      replacements (check (working (j 31536001))) = [(.replacement 1 0, 0x54)] ∧
      (check (working (j 60))).keys.jobs.map (·.step) = [.unwrapping] ∧
      replacements (check ((working (j 60)).setKek 0 (KekSlot.blank .empty))) =
        [(.replacement 1 0, 0x46)] ∧
      (check ((two (j 60)).setKek 0 (KekSlot.blank .empty))).keys.jobs =
        [{ next with step := .askedKek }] ∧
      (check ((two (j 60)).setKek 0 (KekSlot.blank .empty))).store.requests = [.kekCheck 8 3] := by
  decide +kernel

/-- The check block of a job's candidate has come back. -/
def checked (pending : Option KeySlot) (epoch flags : Nat) (out : List Byte) : State :=
  let j := { jobAt .checking (renewalOf epoch 0 flags 100 1000 5 10 (counting 1 8)) with
    candidate := some (List.replicate 32 6) }
  let s := transformed j .check out
  after .cipherResult (match pending with | some x => s.setKey 3 x | none => s)

/-- A slot's key state, epoch and age, and the status that the job ended with. -/
structure KeyOutcome where
  state : KeyState
  epoch : Half
  age : Option Nat
  status : List (WriteUse × Byte)
  deriving DecidableEq

@[inherit_doc KeyOutcome]
def outcomeAt (s : State) (k : KeyIndex) : KeyOutcome :=
  ⟨(s.key k).state, (s.key k).epoch, (s.key k).age, replacements s⟩

/-- The job ended with a status that its slot was replaced with. -/
def endsWith (b : Byte) : List (WriteUse × Byte) := [(.replacement 1 0, b)]

theorem test_check_results :
    outcomeAt (checked none 5 0 (zeroes 16)) 0 = ⟨.empty, 0, none, endsWith 0x53⟩ ∧
      outcomeAt (checked none 6 0 (counting 1 16)) 0 = ⟨.empty, 0, none, endsWith 0x52⟩ ∧
      outcomeAt (checked none 5 0 (counting 1 16)) 0 = ⟨.pending, 5, none, endsWith 0x50⟩ ∧
      outcomeAt (checked none 5 1 (counting 1 16)) 0 = ⟨.active, 5, some 0, endsWith 0x50⟩ ∧
      ((checked none 5 1 (counting 1 16)).key 2).state = .draining := by decide +kernel

/-- A PENDING key of epoch 5 with a check value. -/
def successor (check : List Byte) : KeySlot := { sessionKey .pending 5 with check }

theorem test_check_results_for_a_pending_key :
    let run (x : KeySlot) : State := checked (some x) 5 0 (counting 1 16)
    outcomeAt (run (successor (counting 1 8))) 3 = ⟨.pending, 5, none, endsWith 0x51⟩ ∧
      (run (successor (counting 1 8))).key 3 = successor (counting 1 8) ∧
      outcomeAt (run (successor (counting 2 8))) 3 = ⟨.pending, 5, none, endsWith 0x50⟩ ∧
      ((run (successor (counting 2 8))).key 3).check = counting 1 8 := by decide +kernel

theorem test_requests_of_one_requester_wait :
    let q (ident : Nat) : StoreRequest := .transmitCommit 0 ident 0
    let x := (bench.store.ask (q 1)).ask (q 2)
    x.requests = [q 1] ∧ x.waiting = [q 2] ∧ (x.tookHead (q 1) []).requests = [q 2] ∧
      (x.tookHead (q 1) []).waiting = [] ∧ (x.ask .command).requests = [q 1, .command] := by
  decide +kernel

/-- A context whose header has 15 bytes, of a class, wire id, length and epoch; capacity 600. -/
def almost (format cls : Byte) (wire len epoch : Nat) : State × InContext :=
  let c := { InContext.fresh 9 0 0x200004 600 with
    next := 15
    headerBytes := [format, cls] ++ leBytes 2 wire ++ leBytes 2 len ++ leBytes 2 epoch ++ leBytes 6 3 ++ [0] }
  (keyed.setIn 0 (some c), c)

/-- What the sixteenth byte leaves: early status, whether the key answer is awaited. -/
def parsed (x : State × InContext) : Option (Option PartCode × Bool) :=
  ((x.1.takeByte 0 x.2 15 0).bind (fun r => (r.1.link 0).inContext)).map (fun c => (c.early, c.asking))

theorem test_header_checks :
    parsed (almost 2 0 0x0210 8 4) = some (some .badClass, false) ∧
      parsed (almost 1 0 0x0211 8 4) = some (some .misdirected, false) ∧
      parsed (almost 1 5 0x0210 8 4) = some (some .badClass, false) ∧
      parsed (almost 1 0 0x0210 577 4) = some (some .tooLong, false) ∧
      parsed (almost 1 0 0x0210 576 4) = some (none, true) ∧
      parsed (almost 1 1 0x0210 9 4) = some (some .badClass, false) ∧
      parsed (almost 1 2 0x0210 55 4) = some (some .badRenewal, false) ∧
      parsed (almost 1 0 0x0210 8 0) = some (some .noKey, false) ∧
      parsed (almost 1 2 0x0210 56 0) = some (none, true) ∧
      parsed ((almost 1 3 0x0210 8 0).1.setLink 0
        { (almost 1 3 0x0210 8 0).1.link 0 with kek := none }, (almost 1 3 0x0210 8 0).2) =
          some (some .kekAbsent, false) := by decide +kernel

/-- What a byte taken leaves: the byte stored, and of the context next offset, stream fault, trailer and
verdict. -/
structure Taken where
  stored : Byte
  next : Nat
  fault : Bool
  trailer : List Byte
  verdict : Option Bool
  deriving DecidableEq

/-- A byte offered to the context of `receivingWith f` at an offset. -/
def offeredByte (f : InContext → InContext) (x : Nat) (b : Byte) : Option Taken :=
  ((receivingWith f).takeByte 0 (f (receiving 0 4)) x b).bind (fun r =>
    (r.1.link 0).inContext.map (fun c => ⟨r.2, c.next, c.streamFault, c.trailer, c.verdict⟩))

/-- A usable key, its tag keys and first block there. -/
def usableKey (c : InContext) : InContext :=
  { c with
    keyRef := some (.session 2 0 4 1), keystream := ⟨1, [(1, counting 1 16)], []⟩
    tag := { Tag.start with keys := some (1000003, 100) } }

/-- Header bytes are still awaited. -/
def inHeader (c : InContext) : InContext :=
  { c with next := 3, headerBytes := [1, 0, 0x10], header := none }

/-- The last trailer byte is awaited, the frame's tag a value. -/
def lastByte (tag : Nat) (c : InContext) : InContext :=
  { usableKey c with
    next := 31, trailer := zeroes 7
    tag := { Tag.start with keys := some (1000003, 100), value := some tag } }

theorem test_bytes_in_and_out_of_order :
    offeredByte (fun c => { c with asking := true }) 16 7 = none ∧
      offeredByte id 17 7 = some ⟨0, 16, true, [], none⟩ ∧
      offeredByte (fun c => { c with next := 32 }) 32 7 = some ⟨0, 32, true, [], none⟩ ∧
      offeredByte (fun c => { c with streamFault := true }) 16 7 =
        some ⟨0, 16, true, [], none⟩ ∧
      offeredByte inHeader 3 7 = some ⟨7, 4, false, [], none⟩ ∧
      offeredByte id 16 7 = some ⟨0, 17, false, [], none⟩ := by decide +kernel

theorem test_payload_and_trailer_bytes :
    offeredByte (fun c => { usableKey c with tag := Tag.start }) 16 7 = none ∧
      offeredByte (fun c => { usableKey c with early := some .quarantined }) 16 7 =
        some ⟨0, 17, false, [], none⟩ ∧
      offeredByte (fun c => { usableKey c with keystream := ⟨1, [], []⟩ }) 16 7 = none ∧
      offeredByte usableKey 16 7 = some ⟨6, 17, false, [], none⟩ ∧
      offeredByte (fun c => { usableKey c with renewal := some (zeroes 56) }) 16 7 =
        some ⟨0, 17, false, [], none⟩ ∧
      offeredByte (lastByte 0) 31 0 = some ⟨0, 32, false, zeroes 8, some true⟩ := by
  decide +kernel

theorem test_trailer_verdicts :
    offeredByte (lastByte 1) 31 0 = some ⟨0, 32, false, zeroes 8, some false⟩ ∧
      offeredByte (fun c => { c with next := 24, early := some .tooLong, capacity := 8 }) 24 7 =
        some ⟨0, 25, false, [7], none⟩ := by decide +kernel

theorem test_stored_beats :
    let fresh := keyed.setIn 0 (some (InContext.fresh 9 0 0x200004 600))
    let beat (b : Byte) : List (Option Byte) := List.replicate 8 (some b)
    let t := after (.portLWrite 0x200000 (List.replicate 4 none ++ List.replicate 4 (some 7))) fresh
    let out := after (.portLWrite 0x200008 (beat 5)) fresh
    fresh.beatsIn 0x200000 1 (.receiveGuard 0) = true ∧
      t.steering.l.accesses = [⟨0, .store, 0x200000, 1, some (List.replicate 4 none ++ List.replicate 4 (some 7))⟩] ∧
      (t.link 0).inContext.map (·.headerBytes) = some [7, 7, 7, 7] ∧
      t.granted = some .l ∧ (after .portMGrant t).steering.l.answered = some .acknowledged ∧
      (after .portMGrant t).memory = [(0x200004, 7), (0x200005, 7), (0x200006, 7), (0x200007, 7)] ∧
      out.steering.l.accesses = [⟨0, .store, 0x200008, 1, some (beat 0)⟩] ∧
      (out.link 0).inContext.map (·.streamFault) = some true := by decide +kernel

/-- A write outside the open buffer, or with no context, is stored as zeroes with one RING_FAULT (R50); a write of
bytes 8 to 15 of a descriptor alone is discarded with RING_FAULT (R35). -/
theorem test_writes_past_their_context :
    let beat : List (Option Byte) := [none, some 7, none, none, none, none, none, some 7]
    let open_ := keyed.setIn 0 (some (InContext.fresh 9 0 0x200004 600))
    let t (s : State) (start : Long) : State := after (.portLWrite start (beat ++ List.replicate 8 none)) s
    let zeroed := [none, some 0#8, none, none, none, none, none, some 0#8]
    let fault (s : State) (start : Nat) : Prop :=
      s.mail.reports = [(.steering, ⟨.ringFault start, some 0, 0⟩)]
    let d := after (.portLWrite 0x300018 beat) (withCopies keyed)
    open_.beatsIn 0x200260 2 (.receiveGuard 0) = true ∧
      (t open_ 0x200260).steering.l.accesses = [⟨0, .store, 0x200260, 1, some zeroed⟩] ∧
      fault (t open_ 0x200260) 0x200260 ∧ (t open_ 0x200260).links = open_.links ∧
      (t keyed 0x200000).steering.l.accesses = [⟨0, .store, 0x200000, 1, some zeroed⟩] ∧
      fault (t keyed 0x200000) 0x200000 ∧
      (withCopies keyed).beatsIn 0x300018 1 (.descriptors 0 ⟨0, true, 0x300000, 4⟩) = true ∧
      d.mail.reports = [(.linkUnit, ⟨.ringFault 0x300018, some 0, 0⟩)] ∧
      d.steering.l.answered = some .acknowledged ∧ d.rings = (withCopies keyed).rings := by
  decide +kernel

/-- Past the last slot of a ring nothing is a descriptor, WRAP or not (R28). -/
theorem test_past_the_last_slot :
    let t := after (.portLRead 0x300040 2) keyed
    keyed.steering.map.place 0x300038 = .descriptors 0 ⟨0, true, 0x300000, 4⟩ ∧
      keyed.steering.map.place 0x300040 = .unwatched ∧
      t.steering.l.accesses = [⟨0, .plain, 0x300040, 2, none⟩] ∧ t.mail.reports = [] := by
  decide +kernel

/-- A verified frame of a class is settled by the key unit. -/
def settled (cls : Byte) (f : InContext → InContext) (filter : Nat) (jobs : List Job) : State :=
  let s := confirming.setLink 0 { confirming.link 0 with
    filter, lastKeepalive := if filter = 0 then none else some (counting 1 8) }
  let s := s.setIn 0 (some (f { receiving cls 4 with
    phase := .confirming, keyRef := some (.session 2 0 4 1), verdict := some true, trailer := zeroes 8 }))
  after (.settleRequest 0) (({ s with keys := { s.keys with jobs } }).askKeyUnit
    (.settle 0 9 (.session 2 0 4 1) 3))

/-- Status of the replacement, filter state, beacons handed over, jobs. -/
structure Ending where
  status : List Byte
  filter : Nat
  beacons : Nat
  jobs : Nat
  deriving DecidableEq

@[inherit_doc Ending]
def ending (s : State) : Ending :=
  ⟨(replacements s).map (·.2), (s.link 0).filter, s.mail.beacons.length, s.keys.jobs.length⟩

/-- A payload of a keepalive frame. -/
def withKeepalive (n : Nat) (c : InContext) : InContext := { c with keepalive := some (counting n 8) }

theorem test_verified_frames_end_by_class :
    ending (settled 0 (fun c => { c with outcome := some .quarantined }) 1 []) = ⟨[0x4A], 0, 0, 0⟩ ∧
      ending (settled 0 id 1 []) = ⟨[0x00], 0, 0, 0⟩ ∧
      ending (settled 4 id 1 []) = ⟨[0x00], 0, 0, 0⟩ ∧
      ending (settled 3 (fun c => { c with beacon := some (zeroes 8) }) 1 []) =
        ⟨[0x4F], 0, 1, 0⟩ := by decide +kernel

theorem test_keepalive_filter :
    ending (settled 1 (withKeepalive 1) 0 []) = ⟨[0x00], 0, 0, 0⟩ ∧
      ending (settled 1 (withKeepalive 1) 1 []) = ⟨[0x00], 2, 0, 0⟩ ∧
      ending (settled 1 (withKeepalive 1) 2 []) = ⟨[0x4E], 2, 0, 0⟩ ∧
      ending (settled 1 (withKeepalive 2) 2 []) = ⟨[0x00], 0, 0, 0⟩ := by decide +kernel

theorem test_renewal_handoff :
    let run (l : LinkSlot) : State := settled 2 (fun c => { c with renewal := some (zeroes 56) }) 1
      [⟨5, l, renewalOf 1 3 0 0 60 0 0 (zeroes 8), 0, 27, 1, .askedKek, none, none, none⟩]
    ending (run 3) = ⟨[], 0, 0, 2⟩ ∧ ((run 3).slot 1 0).job.isSome = true ∧
      ending (run 0) = ⟨[], 0, 0, 1⟩ ∧
      ((run 0).link 0).inContext.map (·.phase) = some .awaitingHandoff := by decide +kernel

/-- A renewal that joins an empty queue starts at once (R107, R108). -/
theorem test_handoff_to_an_empty_queue :
    let run (epoch kek : Nat) : State := settled 2 (fun c => { c with
      renewal := some (renewalOf epoch kek 0 100 1000 5 10 (zeroes 8)) }) 1 []
    let starts := run 5 2
    (starts.link 0).inContext = none ∧ starts.keys.jobs.map (·.step) = [.askedKek] ∧
      starts.store.requests = [.kekCheck confirming.nextIdent 2] ∧ replacements starts = [] ∧
      ending (run 6 2) = ⟨[0x52], 0, 0, 0⟩ ∧ ending (run 5 4) = ⟨[0x46], 0, 0, 0⟩ ∧
      (run 6 2).mail.statuses = [⟨0, true, 0x52, false⟩] := by decide +kernel

theorem test_settlement_codes :
    let c : InContext := { usableKey (receiving 0 4) with next := 32, verdict := some true }
    c.code 32 = none ∧ ({ c with early := some .quarantined } : InContext).code 32 = none ∧
      ({ c with early := some .noKey } : InContext).code 32 = some .noKey ∧
      ({ c with lost := some .keyLost, streamFault := true } : InContext).code 32 = some .keyLost ∧
      ({ c with streamFault := true } : InContext).code 31 = some .streamFault ∧
      c.code 31 = some .tooShort ∧ c.code 33 = some .streamFault ∧
      ({ c with next := 31 } : InContext).code 32 = some .tooShort ∧
      ({ c with verdict := some false } : InContext).code 32 = some .tagMismatch := by decide +kernel

/-! ### Witnesses: drains, keys, readers of a boundary, postings -/

/-- The keyed part at `now` seconds, time valid, key 3 PENDING with an overlap, key 4 DRAINING when asked. -/
def activating (now : Nat) (overlap : Nat) (drains : Bool) : State :=
  let s := keyed.setKey 3 { sessionKey .pending 5 with overlap }
  let s := if drains then s.setKey 4 (sessionKey .draining 3) else s
  { s with time := { s.time with valid := true, seconds := BitVec.ofNat 32 now } }

/-- At the drain limit a substituted context closes without a replacement, and a slot that waits for a renewal job is
replaced with LINK_CLOSED while the job goes on (R26, R73). -/
theorem test_drain_limit_other_slots :
    let s := (draining true 65538).setOut 0 (some substituted)
    let s := s.setSlot 1 2 ⟨true, none, some (descriptor 0x88 600 0x200004 0), some ⟨some 2, 56, 4, 26⟩⟩
    let s := { s with keys := { s.keys with
      jobs := [⟨7, 0, zeroes 56, 4, 26, 2, .unwrapping, none, none, none⟩] } }
    let t := after (.drainLimitExpiry 0) s
    replacements t = [(.replacement 1 0, 0x4C), (.replacement 1 2, 0x43)] ∧
      (t.link 0).outContext = none ∧ t.slot 0 0 = s.slot 0 0 ∧ t.keys.jobs = s.keys.jobs ∧
      t.slot 1 2 = ⟨true, none, some (descriptor 0x88 600 0x200004 0), none⟩ ∧
      (t.link 0).state = .closing ∧ (t.link 0).lastTransmit = none := by decide +kernel

/-- A link leaves quarantine by an activation with E and A cleared, by a key loss with every field kept (R161). -/
theorem test_leaving_quarantine :
    let scored (s : State) : State := s.setLink 0 { s.link 0 with
      state := .quarantined, health := { Health.reset with e := 9, a := 4, cleanRun := 2 } }
    let overdue := (scored keyed).setKey 2 { sessionKey .overdue 4 with age := some 1060 }
    let left (s : State) (state : LinkState) (h : Health) (cause : ReleaseCause) : Prop :=
      (s.link 0).state = state ∧ (s.link 0).health = h ∧
        (.healthMonitor, ⟨.linkReleased cause 9 4, some 0, 0⟩) ∈ s.mail.reports
    left (after (.keyExpiry 0) overdue) .awaitKey ((scored keyed).link 0).health .keyLoss ∧
      left (after (.keyExpiry 0) (overdue.setKey 3 (sessionKey .pending 5))) .keyed
        { Health.reset with cleanRun := 2 } .activation ∧
      left ((scored (activating 100 5 false)).timedActivationTest 0) .keyed
        { Health.reset with cleanRun := 2 } .activation := by decide +kernel

/-- The first frame under a PENDING key activates it with cause receive (R95, R113). -/
theorem test_receive_led_activation :
    let t (overlap : Nat) : State :=
      let s := (withCopies (activating 9 overlap true)).setIn 0 (some { receiving 0 5 with
        phase := .confirming, keyRef := some (.session 3 0 5 1), verdict := some true,
        trailer := zeroes 8 })
      after (.settleRequest 0) (s.askKeyUnit (.settle 0 9 (.session 3 0 5 1) 3))
    ((t 5).key 3).state = .active ∧ ((t 5).key 3).window.highest = some 3 ∧
      ((t 5).key 2).state = .draining ∧ ((t 5).key 2).drain = some 5 ∧ (t 5).key 4 = KeySlot.empty ∧
      ((t 5).mail.reports.map (·.2.detail)).take 2 = [.drainCut 3 3, .keyActivated 5 .receive 4] ∧
      (t 0).key 2 = KeySlot.empty ∧
      (.keyUnit, ⟨.keyRetired 4 .active .superseded, some 0, 0⟩) ∈ (t 0).mail.reports := by
  decide +kernel

/-- A retirement notice loses a context that is receiving under the key, and no other (R93). -/
theorem test_notice_to_an_inbound_context :
    let s (f : InContext → InContext) : State :=
      let s := (shop .keyed).setKey 2 { sessionKey .draining 4 with drain := some 0 }
      let s := s.setIn 0 (some (f { receiving 0 4 with keyRef := some (.session 2 0 4 1) }))
      { s with cipher := s.cipher.put { asking inForce with requester := .inbound 0 } }
    let lost (f : InContext → InContext) : Option (Option PartCode) :=
      ((after (.drainEnd 0) (s f)).link 0).inContext.map (·.lost)
    (s id).drainingKey 0 = some 2 ∧ lost id = some (some .keyLost) ∧
      (after (.drainEnd 0) (s id)).cipher.queue (.inbound 0) = [] ∧
      lost (fun c => { c with early := some .replay }) = some none ∧
      lost (fun c => { c with phase := .confirming }) = some none ∧
      lost (fun c => { c with keyRef := some (.session 2 0 4 9) }) = some none := by decide +kernel

theorem test_drained_link_answers_its_close :
    let record : List Byte := 0x01 :: 0x07 :: zeroes 30
    let waits (l : LinkSlot) : State := { draining false 9 with
      command := ⟨[4], some ⟨4, .closing record l⟩⟩ }
    let t := (waits 0).closeIfDrained 0
    (waits 0).drained 0 = true ∧ record.length = 32 ∧
      t.internal.writes.map (·.bytes) = [0x03 :: 0x07 :: zeroes 30] ∧
      t.command.executing.map (·.phase) = some .answered ∧
      ((waits 1).closeIfDrained 0).command = (waits 1).command ∧
      ((waits 1).closeIfDrained 0).internal = (waits 1).internal := by decide +kernel

theorem test_timed_activation :
    let t := (activating 100 5 true).timedActivationTest 0
    (activating 99 5 true).timedActivationTest 0 = activating 99 5 true ∧
      ((t.key 3).state, (t.key 3).age) = (.active, some 0) ∧
      ((t.key 2).state, (t.key 2).drain) = (.draining, some 5) ∧ t.key 4 = KeySlot.empty ∧
      t.mail.reports.map (·.2.detail) = [.drainCut 3 3, .keyActivated 5 .time 4] ∧
      ((activating 100 0 false).timedActivationTest 0).key 2 = KeySlot.empty ∧
      (((activating 100 5 false).setLink 0 { keyed.link 0 with
        state := .quarantined }).timedActivationTest 0 |>.link 0).state = .keyed := by decide +kernel

theorem test_keys_pass_a_boundary :
    let t := (activating 9 5 true).passBoundary 0
    (t.key 2).age = some 8 ∧ (t.key 4).drain = some 2 ∧ t.key 3 = (activating 9 5 true).key 3 := by
  decide +kernel

theorem test_renewal_due :
    let s (age : Nat) (next : Seq) : State := keyed.setKey 2 { sessionKey .active 4 with
      age := some age, nextSequence := next }
    let posted (t : State) := (t.dueTest 0).mail.reports.map (·.2.detail)
    (s 874 (2 ^ 47 - 1)).dueTest 0 = s 874 (2 ^ 47 - 1) ∧ posted (s 875 1) = [.renewalDue 4 false 875] ∧
      posted (s 7 (2 ^ 47)) = [.renewalDue 4 true 7] ∧
      ((s 875 1).dueTest 0).dueTest 0 = (s 875 1).dueTest 0 ∧
      posted ((s 875 1).setKey 3 (sessionKey .pending 5)) = [] ∧
      ((s 875 (2 ^ 47)).dueTest 0).freeCount = 1 := by decide +kernel

theorem test_boundary_readers :
    let s (quiet count : Nat) : State := { keyed.setLink 0 { keyed.link 0 with
        health := { Health.reset with quiet } } with
      time := { TimeBase.reset with ticks := 32768, autoPeriod := 1, autoCount := count } }
    let t := after .correctedSecondBoundary (s 89 59)
    let u := after .correctedSecondBoundary (s 88 58)
    (s 89 59).time.ranged = true ∧ (t.key 2).age = some 8 ∧ (t.link 0).health.silent = true ∧
      t.mail.reports = [(.healthMonitor, ⟨.linkSilent .timeout none, some 0, 0⟩)] ∧
      t.time.autoCount = 0 ∧ t.time.measurement.map (·.automatic) = some true ∧
      u.mail.reports = [] ∧ u.time.autoCount = 59 ∧ u.time.measurement = none := by decide +kernel

theorem test_edges_end_with_the_window :
    (after .refclkRisingEdge (counted 5 32767)).time = (counted 6 32767).time ∧
      after .refclkRisingEdge (counted 5 32768) = counted 5 32768 := by decide +kernel

theorem test_postings_enter_in_order :
    let s := reporting 1 ⟨.linkClosed, some 0, 0⟩
    let t := after (.reportPosting .keyUnit) (after (.reportPosting .linkUnit) s)
    after (.reportPosting .keyUnit) s = s ∧ t.mail.reports = [] ∧
      t.reports.queue.map (·.link) = [none, some 0, some 1] := by decide +kernel

theorem test_writer_waits_for_a_dispatched_ring_command :
    let s := reporting 1 ⟨.linkClosed, some 0, 0⟩
    let c := Instr.setReportRing 0x9000 16
    after .reportWriterTake (dispatch c s) = dispatch c s ∧
      (after .reportWriterTake (dispatch .nop s)).reports.inFlight = some 15 := by decide +kernel

/-- Link 0's outbound frame under KEK slot 0, its request for a block waiting. -/
def underKek : State :=
  (ciphering (.held (.kek 0 0)) .free).setOut 0 (some { sending with keyRef := some (.kek 0 0) })

/-- KEK slot 0 erased. -/
def erased (s : State) : State := after (.eraseKek 0) (atStore (.eraseKek 0) { s with
  store := { s.store with requests := [] } })

/-- A transform that the engine took before the erase completes with the old KEK (R133), but for a fetch that the
store takes while PARKED, which is key-gone (R125). -/
theorem test_transform_taken_before_the_erase :
    let q := asking (.held (.kek 0 0))
    let done : Engine := .busy q (blockTransform (List.replicate 32 7) (List.replicate 16 1))
    let s := (erased (after .cipherTake underKek)).askStore (.keyFetch 0)
    s.kek 0 = KekSlot.blank .empty ∧ s.erasures 0 = 1 ∧
      s.cipher.engine = .fetching q (some (List.replicate 32 7)) ∧
      (after .keyFetch s).cipher.engine = done ∧
      (after .keyFetch (after .retainFall s)).cipher.engine = .free ∧
      (after .keyFetch (after .retainRise (after .retainFall s))).cipher.engine = done ∧
      (erased bench).cipher.engine = .free := by decide +kernel

/-- A transform taken after the erase is key-gone, though the slot has been loaded again, and so is a receive
commit asked before it (R69, R93, R133). -/
theorem test_reload_is_another_kek :
    let reloaded (s : State) : State := (erased s).setKek 0 loadedKek
    let t := after .keyFetch (after .cipherTake (reloaded underKek))
    let heard : State := underKek.setIn 0 (some { receiving 2 0 with keyRef := some (.kek 0 0) })
    let heard : State := { heard with cipher := ⟨bench.cipher.queues,
      .fetching { asking (.held (.kek 0 0)) with requester := .inbound 0 } none, 8⟩ }
    let u := after .keyFetch (((heard.eraseKek 0).setKek 0 loadedKek).askStore (.keyFetch 0))
    let commit := after .receiveCommit ((reloaded confirming).askStore (.receiveCommit 0 9 0 0 26))
    (t.link 0).outContext.map (·.lost) = some (some .kekAbsent) ∧ t.cipher.engine = .free ∧
      (u.link 0).inContext.map (·.lost) = some (some .kekAbsent) ∧
      commit.mail.statuses = [⟨0, true, 0x46, false⟩] ∧ (commit.kek 0).highWater = 25 ∧
      (reloaded underKek).usableKek (.kek 0 1) = some (List.replicate 32 7) := by decide +kernel

/-- Nothing is granted between a result's write and its landing (R180; log 48). -/
theorem test_no_grant_before_the_landing :
    let s : State := { waiting with completions := [.landed (.result 0)] }
    s.granted = none ∧ (after .internalWriteLanded s).granted = some .p := by decide +kernel

/-! ### Witnesses: frames and invariants -/

theorem test_EngineStepsLeaveTheRestAlone :
    isEngineStep .cipherTake = true ∧
      (after .cipherTake (ciphering inForce .free)).cipher ≠ (ciphering inForce .free).cipher := by
  decide +kernel

theorem test_invariants_hold_in_small_states :
    keyed.safe = true ∧ (shop .keyed).regionsDisjoint = true ∧
      (keyed.setKey 3 (sessionKey .pending 5)).oneKeyPerStanding = true ∧
      (∀ l, (keyed.link l).health.legal = true) ∧
      (stepped { keyed with pending := [.correctedSecondBoundary] }).safe = true := by
  decide +kernel

/-- The invariants rule states out. -/
theorem test_invariants_rule_states_out :
    (timed { TimeBase.reset with ticks := 32769 }).safe = false ∧
      (keyed.setKey 3 (sessionKey .overdue 5)).oneKeyPerStanding = false ∧
      ({ shop .keyed with phantom := some 0x100000 } : State).regionsDisjoint = false ∧
      ({ Health.reset with t := 0 } : Health).legal = false := by decide +kernel

theorem test_LoadedCountersNeverFall :
    ((committing 40).kek 0).state = .loaded ∧
      ((after .transmitCommit (committing 40)).kek 0).state = .loaded := by decide +kernel

end Sys2Proof.Tests
end

section
/-! PROOFS. The hold-off of outbound descriptors (R32) and CONFIG_LINK (R19). -/

namespace Sys2Proof.Proofs.LinksAndHoldOff
open Sys2Proof Sys2Proof.Machine

/-! ### The hold-off test (R32) -/

theorem holdOffPassed_zero (s : State) (l : LinkSlot) : s.holdOffPassed l 0 = true := by
  simp [State.holdOffPassed]

/-- The test counts from the last transmit completion if there is one, and from the open stamp otherwise. -/
theorem holdOffPassed_iff {s : State} {l : LinkSlot} {h : Nat} {stamp : Seq} (hne : h ≠ 0)
    (since : ((s.link l).lastTransmit <|> (s.link l).openStamp) = some stamp) :
    s.holdOffPassed l h = true ↔ 32 * h ≤ s.ticksSince stamp := by
  simp [State.holdOffPassed, since, hne]

/-- What R30 presents last: an acceptable descriptor whose hold-off has not passed (case 8). -/
theorem presentOut_before_holdOff {s : State} {r : RingIndex} {l : LinkSlot} {i : Nat}
    {d : List Byte} {cls : FrameClass} (pending : (s.slot r i).pending = false)
    (held : (s.slot r i).held = none) (context : (s.link l).outContext = none)
    (own : descOwn d = true) (skip : descSkip d = false)
    (check : outboundCheck (s.link l) d = .inr cls)
    (early : s.holdOffPassed l (descHoldOff d) = false) :
    s.presentOut r l i d = (s, withOwnClear d) := by
  simp [State.presentOut, pending, held, context, own, skip, check, early]

/-- Settles O17: the test by where its stamp comes from, and the last case of R30 while it fails. -/
theorem holdOffSpacesDescriptors : Obligations.HoldOffSpacesDescriptors := by
  intro s l
  refine ⟨holdOffPassed_zero s l, ?_, ?_, ?_⟩
  · intro h stamp hne last
    exact holdOffPassed_iff hne (by simp [last])
  · intro h stamp hne last opened
    exact holdOffPassed_iff hne (by simp [last, opened])
  · intro r i d cls pending held context own skip check early
    exact presentOut_before_holdOff pending held context own skip check early

/-! ### CONFIG_LINK's checks and its effect (R19) -/

theorem bindingArg_eq_none {b : Byte} (h : 4 ≤ b.toNat) (h' : b ≠ 0xFF#8) :
    bindingArg b = none := by
  simp [bindingArg, h', kekArg_eq_none h]

theorem wireTaken_iff (s : State) (l : LinkSlot) (wire : Half) :
    s.wireTaken l wire = true ↔ ∃ m, m ≠ l ∧ (s.link m).wireId = some wire := by
  have every : ∀ m : LinkSlot, m ∈ allLinks := by decide
  simp [State.wireTaken, every]

section
variable {s : State} {link : Byte} {wire maxPayload : Half} {period : Byte} {grace : Half}
  {binding : Byte} {mask : List Byte} {l : LinkSlot} {kek : Option KekIndex}

/-- The first check: an argument that names no link record or no KEK binding. -/
theorem configLink_of_no_such_argument
    (h : 8 ≤ link.toNat ∨ (4 ≤ binding.toNat ∧ binding ≠ 0xFF#8)) :
    s.configLink link wire maxPayload period grace binding mask = s.refuse .badArgument := by
  rcases h with badLink | ⟨badKek, notNone⟩
  · simp [State.configLink, linkArg_eq_none badLink]
  · simp [State.configLink, bindingArg_eq_none badKek notNone]

/-- The second check: only a CLOSED link is configured. -/
theorem configLink_of_not_closed (hl : linkArg link = some l) (hk : bindingArg binding = some kek)
    (notClosed : (s.link l).state ≠ .closed) :
    s.configLink link wire maxPayload period grace binding mask = s.refuse .wrongState := by
  simp [State.configLink, hl, hk, notClosed]

/-- The third check: the max payload's range, and a wire id that is not 0 and that no other record holds. -/
theorem configLink_of_bad_values (hl : linkArg link = some l) (hk : bindingArg binding = some kek)
    (closed : (s.link l).state = .closed)
    (bad : maxPayload.toNat < 64 ∨ 8192 < maxPayload.toNat ∨ wire = 0 ∨
      s.wireTaken l wire = true) :
    s.configLink link wire maxPayload period grace binding mask = s.refuse .badArgument := by
  simp only [State.configLink, hl, hk, closed, ne_eq, not_true_eq_false, if_false, if_pos bad]

/-- With every check passed the six values are set, and the filter and the keepalive restart. -/
theorem configLink_of_good_values (hl : linkArg link = some l)
    (hk : bindingArg binding = some kek) (closed : (s.link l).state = .closed)
    (good : ¬(maxPayload.toNat < 64 ∨ 8192 < maxPayload.toNat ∨ wire = 0 ∨
      s.wireTaken l wire = true)) :
    s.configLink link wire maxPayload period grace binding mask =
      (s.setLink l { s.link l with
        wireId := some wire, maxPayload := maxPayload.toNat, keepalive := period.toNat,
        grace := grace.toNat, kek := kek, mask := mask, filter := 0,
        lastKeepalive := none }).accept := by
  simp only [State.configLink, hl, hk, closed, ne_eq, not_true_eq_false, if_false, if_neg good]

/-- The dispatched CONFIG_LINK answers what its owner's checks make of its arguments (R179). -/
theorem exec_configLink_of_offered {r : List Byte} {stamp : Seq} {a : Answer}
    (offered : s.offered (.configLink link wire maxPayload period grace binding mask) =
      some (r, stamp))
    (answer : s.configLink link wire maxPayload period grace binding mask = a) :
    exec (.configLink link wire maxPayload period grace binding mask) s =
      .next (a.1.answer r a.2.1 a.2.2) := by
  subst answer
  exact congrArg Host.Outcome.next (carryOut_of_offered offered _)

end

/-- Settles O23: one answer per check, in R19's order. -/
theorem configLinkSetsTheLink : Obligations.ConfigLinkSetsTheLink := by
  intro s r stamp link wire maxPayload period grace binding mask c offered
  refine ⟨fun bad => exec_configLink_of_offered offered (configLink_of_no_such_argument bad), ?_⟩
  rintro l kek names rfl
  have hl : linkArg link = some l := linkArg_eq_some names
  have hk : bindingArg (bindingByte kek) = some kek := bindingArg_bindingByte kek
  refine ⟨?notClosed, ?badValues, ?goodValues⟩
  case notClosed =>
    intro notClosed
    exact exec_configLink_of_offered offered (configLink_of_not_closed hl hk notClosed)
  case badValues =>
    intro closed bad
    rw [← wireTaken_iff] at bad
    exact exec_configLink_of_offered offered (configLink_of_bad_values hl hk closed bad)
  case goodValues =>
    intro closed atLeast atMost nonzero untaken
    have good : ¬(maxPayload.toNat < 64 ∨ 8192 < maxPayload.toNat ∨ wire = 0 ∨
        s.wireTaken l wire = true) := by
      rw [wireTaken_iff]
      rintro (small | large | zero | ⟨m, other, taken⟩)
      · omega
      · omega
      · exact nonzero zero
      · exact untaken m other taken
    exact exec_configLink_of_offered offered (configLink_of_good_values hl hk closed good)

end Sys2Proof.Proofs.LinksAndHoldOff
end

section
/-! PROOFS. The measurement of the oscillator and its automatic starts (R141 to R143), and SET_DRIFT (R148). -/

namespace Sys2Proof.Proofs.OscillatorDiscipline
open Sys2Proof Sys2Proof.Machine

/-! ### The nearest whole number, a half away from zero (R142) -/

/-- The rounded quotient times its divisor: the last multiple of `b` up to `|a| + b / 2`, with the sign of
`a`. -/
theorem roundRatio_mul (a : Int) {b : Nat} (pos : 0 < b) :
    ∃ p : Nat, 2 * p ≤ 2 * a.natAbs + b ∧ 2 * a.natAbs + b < 2 * p + 2 * b ∧
      roundRatio a b * b = if a < 0 then -(p : Int) else p := by
  let q := (2 * a.natAbs + b) / (2 * b)
  have below : q * (2 * b) ≤ 2 * a.natAbs + b := Nat.div_mul_le_self _ _
  have above : 2 * a.natAbs + b < (q + 1) * (2 * b) :=
    (Nat.div_lt_iff_lt_mul (by omega)).mp (Nat.lt_succ_self q)
  refine ⟨q * b, by linarith, by linarith, ?_⟩
  unfold roundRatio
  split <;> simp [q]

/-- The multiple of `b` that is taken lies within `b / 2` of `a`. -/
theorem roundRatio_nearest (a : Int) {b : Nat} (pos : 0 < b) :
    2 * (roundRatio a b * b - a).natAbs ≤ b := by
  obtain ⟨p, below, above, product⟩ := roundRatio_mul a pos
  rw [product]
  split <;> omega

/-- Of two multiples equally near, the one farther from zero is taken. -/
theorem roundRatio_half_away (a : Int) {b : Nat} (pos : 0 < b)
    (half : 2 * (roundRatio a b * b - a).natAbs = b) :
    a.natAbs < (roundRatio a b * b).natAbs := by
  obtain ⟨p, below, above, product⟩ := roundRatio_mul a pos
  rw [product] at half ⊢
  split at half <;> split <;> omega

/-! ### The evaluation of a measurement (R140 to R142) -/

/-- X and Y as whole numbers of either sign, as R141 compares them. -/
theorem valid_iff (m : Measurement) :
    m.valid = true ↔ m.edges ≠ 0 ∧ m.edges ≠ 2 ^ 32 - 1 ∧
      ((((m.fRef : Int) * 2 ^ m.k - m.edges * 32768).natAbs : Nat) : Int) * 2000 ≤
        m.fRef * 2 ^ m.k := by
  simp only [Measurement.valid, Measurement.x, Measurement.y, Bool.and_eq_true, bne_iff_ne, ne_eq,
    decide_eq_true_eq, and_assoc, ← Int.ofNat_le]
  push_cast
  rfl

/-- C′ of a measurement with an edge is nearest to 2^25 × (X − Y) / Y (R142). -/
theorem drift_nearest {m : Measurement} (edge : m.edges ≠ 0) :
    let x : Int := m.fRef * 2 ^ m.k
    let y : Int := m.edges * 32768
    2 * (m.drift * y - 2 ^ 25 * (x - y)).natAbs ≤ y.natAbs ∧
      (2 * (m.drift * y - 2 ^ 25 * (x - y)).natAbs = y.natAbs →
        (2 ^ 25 * (x - y)).natAbs < (m.drift * y).natAbs) := by
  intro x y
  have pos : 0 < m.y := by unfold Measurement.y; omega
  have hx : (m.x : Int) = x := by simp [Measurement.x, x]
  have hy : (m.y : Int) = y := by simp [Measurement.y, y]
  rw [← hx, ← hy]
  exact ⟨roundRatio_nearest _ pos, roundRatio_half_away _ pos⟩

theorem windowDue_iff {t : TimeBase} {m : Measurement} (running : t.measurement = some m) :
    t.windowDue = true ↔ m.windowOpen = true ∧ 2 ^ m.k ≤ m.count := by
  simp [TimeBase.windowDue, running]

/-- A measurement out of range leaves the time base but for its end (R141). -/
theorem evaluateMeasurement_of_invalid (s : State) {m : Measurement} (bad : m.valid = false) :
    s.evaluateMeasurement m =
      { s with
        time := { s.time with measurement := none }
        mail := { s.mail with reports := s.mail.reports ++
          [(.timeBase, ⟨.refOutOfRange m.edges m.fRef m.k, none, 0⟩)] } } := by
  simp only [State.evaluateMeasurement, bad, if_true]
  rfl

/-- A valid measurement sets C to C′ clamped; OSC_TOLERANCE, where the clamp acts, comes before CLOCK_MEASURED
(R142). -/
theorem evaluateMeasurement_of_valid (s : State) {m : Measurement} (good : m.valid = true) :
    s.evaluateMeasurement m =
      { s with
        time := { s.time with measurement := none, c := clampDrift m.drift }
        mail := { s.mail with reports := s.mail.reports ++
          (if clampDrift m.drift = m.drift then []
            else [(.timeBase, ⟨.oscTolerance m.drift (clampDrift m.drift), none, 0⟩)]) ++
          [(.timeBase, ⟨.clockMeasured m.edges (clampDrift m.drift) m.automatic, none, 0⟩)] } } := by
  simp only [State.evaluateMeasurement, good, Bool.true_eq_false, if_false]
  split
  · rw [List.append_nil]; rfl
  · rfl

theorem evaluateMeasurement_c (s : State) (m : Measurement) :
    (s.evaluateMeasurement m).time.c = if m.valid then clampDrift m.drift else s.time.c := by
  cases h : m.valid with
  | false => rw [evaluateMeasurement_of_invalid s h]; rfl
  | true => rw [evaluateMeasurement_of_valid s h]; rfl

theorem exec_measurementWindowClose_of_due {s : State} {m : Measurement}
    (running : s.time.measurement = some m) (due : s.time.windowDue = true) :
    exec .measurementWindowClose s = .next (s.evaluateMeasurement m) := by
  simp only [exec, execMeasurementWindowClose, running, due, if_true]

theorem exec_measurementWindowClose_of_not_due {s : State} (early : ¬s.time.windowDue = true) :
    exec .measurementWindowClose s = .next s := by
  simp only [exec, execMeasurementWindowClose, if_neg early]
  split <;> rfl

/-! ### Automatic starts (R143) -/

/-- A measurement starts on copies of f_ref and k; one that runs already goes on (R139). -/
theorem startMeasurement_eq (t : TimeBase) (automatic : Bool) :
    t.startMeasurement automatic = { t with
      measurement := match t.measurement with
        | some m => some m
        | none => some ⟨t.fRef, t.k, automatic, false, 0, 0⟩ } := by
  unfold TimeBase.startMeasurement
  cases h : t.measurement with
  | none => rfl
  | some m => exact congrArg (fun x => { t with measurement := x }) h

theorem autoStart_of_due {t : TimeBase} (on : t.autoPeriod ≠ 0)
    (reached : 60 * t.autoPeriod ≤ t.autoCount) :
    t.autoStart = ({ t with autoCount := 0 } : TimeBase).startMeasurement true :=
  if_pos ⟨on, reached⟩

theorem autoStart_of_not_due {t : TimeBase}
    (early : t.autoPeriod = 0 ∨ t.autoCount < 60 * t.autoPeriod) : t.autoStart = t :=
  if_neg (by omega)

theorem countAuto_of_on {t : TimeBase} (on : t.autoPeriod ≠ 0) :
    t.countAuto = { t with autoCount := t.autoCount + 1 } := if_neg on

theorem countAuto_of_off {t : TimeBase} (off : t.autoPeriod = 0) : t.countAuto = t := if_pos off

theorem stepTo_autoCount (t : TimeBase) (seconds : Long) (fraction : Half) :
    (t.stepTo seconds fraction).autoCount = t.autoCount := rfl

/-! ### SET_DRIFT and C (R148) -/

/-- The dispatched SET_DRIFT answers with C as it was and as it is now (R148). -/
theorem exec_setDrift_of_offered {s : State} {r : List Byte} {stamp : Seq} {value : Half}
    (offered : s.offered (.setDrift value) = some (r, stamp)) :
    exec (.setDrift value) s = .next
      (({ s with time := { s.time with c := clampDrift value.toInt } } : State).answer r .ok
        [(5, signedBytes 2 s.time.c ++ signedBytes 2 (clampDrift value.toInt))]) :=
  congrArg Host.Outcome.next (carryOut_of_offered offered _)

/-- Settles O41: SET_DRIFT's own step, C at a later evaluation, and F at the next boundary. -/
theorem setDriftClampsTheCorrection : Obligations.SetDriftClampsTheCorrection := by
  intro s r stamp value offered applied time
  refine ⟨exec_setDrift_of_offered offered, ?_, rfl, rfl, rfl⟩
  intro t m running due
  exact ⟨_, exec_measurementWindowClose_of_due running due, evaluateMeasurement_c t m⟩

/-! ### The measurement to its end (R141 to R143) -/

/-- Settles O46: the evaluation by whether the window has closed and the measurement is valid, then the auto
count. -/
theorem measurementsRunToTheirEnd : Obligations.MeasurementsRunToTheirEnd := by
  refine ⟨?window, ?start, ?noStart, ?count, stepTo_autoCount⟩
  case window =>
    intro s m running
    refine ⟨?early, ?due⟩
    case early =>
      intro early
      apply exec_measurementWindowClose_of_not_due
      rw [windowDue_iff running]
      rintro ⟨opened, full⟩
      rcases early with notOpened | short
      · exact Bool.false_ne_true (notOpened.symm.trans opened)
      · omega
    case due =>
      intro opened full x y idle good
      rw [exec_measurementWindowClose_of_due running ((windowDue_iff running).mpr ⟨opened, full⟩)]
      refine ⟨fun bad => ?invalid, fun inRange => ?valid⟩
      case invalid =>
        have invalid : m.valid = false := Bool.eq_false_iff.mpr (mt (valid_iff m).mp bad)
        exact congrArg Host.Outcome.next (evaluateMeasurement_of_invalid s invalid)
      case valid =>
        obtain ⟨nearest, halfAway⟩ := drift_nearest inRange.1
        exact ⟨m.drift, nearest, halfAway, congrArg Host.Outcome.next
          (evaluateMeasurement_of_valid s ((valid_iff m).mpr inRange))⟩
  case start =>
    intro s on reached
    exact congrArg (fun t => Host.Outcome.next { s with time := t })
      ((autoStart_of_due on reached).trans (startMeasurement_eq _ true))
  case noStart =>
    intro s early
    exact congrArg (fun t => Host.Outcome.next { s with time := t }) (autoStart_of_not_due early)
  case count =>
    intro t
    exact ⟨countAuto_of_on, countAuto_of_off⟩

end Sys2Proof.Proofs.OscillatorDiscipline
end

section
/-! PROOFS. The health monitor: final statuses and the silence of an abort (R153, R163), and the evaluation of
an interval (R156, R157, R159). -/

namespace Sys2Proof.Proofs.HealthMonitor
open Sys2Proof Sys2Proof.Machine

/-! ### What a final status is worth (R153) -/

/-- The bytes of the part's codes that R153's table marks (12.3). -/
def scoringBytes : List Byte :=
  [0x41#8, 0x42#8, 0x44#8, 0x47#8, 0x49#8, 0x4B#8, 0x4C#8, 0x4D#8, 0x53#8]

theorem scoringBytes_eq : scoringBytes = (partCodes.filter PartCode.errs).map PartCode.byte := rfl

theorem any_errs_iff (b : Byte) :
    (partCodes.any fun c => c.errs && c.byte == b) = true ↔ b ∈ scoringBytes := by
  simp only [scoringBytes_eq, List.any_eq_true, List.mem_map, List.mem_filter, Bool.and_eq_true,
    beq_iff_eq, and_assoc]

theorem errs_iff (n : StatusNotice) :
    n.errs = true ↔ if n.byController then
        n.status = 0x01#8 ∨ (n.inbound = true ∧ 2 ≤ n.status.toNat ∧ n.status.toNat ≤ 5)
      else n.inbound = true ∧ n.status ∈ scoringBytes := by
  unfold StatusNotice.errs
  split
  case isTrue => simp [lineAbort, and_assoc]
  case isFalse => rw [Bool.and_eq_true, any_errs_iff]

theorem isAbort_iff (n : StatusNotice) :
    n.isAbort = true ↔ n.byController = true ∧ n.status = 0x01#8 := by
  simp [StatusNotice.isAbort, lineAbort]

/-- A LINE_ABORT scores in both directions. -/
theorem errs_of_isAbort {n : StatusNotice} (abort : n.isAbort = true) : n.errs = true := by
  obtain ⟨byController, status⟩ := (isAbort_iff n).mp abort
  rw [errs_iff, if_pos byController]
  exact .inl status

/-! ### FINAL_STATUS (R152, R153, R163) -/

theorem setLink_setLink (s : State) (l : LinkSlot) (x y : Link) :
    (s.setLink l x).setLink l y = s.setLink l y := by
  simp [State.setLink]

section
variable {s : State} {n : StatusNotice}

/-- The monitor ignores a status of a CLOSED link (R152). -/
theorem takeStatus_of_closed (closed : (s.link n.link).state = .closed) : s.takeStatus n = s :=
  if_pos closed

/-- A status that enters no silence only scores: no abort, or the link is silent already. -/
theorem takeStatus_of_no_entry (opened : (s.link n.link).state ≠ .closed)
    (stays : n.isAbort = false ∨ (s.link n.link).health.silent = true) :
    s.takeStatus n = if n.errs then s.setErrored n.link else s := by
  have noEntry (t : State) (same : (t.link n.link).health.silent = (s.link n.link).health.silent) :
      ¬(n.isAbort = true ∧ (t.link n.link).health.silent = false) := by
    rw [same]
    rintro ⟨abort, heard⟩
    rcases stays with notAbort | silent
    · exact Bool.false_ne_true (notAbort.symm.trans abort)
    · exact Bool.false_ne_true (heard.symm.trans silent)
  unfold State.takeStatus
  rw [if_neg opened]
  split
  case isTrue => exact if_neg (noEntry _ (by simp [State.setErrored, State.setHealth]))
  case isFalse => exact if_neg (noEntry s rfl)

/-- A LINE_ABORT on a link that is heard scores and enters silence in one step (R163). -/
theorem takeStatus_of_abort (opened : (s.link n.link).state ≠ .closed)
    (abort : n.isAbort = true) (heard : (s.link n.link).health.silent = false) :
    s.takeStatus n = (s.setErrored n.link).enterSilence n.link
      (if n.inbound then .inboundAbort else .outboundAbort) := by
  unfold State.takeStatus
  rw [if_neg opened, if_pos (errs_of_isAbort abort)]
  exact if_pos ⟨abort, by simpa [State.setErrored, State.setHealth] using heard⟩

end

/-- Scoring and silence together are one write of the record and one report (R163). -/
theorem enterSilence_setErrored (s : State) (l : LinkSlot) (cause : SilenceCause) :
    (s.setErrored l).enterSilence l cause =
      (s.setLink l { s.link l with
        health := { (s.link l).health with errored := true, silent := true } }).post
          .healthMonitor (some l) (.linkSilent cause (s.link l).lastArrival) := by
  simp [State.enterSilence, State.setErrored, State.setHealth, setLink_setLink]

/-- The step takes the first status of its link that waits. -/
theorem exec_finalStatus_of_waiting {s : State} {l : LinkSlot} {n : StatusNotice}
    {before rest : List StatusNotice} (waiting : s.mail.statuses = before ++ n :: rest)
    (first : ∀ o ∈ before, o.link ≠ l) (its : n.link = l) :
    exec (.finalStatus l) s = .next
      (({ s with mail := { s.mail with statuses := before ++ rest } } : State).takeStatus n) := by
  have taken : takeFirst (fun o => o.link == l) s.mail.statuses = some (n, before ++ rest) := by
    rw [waiting]
    exact takeFirst_append (by simpa using first) (by simpa using its)
  simp only [exec, execFinalStatus, taken]

/-- A silent link has no timeout (R162). -/
theorem silenceTest_of_silent {s : State} {l : LinkSlot}
    (silent : (s.link l).health.silent = true) : s.silenceTest l = s :=
  if_neg (by simp [silent])

/-- Settles O48: the status is taken, then one case for a CLOSED link, for a status that only scores, and for
an abort that enters silence. -/
theorem finalStatusesScoreAndAbort : Obligations.FinalStatusesScoreAndAbort := by
  rintro s l n before rest waiting first rfl t h scores
  rw [exec_finalStatus_of_waiting waiting first rfl]
  refine ⟨?closed, ?scoresOnly, ?abort, ?timeout⟩
  case closed =>
    intro closed
    exact congrArg Host.Outcome.next (takeStatus_of_closed (s := t) closed)
  case scoresOnly =>
    intro opened stays
    have noEntry : n.isAbort = false ∨ h.silent = true := by
      rw [← Bool.not_eq_true, isAbort_iff]
      rcases stays with ofPart | other | silent
      · simp [ofPart]
      · simp [other]
      · exact .inr silent
    rw [takeStatus_of_no_entry (s := t) opened noEntry]
    refine ⟨fun yes => ?_, fun no => ?_⟩
    · rw [if_pos ((errs_iff n).mpr yes)]
      rfl
    · rw [if_neg (mt (errs_iff n).mp no)]
  case abort =>
    intro opened byController status heard
    have abort := (isAbort_iff n).mpr ⟨byController, status⟩
    rw [takeStatus_of_abort (s := t) opened abort heard, enterSilence_setErrored]
    rfl
  case timeout =>
    intro silent
    exact congrArg Host.Outcome.next (silenceTest_of_silent silent)

/-! ### The evaluation of an interval (R156, R157, R159) -/

theorem alarms_iff (h : Health) : h.alarms = true ↔ h.t ≤ h.nextError := decide_eq_true_iff

theorem nextAlarm_eq (h : Health) :
    h.nextAlarm = if h.t ≤ h.nextError then min (h.a + 1) 255 else h.a := by
  simp only [Health.nextAlarm, alarms_iff, satAdd]

theorem evaluate_eq (h : Health) :
    h.evaluate = { h with
      e := if h.t ≤ h.nextError then 0 else h.nextError
      a := if h.r ≤ h.nextClean then 0 else h.nextAlarm
      cleanRun := if h.r ≤ h.nextClean then 0 else h.nextClean
      errored := false, timer := 0, due := false } := by
  simp only [Health.evaluate, alarms_iff, decide_eq_true_iff]

/-- Every evaluation ends with E below T (R157). -/
theorem evaluate_e_lt {h : Health} (pos : 1 ≤ h.t) : h.evaluate.e < h.t := by
  rw [evaluate_eq]
  dsimp only
  split <;> omega

/-- The clean run builds only while E is 0 (R156). -/
theorem nextError_eq_zero {h : Health} (building : 0 < h.nextClean) : h.nextError = 0 := by
  unfold Health.nextClean at building
  split at building
  case isTrue => omega
  case isFalse =>
    split at building
    case isTrue zero => exact zero
    case isFalse => omega

/-- An evaluation never both raises an alarm and forgives (R159). -/
theorem not_alarm_and_forgive {h : Health} (t : 1 ≤ h.t) (r : 1 ≤ h.r) :
    ¬(h.t ≤ h.nextError ∧ h.r ≤ h.nextClean) := by
  rintro ⟨alarm, forgives⟩
  have zero : h.nextError = 0 := nextError_eq_zero (by omega)
  omega

/-- The record, the alarm's report and the request for quarantine of one evaluation. -/
theorem evaluateInterval_eq (s : State) (l : LinkSlot) :
    let h := (s.link l).health
    s.evaluateInterval l = { s.setLink l { s.link l with health := h.evaluate } with
      mail := { s.mail with
        reports := s.mail.reports ++ (if h.t ≤ h.nextError then
          [(.healthMonitor, ⟨.healthAlarm h.nextError h.nextAlarm, some l, 0⟩)] else [])
        quarantines := s.mail.quarantines ++
          (if h.t ≤ h.nextError ∧ h.m ≠ 0 ∧ h.m ≤ h.nextAlarm then [(l, h.nextAlarm)]
            else []) } } := by
  intro h
  unfold State.evaluateInterval
  by_cases alarm : h.t ≤ h.nextError
  case neg =>
    simp only [alarms_iff, h, alarm, if_false, false_and, List.append_nil]
    rfl
  case pos =>
    by_cases asks : h.m ≠ 0 ∧ h.m ≤ h.nextAlarm
    case pos =>
      simp only [alarms_iff, h, alarm, if_true, true_and, if_pos asks]
      rfl
    case neg =>
      simp only [alarms_iff, h, alarm, if_true, true_and, if_neg asks, List.append_nil]
      rfl

theorem exec_intervalEnd_of_due {s : State} {l : LinkSlot} (due : (s.link l).health.due = true) :
    exec (.intervalEnd l) s = .next (s.evaluateInterval l) :=
  congrArg Host.Outcome.next (if_pos due)

theorem exec_intervalEnd_of_not_due {s : State} {l : LinkSlot}
    (early : (s.link l).health.due = false) : exec (.intervalEnd l) s = .next s :=
  congrArg Host.Outcome.next (if_neg (by simp [early]))

/-- Settles O50: the step by whether the end is due, and what its arithmetic says of E, T, the clean run and
R. -/
theorem intervalsAreEvaluated : Obligations.IntervalsAreEvaluated := by
  intro s l h bad e clean a after
  have count : h.nextAlarm = a := nextAlarm_eq h
  have evaluated : h.evaluate = after := by
    rw [evaluate_eq, count]
    rfl
  refine ⟨exec_intervalEnd_of_not_due, ?due, ?below, not_alarm_and_forgive⟩
  case due =>
    intro due
    rw [exec_intervalEnd_of_due due, evaluateInterval_eq, evaluated, count]
    rfl
  case below =>
    rw [← evaluated]
    exact evaluate_e_lt

end Sys2Proof.Proofs.HealthMonitor
end


section
/-! PROOFS. What the steps of the engines, the link unit, the key unit and the monitor leave alone, and which
commands stop. -/

namespace Sys2Proof.Proofs.EngineSteps
open Sys2Proof Sys2Proof.Machine

/-! ### What waits is taken (R127, log 3) -/

theorem still_of_takeRequest {s t : State} {r : StoreRequest} (h : s.takeRequest = some (r, t)) :
    t.still = s.still := by
  unfold State.takeRequest at h
  split at h
  · cases h
  · cases h; rfl

theorem still_of_takeKeyRequest {s t : State} {p : KeyRequest → Bool} {r : KeyRequest}
    (h : s.takeKeyRequest p = some (r, t)) : t.still = s.still := by
  obtain ⟨x, -, e⟩ := Option.map_eq_some_iff.mp h
  cases e; rfl

/-- The owner's answer to a command changes no more of the records than its effect does (R179). -/
theorem still_carryOut {s : State} (c : Instr) {f : State → Answer} (h : (f s).1.still = s.still) :
    (s.carryOut c f).still = s.still := by
  unfold State.carryOut
  split
  · rfl
  · simpa using h

/-! ### The commands of the ring (R19 to R27, R100, R122, R160, R165) -/

theorem still_configLink (s : State) (link : Byte) (wire maxPayload : Half) (period : Byte)
    (grace : Half) (binding : Byte) (mask : List Byte) :
    (s.configLink link wire maxPayload period grace binding mask).1.still = s.still := by
  unfold State.configLink; dsimp only
  (repeat' split) <;> simp [State.refuse, State.accept]

theorem still_setGuard (s : State) (link direction : Byte) (base size : Nat) :
    (s.setGuard link direction base size).1.still = s.still := by
  unfold State.setGuard; dsimp only
  (repeat' split) <;> simp [State.refuse, State.accept]

@[simp] theorem still_freeRing (s : State) (r : Option RingIndex) : (s.freeRing r).still = s.still := by
  unfold State.freeRing; split <;> simp

theorem still_registerRing (s : State) (link direction : Byte) (base slots : Nat) :
    (s.registerRing link direction base slots).1.still = s.still := by
  unfold State.registerRing; dsimp only
  (repeat' split) <;> simp [State.refuse, State.accept]

theorem still_removeRing (s : State) (link direction : Byte) :
    (s.removeRing link direction).1.still = s.still := by
  unfold State.removeRing; dsimp only
  (repeat' split) <;> simp [State.refuse, State.accept]

theorem still_openLink (s : State) (link : Byte) : (s.openLink link).1.still = s.still := by
  unfold State.openLink; dsimp only
  (repeat' split) <;> simp [State.refuse, State.accept]

@[simp] theorem still_startDrain (s : State) (l : LinkSlot) (r : List Byte) (stamp : Seq) :
    (s.startDrain l r stamp).still = s.still := by
  unfold State.startDrain; dsimp only
  split
  · simp
  · rfl

theorem still_queryLink (s : State) (link : Byte) : (s.queryLink link).1.still = s.still := by
  unfold State.queryLink; split <;> rfl

theorem still_resetFilter (s : State) (link : Byte) : (s.resetFilter link).1.still = s.still := by
  unfold State.resetFilter; split <;> rfl

theorem still_retireKey (s : State) (link keyState : Byte) :
    (s.retireKey link keyState).1.still = s.still := by
  unfold State.retireKey
  (repeat' split) <;> simp [State.refuse, State.accept]

theorem still_releaseLink (s : State) (link : Byte) : (s.releaseLink link).1.still = s.still := by
  unfold State.releaseLink; dsimp only
  (repeat' split) <;> simp [State.refuse, State.accept]

theorem still_configureMonitor (s : State) (link : Byte) (t d u : Half) (i m r options : Byte) :
    (s.configureMonitor link t d u i m r options).1.still = s.still := by
  unfold State.configureMonitor
  (repeat' split) <;> simp [State.refuse, State.accept]

/-! ### The cipher unit, the key unit and the store (R15, R16, R58, R85, R95, R128) -/

@[simp] theorem still_deliver (s : State) (q : CipherRequest) (o : List Byte) :
    (s.deliver q o).still = s.still := by
  unfold State.deliver; (repeat' split) <;> simp

@[simp] theorem still_deliverGone (s : State) (q : CipherRequest) :
    (s.deliverGone q).still = s.still := by
  unfold State.deliverGone; (repeat' split) <;> simp

@[simp] theorem still_transform (s : State) (q : CipherRequest) (key : List Byte) :
    (s.transform q key).still = s.still := rfl

@[simp] theorem still_engineTakes (s : State) (q : CipherRequest) :
    (s.engineTakes q).still = s.still := by
  unfold State.engineTakes; (repeat' split) <;> simp

@[simp] theorem still_keyFetched (s : State) : s.keyFetched.still = s.still := by
  unfold State.keyFetched; (repeat' split) <;> simp

@[simp] theorem still_answerSequence (s : State) (l : LinkSlot) (ident : Nat) :
    (s.answerSequence l ident).still = s.still := by
  unfold State.answerSequence; dsimp only; (repeat' split) <;> simp

@[simp] theorem still_answerSettle (s : State) (l : LinkSlot) (ident : Nat) (ref : KeyRef) (q : Seq) :
    (s.answerSettle l ident ref q).still = s.still := by
  unfold State.answerSettle; split <;> simp

@[simp] theorem still_summarize (s : State) (l : LinkSlot) (ident : Nat) (slot : Option KekIndex) :
    (s.summarize l ident slot).still = s.still := by
  unfold State.summarize; dsimp only; split <;> simp

@[simp] theorem still_commitAnswered (s : State) (l : LinkSlot) (ident : Nat) (k : KekIndex)
    (q : Option Seq) : (s.commitAnswered l ident k q).still = s.still := by
  unfold State.commitAnswered; (repeat' split) <;> simp

/-! ### The time base's tests and the monitor (R26, R153 to R164) -/

@[simp] theorem still_enterSilence (s : State) (l : LinkSlot) (cause : SilenceCause) :
    (s.enterSilence l cause).still = s.still := rfl

@[simp] theorem still_silenceTest (s : State) (l : LinkSlot) : (s.silenceTest l).still = s.still := by
  unfold State.silenceTest; dsimp only; split <;> simp

@[simp] theorem still_forceDrain (s : State) (l : LinkSlot) : (s.forceDrain l).still = s.still := by
  unfold State.forceDrain; simp

@[simp] theorem still_evaluateInterval (s : State) (l : LinkSlot) :
    (s.evaluateInterval l).still = s.still := by
  unfold State.evaluateInterval; dsimp only
  split
  · split <;> rfl
  · rfl

@[simp] theorem still_takeStatus (s : State) (n : StatusNotice) : (s.takeStatus n).still = s.still := by
  unfold State.takeStatus State.setErrored; dsimp only; (repeat' split) <;> simp

@[simp] theorem still_takeNoBuffer (s : State) (l : LinkSlot) :
    (s.takeNoBuffer l).still = s.still := by
  unfold State.takeNoBuffer State.setErrored; split <;> simp

@[simp] theorem still_takeArrival (s : State) (l : LinkSlot) : (s.takeArrival l).still = s.still := by
  unfold State.takeArrival; dsimp only; (repeat' split) <;> simp

@[simp] theorem still_quarantine (s : State) (l : LinkSlot) (a : Nat) :
    (s.quarantine l a).still = s.still := by
  unfold State.quarantine; dsimp only; split <;> simp

/-! ### The steps -/

theorem still_of_next {s u t : State}
    (h : (.next u : Host.Outcome State Fault Refusal) = .next t) (hu : u.still = s.still) :
    t.still = s.still :=
  Host.Outcome.next.inj h ▸ hu

theorem still_of_presentRequestRead {s t : State} {onL : Bool} {start : Long} {beats : Nat}
    (h : s.presentRequestRead onL start beats = .next t) : t.still = s.still := by
  unfold State.presentRequestRead at h
  split at h
  · exact nomatch h
  · split at h
    · exact nomatch h
    · exact still_of_next h (still_present ..)

theorem still_of_presentRequestWrite {s t : State} {onL : Bool} {start : Long}
    {bytes : List (Option Byte)} (h : s.presentRequestWrite onL start bytes = .next t) :
    t.still = s.still := by
  unfold State.presentRequestWrite at h
  split at h
  · exact nomatch h
  · split at h
    · exact nomatch h
    · exact still_of_next h (still_present ..)

section
variable {s t : State}

theorem still_of_commandFetch (h : exec .commandFetch s = .next t) : t.still = s.still := by
  cases h; split <;> simp

theorem still_of_closeLink {link : Byte} (h : exec (.closeLink link) s = .next t) :
    t.still = s.still := by
  cases h; (repeat' split) <;> simp

theorem still_of_retireKey {link keyState : Byte} (h : exec (.retireKey link keyState) s = .next t) :
    t.still = s.still := by
  cases h
  split
  · rw [still_resume, still_carryOut _ (still_retireKey s link keyState)]
  · rfl

theorem still_of_cipherTake (h : exec .cipherTake s = .next t) : t.still = s.still := by
  cases h; dsimp only; split <;> simp

theorem still_of_cipherResult (h : exec .cipherResult s = .next t) : t.still = s.still := by
  cases h; split <;> simp

/-- A request of the store's queue that changes no retained cell. -/
theorem still_of_keyFetch (h : exec .keyFetch s = .next t) : t.still = s.still := by
  cases h
  split
  · rename_i e; simp [still_of_takeRequest e]
  · rfl

theorem still_of_stateSummaryRequest (h : exec .stateSummaryRequest s = .next t) :
    t.still = s.still := by
  cases h
  split
  · rename_i e; simp [still_of_takeRequest e]
  · rfl

theorem still_of_kekSelection (h : exec .kekSelection s = .next t) : t.still = s.still := by
  cases h
  split
  · rename_i e; simp [still_of_takeRequest e]
  · rfl

theorem still_of_kekCheck (h : exec .kekCheck s = .next t) : t.still = s.still := by
  cases h
  split
  · rename_i e; simp [still_of_takeRequest e]
  · rfl

theorem still_of_sequenceRequest {l : LinkSlot} (h : exec (.sequenceRequest l) s = .next t) :
    t.still = s.still := by
  cases h
  split
  · rename_i e; simp [still_of_takeKeyRequest e]
  · rfl

theorem still_of_keySelection {l : LinkSlot} (h : exec (.keySelection l) s = .next t) :
    t.still = s.still := by
  cases h
  split
  · rename_i e; simp [still_of_takeKeyRequest e]
  · rfl

theorem still_of_settleRequest {l : LinkSlot} (h : exec (.settleRequest l) s = .next t) :
    t.still = s.still := by
  cases h
  split
  · rename_i e; simp [still_of_takeKeyRequest e]
  · rfl

theorem still_of_drainLimitExpiry {l : LinkSlot} (h : exec (.drainLimitExpiry l) s = .next t) :
    t.still = s.still := by
  cases h; split <;> simp

theorem still_of_intervalEnd {l : LinkSlot} (h : exec (.intervalEnd l) s = .next t) :
    t.still = s.still := by
  cases h; split <;> simp

theorem still_of_finalStatus {l : LinkSlot} (h : exec (.finalStatus l) s = .next t) :
    t.still = s.still := by
  cases h; split <;> simp

theorem still_of_noBufferEvent {l : LinkSlot} (h : exec (.noBufferEvent l) s = .next t) :
    t.still = s.still := by
  cases h; split <;> simp

theorem still_of_verifiedArrival {l : LinkSlot} (h : exec (.verifiedArrival l) s = .next t) :
    t.still = s.still := by
  cases h; split <;> simp

theorem still_of_quarantineRequest {l : LinkSlot} (h : exec (.quarantineRequest l) s = .next t) :
    t.still = s.still := by
  cases h; split <;> simp

end

/-- Settles O54: each step of `isEngineStep` is made of operations that leave `State.still` alone. -/
theorem engineStepsLeaveTheRestAlone : Obligations.EngineStepsLeaveTheRestAlone := by
  intro c s t engine h
  cases c
  case portPRead => exact still_of_presentRequestRead h
  case portPWrite => exact still_of_presentRequestWrite h
  case portLRead => exact still_of_presentRequestRead h
  case portLWrite => exact still_of_presentRequestWrite h
  case commandFetch => exact still_of_commandFetch h
  case nop => exact still_of_next h (still_carryOut _ rfl)
  case configLink => exact still_of_next h (still_carryOut _ (still_configLink ..))
  case setGuard => exact still_of_next h (still_carryOut _ (still_setGuard ..))
  case setRing => exact still_of_next h (still_carryOut _ (still_registerRing ..))
  case clearRing => exact still_of_next h (still_carryOut _ (still_removeRing ..))
  case openLink => exact still_of_next h (still_carryOut _ (still_openLink ..))
  case closeLink => exact still_of_closeLink h
  case queryLink => exact still_of_next h (still_carryOut _ (still_queryLink ..))
  case resetFilter => exact still_of_next h (still_carryOut _ (still_resetFilter ..))
  case retireKey => exact still_of_retireKey h
  case configMonitor => exact still_of_next h (still_carryOut _ (still_configureMonitor ..))
  case releaseLink => exact still_of_next h (still_carryOut _ (still_releaseLink ..))
  case cipherTake => exact still_of_cipherTake h
  case cipherResult => exact still_of_cipherResult h
  case keyFetch => exact still_of_keyFetch h
  case sequenceRequest => exact still_of_sequenceRequest h
  case stateSummaryRequest => exact still_of_stateSummaryRequest h
  case keySelection => exact still_of_keySelection h
  case kekSelection => exact still_of_kekSelection h
  case settleRequest => exact still_of_settleRequest h
  case kekCheck => exact still_of_kekCheck h
  case quarantineRequest => exact still_of_quarantineRequest h
  case drainEnd => exact still_of_next h (by simp)
  case keyOverdue => exact still_of_next h (still_overdueTest ..)
  case keyExpiry => exact still_of_next h (by simp)
  case silenceTimeout => exact still_of_next h (still_silenceTest ..)
  case drainLimitExpiry => exact still_of_drainLimitExpiry h
  case intervalEnd => exact still_of_intervalEnd h
  case finalStatus => exact still_of_finalStatus h
  case noBufferEvent => exact still_of_noBufferEvent h
  case verifiedArrival => exact still_of_verifiedArrival h
  all_goals cases engine

end Sys2Proof.Proofs.EngineSteps
end


section
/-! PROOFS. What a step can do to the records of `State.still`, said once, and what follows: which commands stop,
the invariants of `State.safe`, the interrupt line, and the counters of a LOADED KEK slot. -/

namespace Sys2Proof.Proofs.StillRecords
open Sys2Proof Sys2Proof.Machine
open Sys2Proof.Proofs.EngineSteps

/-! ### The time base stays in its ranges (R136, R139, R145 to R149) -/

theorem ranged_iff (t : TimeBase) : t.ranged = true ↔
    (-4096 ≤ t.c ∧ t.c ≤ 4095 ∧ 0 ≤ t.f ∧ t.f ≤ 1023) ∧
    (t.s.natAbs ≤ 65536 ∧ 32732 ≤ t.length ∧ t.length ≤ 32804 ∧ t.ticks ≤ t.length) ∧
    (8000 ≤ t.fRef ∧ t.fRef ≤ 25000000 ∧ 10 ≤ t.k ∧ t.k ≤ 15) := by
  simp only [TimeBase.ranged, Bool.and_eq_true, decide_eq_true_eq, and_assoc]

theorem ranged_reset : TimeBase.reset.ranged = true := by decide

theorem ranged_stepTo {t : TimeBase} (seconds : Long) (fraction : Half) (h : t.ranged = true) :
    (t.stepTo seconds fraction).ranged = true := by
  rw [ranged_iff] at h ⊢
  obtain ⟨drift, slew, clock⟩ := h
  refine ⟨drift, ?_, clock⟩
  simp only [TimeBase.stepTo]
  omega

theorem clampDrift_range (v : Int) : -4096 ≤ clampDrift v ∧ clampDrift v ≤ 4095 := by
  unfold clampDrift
  omega

theorem ranged_drift {t : TimeBase} (v : Int) (h : t.ranged = true) :
    ({ t with c := clampDrift v } : TimeBase).ranged = true := by
  rw [ranged_iff] at h ⊢
  obtain ⟨⟨-, -, f⟩, rest⟩ := h
  exact ⟨⟨(clampDrift_range v).1, (clampDrift_range v).2, f⟩, rest⟩

/-- The measurement and the automatic count are no ranged registers. -/
theorem ranged_measurement (t : TimeBase) (m : Option Measurement) :
    ({ t with measurement := m } : TimeBase).ranged = t.ranged := rfl

theorem ranged_startMeasurement (t : TimeBase) (automatic : Bool) :
    (t.startMeasurement automatic).ranged = t.ranged := by
  unfold TimeBase.startMeasurement
  split <;> rfl

theorem ranged_autoStart (t : TimeBase) : t.autoStart.ranged = t.ranged := by
  unfold TimeBase.autoStart
  split
  · rw [ranged_startMeasurement]; rfl
  · rfl

theorem ranged_countAuto (t : TimeBase) : t.countAuto.ranged = t.ranged := by
  unfold TimeBase.countAuto
  split <;> rfl

/-- The next length is 32768 corrected by a whole part between -4 and 4 and a slew between -32 and 32 (R136). -/
theorem ranged_boundary {t : TimeBase} (h : t.ranged = true) : t.boundary.ranged = true := by
  rw [ranged_iff] at h ⊢
  obtain ⟨drift, slew, clock⟩ := h
  simp only [TimeBase.boundary]
  refine ⟨?_, ?_, clock⟩ <;> omega

/-- A tick is due only below the boundary, so the ticks stay at or below the length (R136; log 6). -/
theorem ranged_tick {t : TimeBase} (h : t.ranged = true) (before : t.boundaryDue = false) :
    t.tick.ranged = true := by
  rw [ranged_iff] at h ⊢
  obtain ⟨drift, slew, clock⟩ := h
  simp only [TimeBase.boundaryDue, decide_eq_false_iff_not] at before
  refine ⟨drift, ?_, clock⟩
  simp only [TimeBase.tick]
  omega

/-! ### KEK slots that stay LOADED (R96, R129) -/

/-- Every slot LOADED before and after keeps its key, and its counters do not fall. -/
def KekKept (old new : Vector KekSlot 4) : Prop :=
  ∀ k : KekIndex, old[k].state = .loaded → new[k].state = .loaded →
    old[k].transmit.toNat ≤ new[k].transmit.toNat ∧
      old[k].highWater.toNat ≤ new[k].highWater.toNat ∧ new[k].key = old[k].key

theorem kekKept_refl (v : Vector KekSlot 4) : KekKept v v :=
  fun _ _ _ => ⟨Nat.le_refl _, Nat.le_refl _, rfl⟩

/-- One slot is written: the others are kept, so the slot itself decides. -/
theorem kekKept_set {v : Vector KekSlot 4} {k : KekIndex} {x : KekSlot}
    (h : v[k].state = .loaded → x.state = .loaded →
      v[k].transmit.toNat ≤ x.transmit.toNat ∧ v[k].highWater.toNat ≤ x.highWater.toNat ∧
        x.key = v[k].key) : KekKept v (v.set k x) := by
  intro j
  by_cases e : k = j
  · subst e
    simpa using h
  · have e' : k.val ≠ j.val := fun c => e (Fin.ext c)
    have same : (v.set k x)[j] = v[j] := by simp [e']
    rw [same]
    exact fun _ _ => ⟨Nat.le_refl _, Nat.le_refl _, rfl⟩

/-- The power-on check leaves a slot as it is or makes it INVALID (R126). -/
theorem kekKept_checkSlot (x : RetainedStore) : KekKept x.slots (mapTable x.slots x.checkSlot) := by
  intro k
  rw [mapTable_get]
  unfold RetainedStore.checkSlot
  split
  · intro _ h; cases h
  · exact fun _ _ => ⟨Nat.le_refl _, Nat.le_refl _, rfl⟩

theorem toNat_succ_of_ne_allOnes {q : Seq} (h : q ≠ BitVec.allOnes 48) :
    (q + 1).toNat = q.toNat + 1 := by
  have : q.toNat ≠ 2 ^ 48 - 1 := fun e => h (BitVec.eq_of_toNat_eq (by simpa using e))
  have := q.isLt
  have one : (1 : Seq).toNat = 1 := rfl
  rw [BitVec.toNat_add, one]
  omega

/-! ### What a step can do -/

/-- The steps that clear every volatile record (R54, R126, R130). -/
def isReset : Instr → Prop
  | .powerOn _ | .warmReset _ | .mainPowerLoss => True
  | _ => False

/-- What the command `c` can make of the records of `State.still`. -/
inductive StillStep (c : Instr) (x : Still) : Still → Prop
  /-- The steps of the engines, and every step that is not due. -/
  | same : StillStep c x x
  /-- A reset of every volatile record. -/
  | reset (a : Nat) (lines : Lines) (slots : Vector KekSlot 4) (marker : Marker) (lost : Bool)
      (reports : ReportUnit) (kind : isReset c)
      (kept : (c = .mainPowerLoss → x.marker = .parked) → KekKept x.kekSlots slots)
      (flags : reports.valid = 0) (flight : reports.inFlight = none)
      (noRing : reports.ring = none) : StillStep c x { x with
        lines, map := RegionMap.reset a, arbiter := .internal, completions := [], phantom := none,
        kekSlots := slots, marker, cellsLost := lost, staging := none, time := TimeBase.reset,
        reports, commandQueue := [] }
  /-- The lines, the marker and the feeding of the retained cells. -/
  | supply (lines : Lines) (marker : Marker) (lost : Bool) (staging : Option Staging) :
      StillStep c x { x with lines, marker, cellsLost := lost, staging }
  /-- A grant of port M. -/
  | grant (arbiter : MemoryRequester) (completions : List Completion) (memory : List Host.Cell)
      (wf : memWf x.memory = true → memWf memory = true) :
      StillStep c x { x with arbiter, completions, memory }
  /-- A completion is taken, and the command queue loses its head or stays. -/
  | taken (rest : List Completion) (queue : List EntryIndex)
      (kept : queue = x.commandQueue ∨ queue = x.commandQueue.tail) :
      StillStep c x { x with completions := rest, commandQueue := queue }
  /-- A posting joins the command queue once. -/
  | posted (rest : List Completion) (entry : EntryIndex) (once : entry ∉ x.commandQueue) :
      StillStep c x { x with completions := rest, commandQueue := x.commandQueue ++ [entry] }
  /-- A result lands: the map follows the blocks' own records. -/
  | result (rest : List Completion) (map : RegionMap) (kind : c = .internalWriteLanded)
      (window : map.phantom = x.phantom) :
      StillStep c x { x with
        completions := rest, commandQueue := x.commandQueue.tail, map }
  /-- A record lands. -/
  | record (rest : List Completion) (e : Nat) (reports : ReportUnit)
      (kind : c = .internalWriteLanded) (head : x.completions = .landed (.record e) :: rest)
      (flight : reports.inFlight = none) : StillStep c x { x with completions := rest, reports }
  /-- A flag is cleared by an observed write. -/
  | cleared (rest : List Completion) (e : Nat) (kind : c = .reportClearObserved) :
      StillStep c x { x with
        completions := rest, reports := { x.reports with valid := clearFlag x.reports.valid e } }
  /-- The report ring is replaced. -/
  | ring (reports : ReportUnit) (base : Long) (entries : Half)
      (kind : c = .setReportRing base entries) (flags : reports.valid = 0) :
      StillStep c x { x with reports }
  /-- A report is queued, or a record put in flight for a clear entry. -/
  | reports (reports : ReportUnit) (ring : reports.ring = x.reports.ring)
      (flags : reports.valid = x.reports.valid)
      (flight : x.reports.flightClear = true → reports.flightClear = true) :
      StillStep c x { x with reports }
  /-- The phantom window is placed or removed. -/
  | phantom (base : Option Nat) (kind : ∃ present b, c = .setPhantom present b)
      (aligned : base.all (fun b => b % 512 == 0) = true) : StillStep c x { x with phantom := base }
  /-- The store loads, erases or commits. -/
  | keks (slots : Vector KekSlot 4) (erasures : Vector Nat 4) (staging : Option Staging)
      (kept : KekKept x.kekSlots slots) :
      StillStep c x { x with kekSlots := slots, erasures, staging }
  /-- The time base counts, steps, measures or is configured. -/
  | time (time : TimeBase) (kept : x.time.ranged = true → time.ranged = true) :
      StillStep c x { x with time }


/-! ### The step of each command -/

theorem stillStep_of_still {c : Instr} {x : Still} {t : State} {y : Still} (h : t.still = y)
    (step : StillStep c x y) : StillStep c x t.still := h ▸ step

theorem stillStep_of_next {c : Instr} {s t u : State}
    (h : (.next u : Host.Outcome State Fault Refusal) = .next t)
    (step : StillStep c s.still u.still) : StillStep c s.still t.still :=
  Host.Outcome.next.inj h ▸ step

theorem stillStep_carryOut {s : State} {c : Instr} {f : State → Answer}
    (step : StillStep c s.still (f s).1.still) :
    StillStep c s.still (s.carryOut c f).still := by
  unfold State.carryOut
  split
  · exact .same
  · exact stillStep_of_still (still_answer ..) step

theorem stillStep_carryOutAtStore {s : State} {c : Instr} {f : State → Answer}
    (step : ∀ u : State, StillStep c u.still (f u).1.still) :
    StillStep c s.still (s.carryOutAtStore c f).still := by
  unfold State.carryOutAtStore
  split
  · rename_i u taken
    split
    · rw [← still_of_takeRequest taken]
      exact stillStep_carryOut (step u)
    · exact .same
  · exact .same

/-! Resets and supplies (R54, R125, R126, R130). -/

@[simp] theorem still_mapPorts (s : State) (f : Port → Port) : (s.mapPorts f).still = s.still := rfl

@[simp] theorem still_runBoth (s : State) : s.runBoth.still = s.still := by
  simp [State.runBoth]

theorem take_valid (u : ReportUnit) (r : Report) : (u.take r).valid = u.valid := by
  unfold ReportUnit.take; (repeat' split) <;> rfl

theorem take_inFlight (u : ReportUnit) (r : Report) : (u.take r).inFlight = u.inFlight := by
  unfold ReportUnit.take; (repeat' split) <;> rfl

theorem take_ring (u : ReportUnit) (r : Report) : (u.take r).ring = u.ring := by
  unfold ReportUnit.take; (repeat' split) <;> rfl

theorem still_checkStore (s : State) : ∃ reports, reports.valid = s.reports.valid ∧
    reports.inFlight = s.reports.inFlight ∧ reports.ring = s.reports.ring ∧ s.checkStore.still = { s.still with
      kekSlots := mapTable s.store.slots s.store.checkSlot,
      marker := markerOf s.lines.retain, cellsLost := false, reports } := by
  unfold State.checkStore
  dsimp only
  split
  · exact ⟨_, rfl, rfl, rfl, rfl⟩
  · exact ⟨_, take_valid .., take_inFlight .., take_ring .., rfl⟩

theorem stillStep_powerOn {s t : State} {straps : Byte} (h : exec (.powerOn straps) s = .next t) :
    StillStep (.powerOn straps) s.still t.still := by
  refine stillStep_of_next h ?_
  split
  · exact .same
  · obtain ⟨reports, flags, flight, noRing, e⟩ := still_checkStore
      (({ s with lines := { s.lines with powered := true, vstby := true } } : State).resetBlocks
        (anchorOf straps))
    rw [still_runBoth, e]
    exact .reset _ _ _ _ _ reports trivial (fun _ => kekKept_checkSlot _) flags flight
      noRing

theorem stillStep_warmReset {s t : State} {straps : Byte}
    (h : exec (.warmReset straps) s = .next t) :
    StillStep (.warmReset straps) s.still t.still := by
  refine stillStep_of_next h ?_
  split
  · exact .reset _ _ _ _ _ ReportUnit.reset trivial (fun _ => kekKept_refl _) rfl rfl rfl
  · exact .supply _ _ _ _

theorem stillStep_resetRelease {s t : State} (h : exec .resetRelease s = .next t) :
    StillStep .resetRelease s.still t.still :=
  stillStep_of_next h (stillStep_of_still (still_runBoth _) (.supply _ _ _ _))

theorem stillStep_retainFall {s t : State} (h : exec .retainFall s = .next t) :
    StillStep .retainFall s.still t.still := by
  refine stillStep_of_next h ?_
  split <;> exact .supply _ _ _ _

theorem stillStep_retainRise {s t : State} (h : exec .retainRise s = .next t) :
    StillStep .retainRise s.still t.still := by
  refine stillStep_of_next h ?_
  split <;> exact .supply _ _ _ _

/-- A write torn by the loss of main power touches the retained cells alone, and none while PARKED. -/
theorem still_tear (s : State) : ∃ slots, (s.store.marker = .parked → slots = s.store.slots) ∧
    s.tear.still = { s.still with kekSlots := slots } := by
  unfold State.tear
  split
  · exact ⟨_, fun _ => rfl, rfl⟩
  · rename_i live
    (repeat' split) <;> exact ⟨_, fun parked => absurd parked live, rfl⟩

/-- The records that a loss of main power leaves, from those that the torn write left. -/
theorem still_powerLost (s : State) (a : Nat) : ∃ lines lost,
    ({ (s.resetBlocks a).mapPorts Port.powerLost with
      lines := { ((s.resetBlocks a).mapPorts Port.powerLost).lines with
        powered := false } } : State).feedCells.still = { s.still with
      lines, map := RegionMap.reset a, arbiter := .internal, completions := [], phantom := none,
      cellsLost := lost, staging := none, time := TimeBase.reset, reports := ReportUnit.reset,
      commandQueue := [] } := ⟨_, _, rfl⟩

theorem stillStep_mainPowerLoss {s t : State} (h : exec .mainPowerLoss s = .next t) :
    StillStep .mainPowerLoss s.still t.still := by
  refine stillStep_of_next h ?_
  split
  · obtain ⟨slots, parked, torn⟩ := still_tear s
    obtain ⟨lines, lost, e⟩ := still_powerLost s.tear s.steering.map.anchor
    rw [torn] at e
    refine stillStep_of_still e
      (.reset _ lines slots _ lost ReportUnit.reset trivial (fun he => ?_) rfl rfl rfl)
    rw [parked (he rfl)]
    exact kekKept_refl _
  · exact .same

theorem stillStep_vstbyLoss {s t : State} (h : exec .vstbyLoss s = .next t) :
    StillStep .vstbyLoss s.still t.still :=
  stillStep_of_next h (.supply _ _ _ _)

/-! Port M and what it has performed (R46, R48, R171, R177, R178, R180). -/

theorem still_performAccess (s : State) (onL : Bool) (a : Access) : ∃ completions memory,
    (s.performAccess onL a).still = { s.still with completions, memory } := by
  unfold State.performAccess
  dsimp only
  split
  · rw [still_serve]; exact ⟨_, _, rfl⟩
  · rw [still_serve]
    split
    · rw [still_presentRead]; exact ⟨_, _, rfl⟩
    · exact ⟨_, _, rfl⟩

theorem still_grantPort (s : State) (onL : Bool) : ∃ completions memory,
    (s.grantPort onL).still = { s.still with completions, memory } := by
  unfold State.grantPort
  split
  · exact ⟨_, _, rfl⟩
  · rename_i a rest _
    rw [still_run, ← still_setPort s onL { s.port onL with accesses := rest }]
    exact still_performAccess ..

theorem still_grantInternal (s : State) : ∃ completions memory,
    s.grantInternal.still = { s.still with completions, memory } := by
  unfold State.grantInternal
  (repeat' split)
  · exact ⟨_, _, rfl⟩
  · exact ⟨_, _, rfl⟩
  · dsimp only; rw [still_internal, still_admitWaitingRead]; exact ⟨_, _, rfl⟩
  · exact ⟨_, _, rfl⟩
  · dsimp only; rw [still_internal, still_admitWaitingWrite]; exact ⟨_, _, rfl⟩

theorem still_grant (s : State) : ∃ arbiter completions memory,
    s.grant.still = { s.still with arbiter, completions, memory } := by
  unfold State.grant
  split
  · exact ⟨_, _, _, rfl⟩
  · exact ⟨_, still_grantPort { s with arbiter := .p } false⟩
  · exact ⟨_, still_grantPort { s with arbiter := .l } true⟩
  · exact ⟨_, still_grantInternal { s with arbiter := .internal }⟩

theorem stillStep_portMGrant {s t : State} (h : exec .portMGrant s = .next t) :
    StillStep .portMGrant s.still t.still := by
  refine stillStep_of_next h ?_
  obtain ⟨arbiter, completions, memory, e⟩ := still_grant s
  rw [still_closeDrained, e]
  have grown : s.grant.memory = memory := congrArg Still.memory e
  exact .grant _ _ _ (fun wf => grown ▸ memWf_grant s wf)

theorem takeCompletion_eq_some {s t : State} {x : Completion} (h : s.takeCompletion = some (x, t)) :
    ∃ rest, s.completions = x :: rest ∧ t = { s with completions := rest } := by
  unfold State.takeCompletion at h
  split at h
  · cases h
  · rename_i e
    cases h
    exact ⟨_, e, rfl⟩

/-- A landing record sets one flag and leaves nothing in flight, or a waiting SET_REPORT_RING clears every flag. -/
theorem still_recordLanded (s : State) (e : Nat) : ∃ reports, reports.inFlight = none ∧
    (s.recordLanded e).still = { s.still with reports } := by
  unfold State.recordLanded State.finishReportRing
  dsimp only
  split
  · rw [still_answer]; exact ⟨_, rfl, rfl⟩
  · exact ⟨_, rfl, rfl⟩

theorem stillStep_internalWriteLanded {s t : State} (h : exec .internalWriteLanded s = .next t) :
    StillStep .internalWriteLanded s.still t.still := by
  refine stillStep_of_next h ?_
  split
  · rename_i use u taken
    obtain ⟨rest, head, rfl⟩ := takeCompletion_eq_some taken
    rw [still_resume]
    cases use with
    | replacement ring slot =>
      exact stillStep_of_still (still_replacementLanded ..) (.taken rest _ (.inl rfl))
    | result => exact .result rest _ rfl rfl
    | record e =>
      obtain ⟨reports, flight, eq⟩ := still_recordLanded { s with completions := rest } e
      exact stillStep_of_still eq (.record rest e reports rfl head flight)
  · exact .same

/-- A fetched record changes the command queue by a withdrawal alone (R178). -/
theorem still_recordFetched (s : State) (entry : EntryIndex) (bytes : List Byte) : ∃ queue,
    (queue = s.command.queue ∨ queue = s.command.queue.tail) ∧
      (s.recordFetched entry bytes).still = { s.still with commandQueue := queue } := by
  unfold State.recordFetched
  dsimp only
  (repeat' split)
  · exact ⟨_, .inl rfl, rfl⟩
  · exact ⟨_, .inr rfl, rfl⟩
  · exact ⟨_, .inl rfl, still_answer ..⟩
  · exact ⟨_, .inl rfl, rfl⟩
  · exact ⟨_, .inl rfl, rfl⟩
  · exact ⟨_, .inl rfl, rfl⟩

theorem stillStep_internalReadData {s t : State} (h : exec .internalReadData s = .next t) :
    StillStep .internalReadData s.still t.still := by
  refine stillStep_of_next h ?_
  split
  · rename_i use bytes u taken
    obtain ⟨rest, head, rfl⟩ := takeCompletion_eq_some taken
    rw [still_resume]
    cases use with
    | fetch entry =>
      obtain ⟨queue, kept, e⟩ := still_recordFetched { s with completions := rest } entry bytes
      exact stillStep_of_still e (.taken rest queue kept)
    | fill link ident =>
      exact stillStep_of_still (still_fillData ..) (.taken rest _ (.inl rfl))
  · exact .same

theorem stillStep_commandPosting {s t : State} (h : exec .commandPosting s = .next t) :
    StillStep .commandPosting s.still t.still := by
  refine stillStep_of_next h ?_
  split
  · rename_i entry value u taken
    obtain ⟨rest, head, rfl⟩ := takeCompletion_eq_some taken
    unfold State.commandObserved
    split
    · rename_i due
      exact .posted rest entry due.2
    · exact .taken rest _ (.inl rfl)
  · exact .same

/-! The commands of the ring (R52, R131 to R133, R139, R147 to R149, R169). -/

theorem stillStep_setPhantom {s t : State} {present : Byte} {base : Long}
    (h : exec (.setPhantom present base) s = .next t) :
    StillStep (.setPhantom present base) s.still t.still := by
  refine stillStep_of_next h (stillStep_carryOut ?_)
  unfold State.placePhantom
  split
  · exact .same
  split
  · exact .phantom none ⟨present, base, rfl⟩ rfl
  split
  · exact .same
  rename_i legal
  split
  · exact .same
  · refine .phantom (some base.toNat) ⟨present, base, rfl⟩ ?_
    simp only [Option.all_some, beq_iff_eq]
    omega

theorem stillStep_loadKekPart1 {s t : State} {part slot : Byte} {half : List Byte} {counter : Seq}
    (h : exec (.loadKekPart1 part slot half counter) s = .next t) :
    StillStep (.loadKekPart1 part slot half counter) s.still t.still := by
  refine stillStep_of_next h (stillStep_carryOutAtStore fun u => ?_)
  unfold State.loadPart1
  (repeat' split)
  case _ => exact .same
  case _ => exact .same
  case _ => exact .same
  case _ => exact .same
  case _ => exact .keks _ _ _ (kekKept_refl _)

theorem stillStep_loadKekPart2 {s t : State} {slot : Byte} {half : List Byte} {counter : Seq}
    (h : exec (.loadKekPart2 slot half counter) s = .next t) :
    StillStep (.loadKekPart2 slot half counter) s.still t.still := by
  refine stillStep_of_next h (stillStep_carryOutAtStore fun u => ?_)
  unfold State.loadPart2
  (repeat' split)
  case _ => exact .same
  case _ => exact .same
  case _ => exact .same
  case _ => exact .same
  case _ free => exact .keks _ _ _ (kekKept_set fun loaded => absurd loaded free)

/-- Keeping a fetched key and erasing a slot touch the store's slots alone (R133). -/
theorem stillStep_eraseKek {s t : State} {slot : Byte} (h : exec (.eraseKek slot) s = .next t) :
    StillStep (.eraseKek slot) s.still t.still := by
  refine stillStep_of_next h (stillStep_carryOutAtStore fun u => ?_)
  unfold State.eraseSlot
  (repeat' split)
  case _ => exact .same
  case _ => exact .same
  case _ k _ _ =>
    obtain ⟨e, kept⟩ := keepFetched_engine u k
    simp only [kept]
    exact .keks _ _ _ (kekKept_set fun _ blank => nomatch blank)

theorem still_stepTime (s : State) (seconds : Long) (fraction : Half) (byCommand : Bool) :
    (s.stepTime seconds fraction byCommand).still =
      { s.still with time := s.time.stepTo seconds fraction } := rfl

theorem stillStep_setTime {s t : State} {seconds : Long} {fraction : Half}
    (h : exec (.setTime seconds fraction) s = .next t) :
    StillStep (.setTime seconds fraction) s.still t.still :=
  stillStep_of_next h (stillStep_carryOut
    (stillStep_of_still (still_stepTime ..) (.time _ (ranged_stepTo seconds fraction))))

theorem stillStep_setDrift {s t : State} {value : Half} (h : exec (.setDrift value) s = .next t) :
    StillStep (.setDrift value) s.still t.still :=
  stillStep_of_next h (stillStep_carryOut (.time _ (ranged_drift (signed16 value))))

theorem stillStep_configClock {s t : State} {fRef : Long} {k autoPeriod : Byte}
    (h : exec (.configClock fRef k autoPeriod) s = .next t) :
    StillStep (.configClock fRef k autoPeriod) s.still t.still := by
  refine stillStep_of_next h (stillStep_carryOut ?_)
  unfold State.configureClock
  split
  · exact .same
  · rename_i legal
    refine .time _ fun ranged => ?_
    rw [ranged_iff] at ranged ⊢
    obtain ⟨drift, slew, -⟩ := ranged
    exact ⟨drift, slew, show 8000 ≤ fRef.toNat ∧ fRef.toNat ≤ 25000000 ∧ 10 ≤ k.toNat ∧
      k.toNat ≤ 15 by omega⟩

theorem stillStep_measureClock {s t : State} (h : exec .measureClock s = .next t) :
    StillStep .measureClock s.still t.still := by
  refine stillStep_of_next h (stillStep_carryOut ?_)
  unfold State.measure
  split
  · exact .same
  · exact .time _ fun ranged => (ranged_startMeasurement ..).trans ranged

theorem stillStep_setReportRing {s t : State} {base : Long} {entries : Half}
    (h : exec (.setReportRing base entries) s = .next t) :
    StillStep (.setReportRing base entries) s.still t.still := by
  refine stillStep_of_next h ?_
  split
  · exact .same
  · split
    · exact stillStep_of_still (still_answer ..) .same
    · unfold State.setReportRing
      split
      · exact .same
      · exact stillStep_of_still (still_answer ..) (.ring _ base entries rfl rfl)

/-! The store's commits (R96, R129). -/

theorem stillStep_transmitCommit {s t : State} (h : exec .transmitCommit s = .next t) :
    StillStep .transmitCommit s.still t.still := by
  refine stillStep_of_next h ?_
  split
  · rename_i taken
    rw [still_resume, ← still_of_takeRequest taken]
    unfold State.transmitCommit
    dsimp only
    split
    · rename_i usable
      rw [still_commitAnswered]
      refine .keks _ _ _ (kekKept_set fun _ _ => ⟨?_, Nat.le_refl _, rfl⟩)
      rw [toNat_succ_of_ne_allOnes usable.2]
      exact Nat.le_succ _
    · rw [still_commitAnswered]
      exact .same
  · exact .same

theorem stillStep_receiveCommit {s t : State} (h : exec .receiveCommit s = .next t) :
    StillStep .receiveCommit s.still t.still := by
  refine stillStep_of_next h ?_
  split
  · rename_i taken
    rw [still_resume, ← still_of_takeRequest taken]
    unfold State.receiveCommit
    (repeat' split)
    · rw [still_confirmAnswered]
      exact .same
    · rename_i above
      rw [still_confirmAnswered]
      exact .keks _ _ _ (kekKept_set fun _ _ => ⟨Nat.le_refl _, Nat.le_of_lt above, rfl⟩)
    · rw [still_confirmAnswered]
      exact .same
  · exact .same

/-! The time base's own steps (R134 to R146). -/

@[simp] theorem still_time (s : State) (time : TimeBase) :
    ({ s with time } : State).still = { s.still with time } := rfl

theorem time_eq_of_still {s t : State} (h : s.still = t.still) : s.time = t.time :=
  congrArg Still.time h

theorem reports_eq_of_still {s t : State} (h : s.still = t.still) : s.reports = t.reports :=
  congrArg Still.reports h

/-- The readers of a boundary but for the automatic count: the key unit, the idle and quiet counts, and the
silence tests (R137). -/
def readBoundary (s : State) : State :=
  allLinks.foldl State.silenceTest
    { allLinks.foldl State.keyBoundary s with
      links := mapTable (allLinks.foldl State.keyBoundary s).links Link.second }

theorem boundary_eq (s : State) : s.boundary =
    { readBoundary { s with time := s.time.boundary } with
      time := (readBoundary { s with time := s.time.boundary }).time.countAuto.autoStart } := rfl

@[simp] theorem still_readBoundary (s : State) : (readBoundary s).still = s.still := by
  unfold readBoundary
  rw [still_foldl _ still_silenceTest, still_links, still_foldl _ still_keyBoundary]

theorem still_boundary (s : State) : s.boundary.still =
    { s.still with time := s.time.boundary.countAuto.autoStart } := by
  have time : (readBoundary { s with time := s.time.boundary }).time = s.time.boundary :=
    time_eq_of_still (still_readBoundary _)
  rw [boundary_eq, time, still_time, still_readBoundary, still_time]

theorem stillStep_correctedSecondBoundary {s t : State}
    (h : exec .correctedSecondBoundary s = .next t) :
    StillStep .correctedSecondBoundary s.still t.still := by
  refine stillStep_of_next h ?_
  split
  · rw [still_resume, still_boundary]
    refine .time _ fun ranged => ?_
    rw [ranged_autoStart, ranged_countAuto]
    exact ranged_boundary ranged
  · exact .same

theorem stillStep_autoMeasurementStart {s t : State} (h : exec .autoMeasurementStart s = .next t) :
    StillStep .autoMeasurementStart s.still t.still :=
  stillStep_of_next h (.time _ fun ranged => (ranged_autoStart _).trans ranged)

theorem still_evaluateMeasurement (s : State) (m : Measurement) :
    ∃ time, (s.time.ranged = true → time.ranged = true) ∧
      (s.evaluateMeasurement m).still = { s.still with time } := by
  unfold State.evaluateMeasurement
  dsimp only
  split
  · exact ⟨{ s.time with measurement := none }, fun ranged => ranged, rfl⟩
  · split <;> exact ⟨{ s.time with measurement := none, c := clampDrift m.drift },
      fun ranged => ranged_drift (t := { s.time with measurement := none }) m.drift ranged, rfl⟩

theorem stillStep_measurementWindowClose {s t : State}
    (h : exec .measurementWindowClose s = .next t) :
    StillStep .measurementWindowClose s.still t.still := by
  refine stillStep_of_next h ?_
  split
  · rename_i m _
    split
    · obtain ⟨time, kept, e⟩ := still_evaluateMeasurement s m
      exact stillStep_of_still e (.time time kept)
    · exact .same
  · exact .same

theorem stillStep_beaconAbsorb {s t : State} {l : LinkSlot}
    (h : exec (.beaconAbsorb l) s = .next t) :
    StillStep (.beaconAbsorb l) s.still t.still := by
  refine stillStep_of_next h ?_
  split
  · exact .same
  · unfold State.absorbBeacon
    dsimp only
    split
    · exact stillStep_of_still (still_stepTime ..) (.time _ (ranged_stepTo _ _))
    · rename_i small
      refine .time _ fun ranged => ?_
      rw [ranged_iff] at ranged ⊢
      obtain ⟨drift, slew, clock⟩ := ranged
      refine ⟨drift, ?_, clock⟩
      simp only [not_or, Nat.not_lt] at small
      exact ⟨small.2.2, slew.2⟩

/-- Counting a tick, past the last value too, leaves the ranged registers alone (R134). -/
theorem still_countTick (s : State) : ∃ rawTick,
    s.countTick.still = { s.still with time := { s.time with rawTick } } := by
  unfold State.countTick
  split <;> exact ⟨_, rfl⟩

theorem stillStep_rawTick {s t : State} (h : exec .rawTick s = .next t) :
    StillStep .rawTick s.still t.still := by
  refine stillStep_of_next h ?_
  split
  · rename_i due
    obtain ⟨rawTick, e⟩ := still_countTick s
    have ticked : s.tick.still =
        { s.still with time := TimeBase.tick { s.time with rawTick } } :=
      congrArg (fun x : Still => { x with time := x.time.tick }) e
    rw [ticked]
    have waits := due.2
    simp only [State.tickWaits, Bool.or_eq_false_iff] at waits
    exact .time _ fun ranged => ranged_tick (t := { s.time with rawTick }) ranged waits.1.1
  · exact .same

theorem stillStep_refclkRisingEdge {s t : State} (h : exec .refclkRisingEdge s = .next t) :
    StillStep .refclkRisingEdge s.still t.still :=
  stillStep_of_next h (.time _ fun ranged => ranged)

/-! The report unit's own steps (R168, R170, R172). -/

theorem flightClear_congr {u v : ReportUnit} (flags : v.valid = u.valid)
    (flight : v.inFlight = u.inFlight) : v.flightClear = u.flightClear := by
  unfold ReportUnit.flightClear ReportUnit.flag
  rw [flags, flight]

theorem stillStep_reportPosting {s t : State} {source : ReportSource}
    (h : exec (.reportPosting source) s = .next t) :
    StillStep (.reportPosting source) s.still t.still := by
  refine stillStep_of_next h ?_
  split
  · exact .same
  · split
    · refine .reports _ (take_ring ..) (take_valid ..) fun clear => ?_
      rw [flightClear_congr (take_valid ..) (take_inFlight ..)]
      exact clear
    · exact .same

theorem writable_eq_some {s : State} {ring : ReportRing} {r : Report} {rest : List Report}
    (h : s.writable = some (ring, r, rest)) :
    s.reports.ring = some ring ∧ s.reports.queue = r :: rest ∧ s.reports.inFlight = none ∧
      s.ringWaits = false ∧ s.reports.flag s.reports.writeIndex = false := by
  unfold State.writable at h
  split at h
  · rename_i e e'
    split at h
    · rename_i due
      cases h
      exact ⟨e, e', due⟩
    · cases h
  · cases h

theorem stillStep_reportWriterTake {s t : State} (h : exec .reportWriterTake s = .next t) :
    StillStep .reportWriterTake s.still t.still := by
  refine stillStep_of_next h ?_
  split
  · exact .same
  · rename_i e
    obtain ⟨-, -, -, -, clear⟩ := writable_eq_some e
    refine stillStep_of_still (still_queueWrite ..) (.reports _ rfl rfl fun _ => ?_)
    exact congrArg not clear

theorem stillStep_reportClearObserved {s t : State} (h : exec .reportClearObserved s = .next t) :
    StillStep .reportClearObserved s.still t.still := by
  refine stillStep_of_next h ?_
  split
  · rename_i number entry value u taken
    obtain ⟨rest, head, rfl⟩ := takeCompletion_eq_some taken
    unfold State.clearObserved
    split
    · exact .cleared rest entry rfl
    · exact .taken rest _ (.inl rfl)
  · exact .same

/-- Every step does one of the things of `StillStep`. -/
theorem exec_stillStep {c : Instr} {s t : State} (h : exec c s = .next t) :
    StillStep c s.still t.still := by
  by_cases engine : isEngineStep c = true
  · rw [engineStepsLeaveTheRestAlone c s t engine h]
    exact .same
  · cases c
    case powerOn => exact stillStep_powerOn h
    case warmReset => exact stillStep_warmReset h
    case resetRelease => exact stillStep_resetRelease h
    case retainFall => exact stillStep_retainFall h
    case retainRise => exact stillStep_retainRise h
    case portMGrant => exact stillStep_portMGrant h
    case internalWriteLanded => exact stillStep_internalWriteLanded h
    case internalReadData => exact stillStep_internalReadData h
    case commandPosting => exact stillStep_commandPosting h
    case setPhantom => exact stillStep_setPhantom h
    case loadKekPart1 => exact stillStep_loadKekPart1 h
    case loadKekPart2 => exact stillStep_loadKekPart2 h
    case eraseKek => exact stillStep_eraseKek h
    case setTime => exact stillStep_setTime h
    case setDrift => exact stillStep_setDrift h
    case configClock => exact stillStep_configClock h
    case measureClock => exact stillStep_measureClock h
    case setReportRing => exact stillStep_setReportRing h
    case transmitCommit => exact stillStep_transmitCommit h
    case receiveCommit => exact stillStep_receiveCommit h
    case correctedSecondBoundary => exact stillStep_correctedSecondBoundary h
    case autoMeasurementStart => exact stillStep_autoMeasurementStart h
    case measurementWindowClose => exact stillStep_measurementWindowClose h
    case beaconAbsorb => exact stillStep_beaconAbsorb h
    case reportPosting => exact stillStep_reportPosting h
    case reportWriterTake => exact stillStep_reportWriterTake h
    case reportClearObserved => exact stillStep_reportClearObserved h
    case rawTick => exact stillStep_rawTick h
    case refclkRisingEdge => exact stillStep_refclkRisingEdge h
    case mainPowerLoss => exact stillStep_mainPowerLoss h
    case vstbyLoss => exact stillStep_vstbyLoss h
    all_goals exact absurd rfl engine

/-! ### Safety (R42, R52, R136, R171, R177) -/

/-- The part of `State.safe` in the records of `State.still`. -/
def Safe (x : Still) : Prop :=
  memWf x.memory = true ∧ x.time.ranged = true ∧ x.commandQueue.Nodup ∧
    x.reports.flightClear = true ∧ x.phantom.all (fun b => b % 512 == 0) = true ∧
    x.map.phantom.all (fun b => b % 512 == 0) = true

theorem safe_iff (s : State) : s.safe = true ↔ Safe s.still := by
  simp [State.safe, State.phantomAligned, Safe, State.still, and_assoc]

theorem flightClear_of_noFlight {u : ReportUnit} (h : u.inFlight = none) :
    u.flightClear = true := by
  simp [ReportUnit.flightClear, h]

theorem flightClear_of_noFlag {u : ReportUnit} (h : u.valid = 0) : u.flightClear = true := by
  unfold ReportUnit.flightClear ReportUnit.flag
  rw [h]
  split <;> simp

/-- A flag cleared leaves the clear ones clear. -/
theorem flightClear_clearFlag {u : ReportUnit} (e : Nat) (h : u.flightClear = true) :
    ({ u with valid := clearFlag u.valid e } : ReportUnit).flightClear = true := by
  unfold ReportUnit.flightClear ReportUnit.flag at h ⊢
  dsimp only at h ⊢
  split
  · rfl
  · rename_i f eq
    rw [eq] at h
    simp only [Bool.not_eq_true'] at h
    simp [clearFlag, h]

theorem safe_of_stillStep {c : Instr} {x y : Still} (h : StillStep c x y) (hx : Safe x) : Safe y := by
  obtain ⟨memory, time, queue, flight, window, mapWindow⟩ := hx
  cases h with
  | same => exact ⟨memory, time, queue, flight, window, mapWindow⟩
  | reset a lines slots marker lost reports kind kept flags clear =>
    exact ⟨memory, ranged_reset, List.nodup_nil, flightClear_of_noFlight clear, rfl, rfl⟩
  | supply => exact ⟨memory, time, queue, flight, window, mapWindow⟩
  | grant arbiter completions m wf => exact ⟨wf memory, time, queue, flight, window, mapWindow⟩
  | taken rest q kept =>
    refine ⟨memory, time, ?_, flight, window, mapWindow⟩
    rcases kept with rfl | rfl
    · exact queue
    · exact queue.tail
  | posted rest entry once =>
    refine ⟨memory, time, ?_, flight, window, mapWindow⟩
    exact List.nodup_append.mpr ⟨queue, List.nodup_singleton entry, by
      rintro a ha b hb rfl
      exact once (List.mem_singleton.mp hb ▸ ha)⟩
  | result rest map kind same => exact ⟨memory, time, queue.tail, flight, window, same ▸ window⟩
  | record rest e reports kind head clear =>
    exact ⟨memory, time, queue, flightClear_of_noFlight clear, window, mapWindow⟩
  | cleared rest e => exact ⟨memory, time, queue, flightClear_clearFlag e flight, window, mapWindow⟩
  | ring reports base entries kind flags =>
    exact ⟨memory, time, queue, flightClear_of_noFlag flags, window, mapWindow⟩
  | reports reports ring flags kept => exact ⟨memory, time, queue, kept flight, window, mapWindow⟩
  | phantom base kind aligned => exact ⟨memory, time, queue, flight, aligned, mapWindow⟩
  | keks => exact ⟨memory, time, queue, flight, window, mapWindow⟩
  | time tm kept => exact ⟨memory, kept time, queue, flight, window, mapWindow⟩

/-- A step runs the command at the front of the queue, or nothing (log 1). -/
theorem step_cases {s t : State} (h : step s = .next t) :
    t = s ∨ ∃ c rest, s.pending = c :: rest ∧ exec c { s with pending := rest } = .next t := by
  unfold step at h
  split at h
  · exact .inl (Host.Outcome.next.inj h).symm
  · rename_i c rest e
    exact .inr ⟨c, rest, e, h⟩

/-- Settles O56: every change of `StillStep` keeps each of the five conditions. -/
theorem everyStepKeepsTheSafeState : Obligations.EveryStepKeepsTheSafeState := by
  intro s t h safe
  rw [safe_iff] at safe ⊢
  obtain rfl | ⟨c, rest, -, run⟩ := step_cases h
  · exact safe
  · exact safe_of_stillStep (exec_stillStep run) safe

/-! ### The counters of a LOADED slot (R96, R129) -/

theorem kekKept_of_stillStep {c : Instr} {x y : Still} (h : StillStep c x y)
    (parked : c = .mainPowerLoss → x.marker = .parked) : KekKept x.kekSlots y.kekSlots := by
  cases h with
  | reset a lines slots marker lost reports kind kept => exact kept parked
  | keks slots erasures staging kept => exact kept
  | _ => exact kekKept_refl _

/-- Settles O59: a slot that a step writes while it stays LOADED has a counter raised. -/
theorem loadedCountersNeverFall : Obligations.LoadedCountersNeverFall := by
  intro c s t k h parked before after
  exact kekKept_of_stillStep (exec_stillStep h) parked k before after

/-! ### The interrupt line (R173) -/

theorem int_eq_false_iff (s : State) : s.int = false ↔ s.reports.valid = 0 := by
  simp [State.int]

theorem int_eq_true_iff (s : State) : s.int = true ↔ s.reports.valid ≠ 0 := by
  simp [State.int]

theorem int_iff_flag (s : State) : s.int = true ↔ ∃ e, e < 1024 ∧ s.reports.flag e = true := by
  rw [int_eq_true_iff]
  constructor
  · intro some_flag
    by_contra none_set
    refine some_flag (BitVec.eq_of_getLsbD_eq fun e he => ?_)
    simpa [ReportUnit.flag] using fun h => none_set ⟨e, he, h⟩
  · rintro ⟨e, -, set⟩ clear
    simp [ReportUnit.flag, clear] at set

theorem clearFlag_zero (e : Nat) : clearFlag 0 e = 0 := by simp [clearFlag]

/-- A flag is set by the landing of a record alone. -/
theorem rises_of_stillStep {c : Instr} {x y : Still} (h : StillStep c x y) (low : x.reports.valid = 0)
    (high : y.reports.valid ≠ 0) :
    c = .internalWriteLanded ∧ ∃ e rest, x.completions = .landed (.record e) :: rest := by
  cases h with
  | reset a lines slots marker lost reports kind kept flags => exact absurd flags high
  | record rest e reports kind head => exact ⟨kind, e, rest, head⟩
  | cleared rest e =>
    refine absurd ?_ high
    change clearFlag x.reports.valid e = 0
    rw [low, clearFlag_zero]
  | ring reports base entries kind flags => exact absurd flags high
  | reports reports ring flags => exact absurd (flags.trans low) high
  | _ => exact absurd low high

theorem falls_of_stillStep {c : Instr} {x y : Still} (h : StillStep c x y)
    (high : x.reports.valid ≠ 0) (low : y.reports.valid = 0) :
    c = .internalWriteLanded ∨ c = .reportClearObserved ∨
      (∃ base entries, c = .setReportRing base entries) ∨ isReset c := by
  cases h with
  | reset a lines slots marker lost reports kind => exact .inr (.inr (.inr kind))
  | record rest e reports kind => exact .inl kind
  | cleared rest e kind => exact .inr (.inl kind)
  | ring reports base entries kind => exact .inr (.inr (.inl ⟨base, entries, kind⟩))
  | reports reports ring flags => exact absurd (flags.symm.trans low) high
  | _ => exact absurd low high

theorem isReset_cases {c : Instr} (h : isReset c) :
    (∃ straps, c = .powerOn straps) ∨ (∃ straps, c = .warmReset straps) ∨ c = .mainPowerLoss := by
  cases c with
  | powerOn straps => exact .inl ⟨straps, rfl⟩
  | warmReset straps => exact .inr (.inl ⟨straps, rfl⟩)
  | mainPowerLoss => exact .inr (.inr rfl)
  | _ => exact h.elim

theorem setFlag_ne_zero (valid : BitVec 1024) {e : Nat} (he : e < 1024) : setFlag valid e ≠ 0 := by
  intro zero
  have set : (setFlag valid e).getLsbD e = true := by simp [setFlag, he]
  simp [zero] at set

/-- Without a waiting SET_REPORT_RING the landing sets its flag and no more (R171). -/
theorem recordLanded_valid {s : State} (e : Nat)
    (waits : ∀ entry record new,
      s.command.executing ≠ some ⟨entry, .replacingRing record new⟩) :
    (s.recordLanded e).reports.valid = setFlag s.reports.valid e := by
  unfold State.recordLanded State.finishReportRing
  dsimp only
  split
  · rename_i entry record new eq
    exact absurd eq (waits entry record new)
  · rfl

/-- Settles O53: what raises and what lowers the line is read off `StillStep`. -/
theorem interruptFollowsTheFlags : Obligations.InterruptFollowsTheFlags := by
  refine ⟨int_iff_flag, ?_, ?_, ?_⟩
  · intro c s t h low high
    exact rises_of_stillStep (exec_stillStep h) ((int_eq_false_iff s).mp low)
      ((int_eq_true_iff t).mp high)
  · intro c s t h high low
    obtain landed | clearing | ring | kind := falls_of_stillStep (exec_stillStep h)
      ((int_eq_true_iff s).mp high) ((int_eq_false_iff t).mp low)
    · exact .inl landed
    · exact .inr (.inl clearing)
    · exact .inr (.inr (.inl ring))
    · exact .inr (.inr (.inr (isReset_cases kind)))
  · intro s e rest he head waits
    have taken : s.takeCompletion =
        some (.landed (.record e), { s with completions := rest }) := by
      simp [State.takeCompletion, head]
    refine ⟨(({ s with completions := rest } : State).recordLanded e).resume, ?_, ?_⟩
    · change execInternalWriteLanded s = _
      simp [execInternalWriteLanded, taken, State.landed]
    · rw [int_eq_true_iff, reports_eq_of_still (still_resume _),
        recordLanded_valid (s := { s with completions := rest }) e waits]
      exact setFlag_ne_zero _ he

/-! ### Which commands stop (R40, log 23) -/

theorem pending_of_stillStep {c : Instr} {x y : Still} (h : StillStep c x y) :
    y.pending = x.pending := by
  cases h <;> rfl

theorem presentRequestRead_of_legal {start : Long} {beats : Nat}
    (h : (beatCountLegal beats && beatsInSpace start beats) = true) (s : State) (onL : Bool) :
    ∃ t, s.presentRequestRead onL start beats = .next t := by
  simp only [Bool.and_eq_true] at h
  exact ⟨_, by simp only [State.presentRequestRead, h.1, h.2]; rfl⟩

theorem presentRequestWrite_of_legal {start : Long} {bytes : List (Option Byte)}
    (h : (writeLegal bytes && beatsInSpace start (bytes.length / 8)) = true) (s : State)
    (onL : Bool) : ∃ t, s.presentRequestWrite onL start bytes = .next t := by
  simp only [Bool.and_eq_true] at h
  exact ⟨_, by simp only [State.presentRequestWrite, h.1, h.2]; rfl⟩

/-- Every command but a transaction answers a next state whatever its operands are. -/
theorem exec_of_wellFormed (c : Instr) (s : State) (h : c.wellFormed = true) :
    ∃ t, exec c s = .next t := by
  cases c
  case portPRead => exact presentRequestRead_of_legal h s false
  case portLRead => exact presentRequestRead_of_legal h s true
  case portPWrite => exact presentRequestWrite_of_legal h s false
  case portLWrite => exact presentRequestWrite_of_legal h s true
  all_goals exact ⟨_, rfl⟩

theorem presentRequestRead_malformed {beats : Nat} (h : beats = 0 ∨ 8 < beats) (start : Long)
    (s : State) (onL : Bool) :
    s.presentRequestRead onL start beats = .refused .malformedTransaction := by
  have illegal : beatCountLegal beats = false := by simp [beatCountLegal]; omega
  simp [State.presentRequestRead, illegal]

theorem presentRequestRead_beyond {start : Long} {beats : Nat} (low : 1 ≤ beats) (high : beats ≤ 8)
    (h : 2 ^ 32 < start.toNat / 8 * 8 + 8 * beats) (s : State) (onL : Bool) :
    s.presentRequestRead onL start beats = .fault .beyondAddressSpace := by
  have legal : beatCountLegal beats = true := by simp [beatCountLegal]; omega
  have outside : beatsInSpace start beats = false := by
    unfold beatsInSpace firstBeat; exact decide_eq_false (by omega)
  simp only [State.presentRequestRead, legal, outside]
  rfl

theorem presentRequestWrite_malformed {bytes : List (Option Byte)}
    (h : bytes.length % 8 ≠ 0 ∨ bytes.length = 0 ∨ 64 < bytes.length) (start : Long) (s : State)
    (onL : Bool) :
    s.presentRequestWrite onL start bytes = .refused .malformedTransaction := by
  have illegal : writeLegal bytes = false := by
    rw [Bool.eq_false_iff]
    simp only [writeLegal, beatCountLegal, ne_eq, Bool.and_eq_true, beq_iff_eq, decide_eq_true_eq]
    omega
  simp [State.presentRequestWrite, illegal]

theorem presentRequestWrite_beyond {start : Long} {bytes : List (Option Byte)}
    (whole : bytes.length % 8 = 0) (nonempty : bytes.length ≠ 0) (high : bytes.length ≤ 64)
    (h : 2 ^ 32 < start.toNat / 8 * 8 + bytes.length) (s : State) (onL : Bool) :
    s.presentRequestWrite onL start bytes = .fault .beyondAddressSpace := by
  have low : 1 ≤ bytes.length := Nat.pos_of_ne_zero nonempty
  have legal : writeLegal bytes = true := by
    simp only [writeLegal, beatCountLegal, Bool.and_eq_true, beq_iff_eq, decide_eq_true_eq]
    omega
  have outside : beatsInSpace start (bytes.length / 8) = false := by
    unfold beatsInSpace firstBeat; exact decide_eq_false (by omega)
  simp only [State.presentRequestWrite, legal, outside]
  rfl

/-- Settles O2: only the four bus transactions test their operands before they mean anything. -/
theorem onlyMalformedTransactionsStop : Obligations.OnlyMalformedTransactionsStop := by
  refine ⟨exec_of_wellFormed, fun c s t h => pending_of_stillStep (exec_stillStep h),
    ?_, ?_, ?_, ?_⟩
  · intro start beats s h
    exact ⟨presentRequestRead_malformed h start s false, presentRequestRead_malformed h start s true⟩
  · intro start beats s low high h
    exact ⟨presentRequestRead_beyond low high h s false, presentRequestRead_beyond low high h s true⟩
  · intro start bytes s h
    exact ⟨presentRequestWrite_malformed h start s false,
      presentRequestWrite_malformed h start s true⟩
  · intro start bytes s whole nonempty high h
    exact ⟨presentRequestWrite_beyond whole nonempty high h s false,
      presentRequestWrite_beyond whole nonempty high h s true⟩

/-- Settles O1. -/
theorem stepRunsTheFrontCommand : Obligations.StepRunsTheFrontCommand := by
  refine ⟨fun c rest s => rfl, fun s idle => ?_⟩
  simp [step, idle]

end Sys2Proof.Proofs.StillRecords
end


section
/-! PROOFS. The guards and monitor parameters of the links, the descriptor areas, the key table and a waiting
SET_REPORT_RING: one lemma per operation that leaves them all alone. -/

namespace Sys2Proof.Proofs.Frames
open Sys2Proof Sys2Proof.Machine

/-! ### What is kept -/

/-- What the region map and the monitor's parameters need of a link record (R20, R165). -/
def linkShape (x : Link) : (Option Region × Option Region) × Nat × Nat × Nat :=
  ((x.transmit, x.receive), x.health.t, x.health.i, x.health.r)

/-- The report ring that a waiting SET_REPORT_RING will set (R169, R181). -/
def waitingRing (x : Option Executing) : Option (Nat × Nat) :=
  match x with
  | some ⟨_, .replacingRing _ ring⟩ => ring
  | _ => none

/-- The guards and parameters of the links, and the descriptor areas (R20, R21, R165). -/
structure Layout where
  links : Vector ((Option Region × Option Region) × Nat × Nat × Nat) 8
  areas : Vector (Option Area) 16

/-- The layout, the key table and the report ring that is still to be set. -/
structure Frame where
  layout : Layout
  table : Vector KeySlot 24
  waiting : Option (Nat × Nat)

/-- Those records of a state. -/
def frame (s : State) : Frame :=
  { layout := ⟨mapTable s.links linkShape, mapTable s.rings (Option.map Ring.area)⟩
    table := s.keys.table
    waiting := waitingRing s.command.executing }

/-! ### Tables -/

/-- A table is not seen to change by a function that takes the new element for the old. -/
theorem mapTable_set {α β : Type} {n : Nat} (v : Vector α n) (f : α → β) (i : Fin n) (x : α)
    (h : f x = f v[i]) : mapTable (v.set i x) f = mapTable v f := by
  apply Vector.ext
  intro j hj
  have get : ∀ w : Vector α n, (mapTable w f)[j] = f w[j] := fun w => mapTable_get w f ⟨j, hj⟩
  rw [get, get, Vector.getElem_set]
  split
  · rename_i e
    subst e
    exact h
  · rfl

theorem mapTable_mapTable {α β γ : Type} {n : Nat} (v : Vector α n) (f : α → β) (g : β → γ) :
    mapTable (mapTable v f) g = mapTable v (fun x => g (f x)) := by
  simp [mapTable, Function.comp_def]

/-! ### Updates -/

section updates
variable (s : State)

@[simp] theorem frame_setLink (l : LinkSlot) (x : Link)
    (transmit : x.transmit = (s.link l).transmit) (receive : x.receive = (s.link l).receive)
    (ht : x.health.t = (s.link l).health.t) (hi : x.health.i = (s.link l).health.i)
    (hr : x.health.r = (s.link l).health.r) : frame (s.setLink l x) = frame s := by
  have same : linkShape x = linkShape (s.link l) := by
    simp only [linkShape, transmit, receive, ht, hi, hr]
  simp only [frame, State.setLink, mapTable_set s.links linkShape l x same]

@[simp] theorem frame_setOut (l : LinkSlot) (c : Option OutContext) :
    frame (s.setOut l c) = frame s := frame_setLink s l _ rfl rfl rfl rfl rfl
@[simp] theorem frame_setIn (l : LinkSlot) (c : Option InContext) :
    frame (s.setIn l c) = frame s := frame_setLink s l _ rfl rfl rfl rfl rfl
@[simp] theorem frame_setHealth (l : LinkSlot) (h : Health)
    (ht : h.t = (s.link l).health.t) (hi : h.i = (s.link l).health.i)
    (hr : h.r = (s.link l).health.r) : frame (s.setHealth l h) = frame s :=
  frame_setLink s l _ rfl rfl ht hi hr

@[simp] theorem frame_setRing (r : RingIndex) (x : Option Ring)
    (h : x.map Ring.area = (s.ring r).map Ring.area) : frame (s.setRing r x) = frame s := by
  simp only [frame, State.setRing, mapTable_set s.rings (Option.map Ring.area) r x h]

@[simp] theorem frame_post (b : ReportSource) (l : Option LinkSlot) (d : ReportDetail) :
    frame (s.post b l d) = frame s := rfl
@[simp] theorem frame_fault (l : Option LinkSlot) (a : Nat) : frame (s.fault l a) = frame s := rfl
@[simp] theorem frame_notifyStatus (n : StatusNotice) : frame (s.notifyStatus n) = frame s := rfl
@[simp] theorem frame_notifyNoBuffer (l : LinkSlot) : frame (s.notifyNoBuffer l) = frame s := rfl
@[simp] theorem frame_notifyArrival (l : LinkSlot) : frame (s.notifyArrival l) = frame s := rfl
@[simp] theorem frame_askStore (r : StoreRequest) : frame (s.askStore r) = frame s := rfl
@[simp] theorem frame_forgetAsks (q : StoreRequester) : frame (s.forgetAsks q) = frame s := rfl
@[simp] theorem frame_askKeyUnit (r : KeyRequest) : frame (s.askKeyUnit r) = frame s := rfl
@[simp] theorem frame_nextContext : frame s.nextContext = frame s := rfl
@[simp] theorem frame_useFree : frame s.useFree = frame s := rfl
@[simp] theorem frame_cipher (c : CipherUnit) :
    frame ({ s with cipher := c } : State) = frame s := rfl
@[simp] theorem frame_setEngine (e : Engine) : frame (s.setEngine e) = frame s := rfl
@[simp] theorem frame_setKek (k : KekIndex) (x : KekSlot) : frame (s.setKek k x) = frame s := rfl
@[simp] theorem frame_eraseKek (k : KekIndex) : frame (s.eraseKek k) = frame s := rfl
@[simp] theorem frame_mail (m : Mail) : frame ({ s with mail := m } : State) = frame s := rfl
@[simp] theorem frame_time (t : TimeBase) : frame ({ s with time := t } : State) = frame s := rfl
@[simp] theorem frame_store (x : RetainedStore) :
    frame ({ s with store := x } : State) = frame s := rfl
@[simp] theorem frame_lines (x : Lines) : frame ({ s with lines := x } : State) = frame s := rfl
@[simp] theorem frame_reports (x : ReportUnit) :
    frame ({ s with reports := x } : State) = frame s := rfl
@[simp] theorem frame_arbiter (x : MemoryRequester) :
    frame ({ s with arbiter := x } : State) = frame s := rfl
@[simp] theorem frame_completions (x : List Completion) :
    frame ({ s with completions := x } : State) = frame s := rfl
@[simp] theorem frame_internal (m : InternalMaster) :
    frame ({ s with internal := m } : State) = frame s := rfl
@[simp] theorem frame_portL (x : Port) :
    frame ({ s with steering := { s.steering with l := x } } : State) = frame s := rfl
@[simp] theorem frame_portP (x : Port) :
    frame ({ s with steering := { s.steering with p := x } } : State) = frame s := rfl
@[simp] theorem frame_restKeys (n : BitVec 64) (jobs : List Job) (requests : List KeyRequest) :
    frame ({ s with keys := ⟨s.keys.table, n, jobs, requests⟩ } : State) = frame s := rfl
@[simp] theorem frame_mapPorts (f : Port → Port) : frame (s.mapPorts f) = frame s := rfl

@[simp] theorem frame_setPort (b : Bool) (x : Port) : frame (s.setPort b x) = frame s := by
  cases b <;> rfl

/-- A slot record is no part of the ring's area. -/
@[simp] theorem frame_setSlot (r : RingIndex) (i : Nat) (x : SlotRecord) :
    frame (s.setSlot r i x) = frame s := by
  unfold State.setSlot
  split
  · rfl
  · rename_i e
    exact frame_setRing _ _ _ (by simp [e, Ring.setSlot, Ring.area])

@[simp] theorem frame_admitWrite (w : InternalWrite) : frame (s.admitWrite w) = frame s := by
  unfold State.admitWrite; split <;> rfl
@[simp] theorem frame_admitRead (r : InternalRead) : frame (s.admitRead r) = frame s := rfl
@[simp] theorem frame_queueWrite (w : InternalWrite) : frame (s.queueWrite w) = frame s := by
  unfold State.queueWrite; split <;> simp
@[simp] theorem frame_queueRead (r : InternalRead) : frame (s.queueRead r) = frame s := by
  unfold State.queueRead; split <;> simp
@[simp] theorem frame_admitWaitingWrite : frame s.admitWaitingWrite = frame s := by
  unfold State.admitWaitingWrite; split <;> simp
@[simp] theorem frame_admitWaitingRead : frame s.admitWaitingRead = frame s := by
  unfold State.admitWaitingRead; split <;> simp

/-- An answered command waits for nothing. -/
theorem frame_answer (r : List Byte) (c : ResultCode) (b : List (Nat × List Byte)) :
    frame (s.answer r c b) = { frame s with waiting := none } := by
  unfold State.answer
  split
  · rename_i e
    simp [frame, e, waitingRing]
  · rw [frame_queueWrite]
    rfl

/-- A CLOSE_LINK that is answered was no waiting SET_REPORT_RING. -/
@[simp] theorem frame_answerClose (l : LinkSlot) : frame (s.answerClose l) = frame s := by
  unfold State.answerClose
  split
  · rename_i e
    split
    · rw [frame_answer]
      simp [frame, e, waitingRing]
    · rfl
  · rfl

end updates

/-- A fold of an operation that leaves it alone. -/
theorem frame_foldl {α : Type} (f : State → α → State) (h : ∀ s a, frame (f s a) = frame s)
    (xs : List α) (s : State) : frame (xs.foldl f s) = frame s := by
  induction xs generalizing s with
  | nil => rfl
  | cons x xs ih => rw [List.foldl_cons, ih, h]

/-! ### Cipher requests (R15, R61, R68, R93) -/

@[simp] theorem frame_feedOut (s : State) (l : LinkSlot) : frame (s.feedOut l) = frame s := by
  unfold State.feedOut; dsimp only; (repeat' split) <;> simp

@[simp] theorem frame_feedIn (s : State) (l : LinkSlot) : frame (s.feedIn l) = frame s := by
  unfold State.feedIn; dsimp only; (repeat' split) <;> simp

@[simp] theorem frame_moveOutWindow (s : State) (l : LinkSlot) (w : Nat) :
    frame (s.moveOutWindow l w) = frame s := by
  unfold State.moveOutWindow; dsimp only; (repeat' split) <;> simp

@[simp] theorem frame_moveInWindow (s : State) (l : LinkSlot) (w : Nat) :
    frame (s.moveInWindow l w) = frame s := by
  unfold State.moveInWindow; dsimp only; (repeat' split) <;> simp

@[simp] theorem frame_loseOut (s : State) (l : LinkSlot) (c : PartCode) :
    frame (s.loseOut l c) = frame s := by
  unfold State.loseOut; (repeat' split) <;> simp

@[simp] theorem frame_loseIn (s : State) (l : LinkSlot) (c : PartCode) :
    frame (s.loseIn l c) = frame s := by
  unfold State.loseIn; (repeat' split) <;> simp

@[simp] theorem frame_closeOut (s : State) (l : LinkSlot) : frame (s.closeOut l) = frame s := by
  unfold State.closeOut; (repeat' split) <;> simp

@[simp] theorem frame_closeIn (s : State) (l : LinkSlot) : frame (s.closeIn l) = frame s := by
  unfold State.closeIn; (repeat' split) <;> simp

/-! ### Link records (R18, R25, R37) -/

@[simp] theorem frame_linkActivated (s : State) (l : LinkSlot) :
    frame (s.linkActivated l) = frame s := by
  unfold State.linkActivated; dsimp only; (repeat' split) <;> simp

@[simp] theorem frame_linkKeyLost (s : State) (l : LinkSlot) :
    frame (s.linkKeyLost l) = frame s := by
  unfold State.linkKeyLost; dsimp only; (repeat' split) <;> simp

@[simp] theorem frame_queueReplacement (s : State) (r : RingIndex) (i : Nat) (st : Byte)
    (o : FrameOutcome) :
    frame (s.queueReplacement r i st o) = frame s := by
  unfold State.queueReplacement; dsimp only; (repeat' split) <;> simp

@[simp] theorem frame_replacementLanded (s : State) (r : RingIndex) (i : Nat) :
    frame (s.replacementLanded r i) = frame s := by
  unfold State.replacementLanded; simp

@[simp] theorem frame_clearRing (s : State) (r : Option RingIndex) :
    frame (s.clearRing r) = frame s := by
  unfold State.clearRing
  split
  · rfl
  · split
    · rfl
    · rename_i e
      exact frame_setRing _ _ _ (by simp [e, Ring.cleared, Ring.area])

@[simp] theorem frame_dropNotices (s : State) (l : LinkSlot) :
    frame (s.dropNotices l) = frame s := by
  unfold State.dropNotices; dsimp only; simp

/-! ### Key unit (R106, R113, R117 to R121) -/

@[simp] theorem frame_noticeOut (s : State) (l : LinkSlot) (ref : KeyRef) :
    frame (s.noticeOut l ref) = frame s := by
  unfold State.noticeOut; (repeat' split) <;> simp

@[simp] theorem frame_noticeIn (s : State) (l : LinkSlot) (ref : KeyRef) :
    frame (s.noticeIn l ref) = frame s := by
  unfold State.noticeIn; (repeat' split) <;> simp

/-! ### Renewal jobs (R101, R107 to R112) -/

@[simp] theorem frame_keepOutcome (s : State) (l : LinkSlot) (c : InContext) :
    frame (s.keepOutcome l c) = frame s := by
  unfold State.keepOutcome; dsimp only; (repeat' split) <;> simp

@[simp] theorem frame_enqueueJob (s : State) (j : Job) : frame (s.enqueueJob j) = frame s := by
  unfold State.enqueueJob; dsimp only; simp

@[simp] theorem frame_handOver (s : State) (l : LinkSlot) : frame (s.handOver l) = frame s := by
  unfold State.handOver; (repeat' split) <;> simp

@[simp] theorem frame_settleJob (s : State) (j : Job) (c : PartCode) :
    frame (s.settleJob j c) = frame s := by
  unfold State.settleJob; (repeat' split) <;> simp

@[simp] theorem frame_removeJob (s : State) (j : Job) : frame (s.removeJob j) = frame s := by
  rfl

@[simp] theorem frame_endJob (s : State) (j : Job) (c : PartCode) :
    frame (s.endJob j c) = frame s := by
  unfold State.endJob; dsimp only; (repeat' split) <;> simp

@[simp] theorem frame_setJob (s : State) (j : Job) : frame (s.setJob j) = frame s := by
  rfl

@[simp] theorem frame_startJobs (n : Nat) (s : State) : frame (State.startJobs n s) = frame s := by
  induction n generalizing s with
  | zero => rfl
  | succ n ih => unfold State.startJobs; (repeat' split) <;> simp [ih]

@[simp] theorem frame_finishJob (s : State) (j : Job) (c : PartCode) :
    frame (s.finishJob j c) = frame s := by
  unfold State.finishJob; simp

@[simp] theorem frame_kekAnswered (s : State) (i : Nat) (k : KekIndex) (b : Bool) :
    frame (s.kekAnswered i k b) = frame s := by
  unfold State.kekAnswered; dsimp only; (repeat' split) <;> simp

@[simp] theorem frame_unwrapReturned (s : State) (i h : Nat) (o : List Byte) :
    frame (s.unwrapReturned i h o) = frame s := by
  unfold State.unwrapReturned; dsimp only; (repeat' split) <;> simp

@[simp] theorem frame_unwrapGone (s : State) (i : Nat) : frame (s.unwrapGone i) = frame s := by
  unfold State.unwrapGone; (repeat' split) <;> simp

@[simp] theorem frame_nextInstallation (s : State) : frame (s.nextInstallation) = frame s := by
  unfold State.nextInstallation; dsimp only; (repeat' split) <;> simp

/-! ### Inbound engine (R81 to R103) -/

@[simp] theorem frame_openInbound (s : State) (l : LinkSlot) (i : Nat) (d : List Byte) :
    frame (s.openInbound l i d) = frame s := by
  unfold State.openInbound; simp

@[simp] theorem frame_streamFaultIn (s : State) (l : LinkSlot) :
    frame (s.streamFaultIn l) = frame s := by
  unfold State.streamFaultIn; (repeat' split) <;> simp

@[simp] theorem frame_askSelection (s : State) (l : LinkSlot) (c : InContext) (h : Header)
    (x : FrameClass) :
    frame (s.askSelection l c h x) = frame s := by
  unfold State.askSelection; dsimp only; (repeat' split) <;> simp

@[simp] theorem frame_parseIn (s : State) (l : LinkSlot) (c : InContext) :
    frame (s.parseIn l c) = frame s := by
  unfold State.parseIn; dsimp only; (repeat' split) <;> simp

@[simp] theorem frame_selectionAnswered (s : State) (l : LinkSlot) (i : Nat) (a : Selection) :
    frame (s.selectionAnswered l i a) = frame s := by
  unfold State.selectionAnswered; dsimp only; (repeat' split) <;> simp

theorem frame_takePayload (s : State) (l : LinkSlot) (c : InContext) (h : Header) (o : Nat)
    (b : Byte)
    {r : State × Byte} (e : s.takePayload l c h o b = some r) : frame r.1 = frame s := by
  unfold State.takePayload at e
  (repeat' split at e) <;> simp only [Option.some.injEq, reduceCtorEq] at e <;> subst e <;> simp

theorem frame_takeTrailer (s : State) (l : LinkSlot) (c : InContext) (h : Header) (b : Byte)
    {r : State × Byte} (e : s.takeTrailer l c h b = some r) : frame r.1 = frame s := by
  unfold State.takeTrailer at e
  (repeat' split at e) <;> simp only [Option.some.injEq, reduceCtorEq] at e <;> subst e <;> simp

@[simp] theorem frame_takeHeader (s : State) (l : LinkSlot) (c : InContext) (x : Nat) (b : Byte) :
    frame (s.takeHeader l c x b) = frame s := by
  unfold State.takeHeader; dsimp only; (repeat' split) <;> simp

theorem frame_takeByte (s : State) (l : LinkSlot) (c : InContext) (x : Nat) (b : Byte)
    {r : State × Byte} (e : s.takeByte l c x b = some r) : frame r.1 = frame s := by
  unfold State.takeByte at e
  (repeat' split at e)
  case _ => cases e
  case _ => cases e; rfl
  case _ => cases e; simp
  case _ => cases e; simp
  case _ => exact frame_takePayload _ _ _ _ _ _ e
  case _ => exact frame_takeTrailer _ _ _ _ _ e
  case _ => cases e; simp

@[simp] theorem frame_storeBytes (l : LinkSlot) (bs : List (Option Byte)) (s : State)
    (p : Portion) :
    frame (s.storeBytes l p bs).1 = frame s := by
  induction bs generalizing s p with
  | nil => rfl
  | cons b bs ih =>
    cases b with
    | none => exact ih s _
    | some b =>
      unfold State.storeBytes
      dsimp only
      split
      · rw [ih]; split <;> simp
      · split
        · rfl
        · rename_i r e
          rw [ih, frame_takeByte _ _ _ _ _ e]

@[simp] theorem frame_issueL (s : State) (a : Access) : frame (s.issueL a) = frame s := by
  unfold State.issueL; dsimp only; simp

@[simp] theorem frame_issueBeats (i n : Nat) (s : State) (p : Portion) :
    frame (s.issueBeats i p n).1 = frame s := by
  induction n generalizing s p with
  | zero => rfl
  | succ n ih => unfold State.issueBeats; dsimp only; (repeat' split) <;> simp [ih]

@[simp] theorem frame_advanceInbound (s : State) (l : LinkSlot) (i : Nat) (p : Portion) :
    frame (s.advanceInbound l i p).1 = frame s := by
  unfold State.advanceInbound; simp

@[simp] theorem frame_inBlock (s : State) (l : LinkSlot) (i n : Nat) (b : List Byte) :
    frame (s.inBlock l i n b) = frame s := by
  unfold State.inBlock; (repeat' split) <;> simp

@[simp] theorem frame_inKeyGone (s : State) (l : LinkSlot) (i : Nat) (ref : KeyRef) :
    frame (s.inKeyGone l i ref) = frame s := by
  unfold State.inKeyGone; (repeat' split) <;> simp

@[simp] theorem frame_endSettlement (s : State) (l : LinkSlot) (c : InContext) (x : Byte)
    (b : Bool) :
    frame (s.endSettlement l c x b) = frame s := by
  unfold State.endSettlement; dsimp only; (repeat' split) <;> simp

@[simp] theorem frame_settleWith (s : State) (l : LinkSlot) (c : InContext) (x : PartCode) :
    frame (s.settleWith l c x) = frame s := by
  unfold State.settleWith; simp

@[simp] theorem frame_confirm (s : State) (l : LinkSlot) (c : InContext) (q : Seq) :
    frame (s.confirm l c q) = frame s := by
  unfold State.confirm; dsimp only; (repeat' split) <;> simp

@[simp] theorem frame_settle (s : State) (l : LinkSlot) (c : InContext) (x : Byte) (n : Nat) :
    frame (s.settle l c x n) = frame s := by
  unfold State.settle; (repeat' split) <;> simp

@[simp] theorem frame_filterKeepalive (s : State) (l : LinkSlot) (p : List Byte) :
    frame (s.filterKeepalive l p).1 = frame s := by
  unfold State.filterKeepalive; dsimp only; simp

@[simp] theorem frame_restartFilter (s : State) (l : LinkSlot) :
    frame (s.restartFilter l) = frame s := by
  unfold State.restartFilter; dsimp only; simp

@[simp] theorem frame_recordArrival (s : State) (l : LinkSlot) :
    frame (s.recordArrival l) = frame s := by
  unfold State.recordArrival; dsimp only; simp

@[simp] theorem frame_handBeacon (s : State) (l : LinkSlot) (p : List Byte) :
    frame (s.handBeacon l p) = frame s := by
  unfold State.handBeacon; dsimp only; simp

@[simp] theorem frame_verified (s : State) (l : LinkSlot) (c : InContext) (x : Byte) :
    frame (s.verified l c x) = frame s := by
  unfold State.verified; dsimp only; (repeat' split) <;> simp

@[simp] theorem frame_confirmAnswered (s : State) (l : LinkSlot) (i : Nat) (x : Option PartCode) :
    frame (s.confirmAnswered l i x) = frame s := by
  unfold State.confirmAnswered; (repeat' split) <;> simp

@[simp] theorem frame_forceIn (s : State) (l : LinkSlot) : frame (s.forceIn l) = frame s := by
  unfold State.forceIn; (repeat' split) <;> simp

/-! ### Outbound engine (R56 to R80) -/

@[simp] theorem frame_openSoftware (s : State) (l : LinkSlot) (i : Nat) (d p : List Byte)
    (c : FrameClass) :
    frame (s.openSoftware l i d p c) = frame s := by
  unfold State.openSoftware; simp

@[simp] theorem frame_openSubstituted (s : State) (l : LinkSlot) (i n : Nat) (p : List Byte) :
    frame (s.openSubstituted l i n p) = frame s := by
  unfold State.openSubstituted; simp

@[simp] theorem frame_beginRelease (s : State) (l : LinkSlot) (c : OutContext) :
    frame (s.beginRelease l c) = frame s := by
  unfold State.beginRelease; simp

@[simp] theorem frame_bindOut (s : State) (l : LinkSlot) (c : OutContext) (ref : KeyRef)
    (e : Half) (q : Seq) :
    frame (s.bindOut l c ref e q) = frame s := by
  unfold State.bindOut; simp

@[simp] theorem frame_releaseWithoutKey (s : State) (l : LinkSlot) (c : OutContext) :
    frame (s.releaseWithoutKey l c) = frame s := by
  unfold State.releaseWithoutKey; (repeat' split) <;> simp

@[simp] theorem frame_startFill (s : State) (l : LinkSlot) (a b : Nat) :
    frame (s.startFill l a b) = frame s := by
  unfold State.startFill; dsimp only; (repeat' split) <;> simp

@[simp] theorem frame_advanceFill (s : State) (l : LinkSlot) :
    frame (s.advanceFill l) = frame s := by
  unfold State.advanceFill; dsimp only; (repeat' split) <;> simp

@[simp] theorem frame_fillData (s : State) (l : LinkSlot) (i : Nat) (b : List Byte) :
    frame (s.fillData l i b) = frame s := by
  unfold State.fillData; (repeat' split) <;> simp

@[simp] theorem frame_takePortion (s : State) (l : LinkSlot) (c : OutContext) (p : Portion) :
    frame (s.takePortion l c p) = frame s := by
  unfold State.takePortion; dsimp only; (repeat' split) <;> simp

@[simp] theorem frame_withdrawPayload (s : State) (i : Nat) :
    frame (s.withdrawPayload i) = frame s := by
  unfold State.withdrawPayload; dsimp only; simp

@[simp] theorem frame_servePortion (s : State) (l : LinkSlot) (i : Nat) (p : Portion) :
    frame (s.servePortion l i p).1 = frame s := by
  unfold State.servePortion; dsimp only; (repeat' split) <;> simp

@[simp] theorem frame_advanceOutbound (s : State) (l : LinkSlot) (b : Bool) (i n : Nat)
    (p : Portion) :
    frame (s.advanceOutbound l b i n p).1 = frame s := by
  unfold State.advanceOutbound; dsimp only; (repeat' split) <;> simp

@[simp] theorem frame_finishOut (s : State) (l : LinkSlot) (x : Byte) :
    frame (s.finishOut l x) = frame s := by
  unfold State.finishOut; dsimp only; (repeat' split) <;> simp

@[simp] theorem frame_completeOut (s : State) (l : LinkSlot) (c : OutContext) (r : RingIndex)
    (x : Byte) :
    frame (s.completeOut l c r x) = frame s := by
  unfold State.completeOut; (repeat' split) <;> simp

@[simp] theorem frame_outBlock (s : State) (l : LinkSlot) (i n : Nat) (b : List Byte) :
    frame (s.outBlock l i n b) = frame s := by
  unfold State.outBlock; dsimp only; (repeat' split) <;> simp

@[simp] theorem frame_outKeyGone (s : State) (l : LinkSlot) (i : Nat) (ref : KeyRef) :
    frame (s.outKeyGone l i ref) = frame s := by
  unfold State.outKeyGone; (repeat' split) <;> simp

/-! ### Link unit (R30 to R35, R26) -/

@[simp] theorem frame_record (s : State) (r : RingIndex) (i : Nat) (h : Option PartCode)
    (d : List Byte) :
    frame (s.record r i h d) = frame s := by
  unfold State.record; dsimp only; simp

@[simp] theorem frame_presentOut (s : State) (r : RingIndex) (l : LinkSlot) (i : Nat)
    (d : List Byte) :
    frame (s.presentOut r l i d).1 = frame s := by
  unfold State.presentOut; dsimp only; (repeat' split) <;> simp

@[simp] theorem frame_presentIn (s : State) (r : RingIndex) (l : LinkSlot) (i : Nat) (c : Bool)
    (d : List Byte) : frame (s.presentIn r l i c d).1 = frame s := by
  unfold State.presentIn; dsimp only; (repeat' split) <;> simp

@[simp] theorem frame_ringFault (s : State) (l : LinkSlot) (a : Nat) :
    frame (s.ringFault l a) = frame s := by
  unfold State.ringFault; simp

@[simp] theorem frame_presentRead (s : State) (r : RingIndex) (a : Area) (n : Nat) (d : List Byte)
    (b c : Bool) : frame (s.presentRead r a n d b c).1 = frame s := by
  unfold State.presentRead; dsimp only; (repeat' split) <;> simp

theorem frame_completeIdle (s : State) (r : RingIndex) (ring : Ring) (i : Nat)
    (x : Byte) {t : State}
    (e : s.completeIdle r ring i x = some t) : frame t = frame s := by
  unfold State.completeIdle at e
  (repeat' split at e) <;> simp only [Option.some.injEq, reduceCtorEq] at e <;> subst e <;> simp

theorem frame_completeSlot (s : State) (r : RingIndex) (ring : Ring) (i : Nat) (x : Byte) (n : Nat)
    {t : State} (e : s.completeSlot r ring i x n = some t) : frame t = frame s := by
  unfold State.completeSlot at e
  (repeat' split at e)
  case _ => cases e
  case _ => cases e; simp
  case _ => exact frame_completeIdle _ _ _ _ _ e
  case _ => cases e; simp
  case _ => exact frame_completeIdle _ _ _ _ _ e

@[simp] theorem frame_completeAll (r : RingIndex) (a : Area) (cs : List (Nat × Byte × Nat))
    (s : State)
    (b : Bool) : frame (s.completeAll r a b cs).1 = frame s := by
  induction cs generalizing s b with
  | nil => rfl
  | cons c cs ih =>
    obtain ⟨i, x, n⟩ := c
    unfold State.completeAll
    split
    · rename_i t e
      obtain ⟨ring, -, e⟩ := Option.bind_eq_some_iff.mp e
      rw [ih, frame_completeSlot _ _ _ _ _ _ e]
    · exact ih s true

@[simp] theorem frame_completeWrite (s : State) (r : RingIndex) (a : Area) (n : Nat) (b : List
    (Option Byte)) :
    frame (s.completeWrite r a n b) = frame s := by
  unfold State.completeWrite; dsimp only; (repeat' split) <;> simp

@[simp] theorem frame_loseAtLimit (s : State) (l : LinkSlot) :
    frame (s.loseAtLimit l) = frame s := by
  unfold State.loseAtLimit; simp

@[simp] theorem frame_forceOut (s : State) (l : LinkSlot) : frame (s.forceOut l) = frame s := by
  unfold State.forceOut; dsimp only; (repeat' split) <;> simp

@[simp] theorem frame_forceJobs (s : State) (l : LinkSlot) : frame (s.forceJobs l) = frame s := by
  unfold State.forceJobs
  split
  · rfl
  · split
    · rfl
    · exact frame_foldl _ (fun s i => by split <;> simp) _ _

/-! ### Ports (R40 to R44) -/

@[simp] theorem frame_issue (s : State) (b : Bool) (a : Access) :
    frame (s.issue b a) = frame s := by
  unfold State.issue; dsimp only; simp

@[simp] theorem frame_passPortion (s : State) (x y : Bool) (i : Nat) (p : Portion) :
    frame (s.passPortion x y i p).1 = frame s := by
  unfold State.passPortion; dsimp only; (repeat' split) <;> simp

@[simp] theorem frame_advanceP (s : State) (x : Bool) (i : Nat) (p : Portion) :
    frame (s.advanceP x i p).1 = frame s := by
  unfold State.advanceP; dsimp only; (repeat' split) <;> simp

@[simp] theorem frame_advanceReadL (s : State) (i n : Nat) (p : Portion) :
    frame (s.advanceReadL i n p).1 = frame s := by
  unfold State.advanceReadL; (repeat' split) <;> simp

@[simp] theorem frame_advanceWriteL (s : State) (i : Nat) (p : Portion) :
    frame (s.advanceWriteL i p).1 = frame s := by
  unfold State.advanceWriteL; (repeat' split) <;> simp

@[simp] theorem frame_advance (s : State) (x y z w : Bool) (i n : Nat) (p : Portion) :
    frame (s.advance x y z w i n p).1 = frame s := by
  unfold State.advance; (repeat' split) <;> simp

@[simp] theorem frame_advanceAll (x y : Bool) (n : Nat) (ps : List Portion) (s : State) (i o : Nat)
    (z w : Bool) : frame (s.advanceAll x y n i o z w ps).1 = frame s := by
  induction ps generalizing s i o z w with
  | nil => rfl
  | cons p ps ih => unfold State.advanceAll; dsimp only; rw [ih]; simp

@[simp] theorem frame_advanceTransaction (s : State) (b : Bool) (t : Transaction) :
    frame (s.advanceTransaction b t).1 = frame s := by
  unfold State.advanceTransaction; simp

@[simp] theorem frame_handle (s : State) (b : Bool) : frame (s.handle b) = frame s := by
  unfold State.handle; dsimp only; (repeat' split) <;> simp

@[simp] theorem frame_runPort (b : Bool) (n : Nat) (s : State) :
    frame (State.runPort b n s) = frame s := by
  induction n generalizing s with
  | zero => rfl
  | succ n ih =>
    unfold State.runPort; dsimp only; (repeat' split) <;> simp [ih]

@[simp] theorem frame_run (s : State) (b : Bool) : frame (s.run b) = frame s := by
  unfold State.run; simp

@[simp] theorem frame_serve (s : State) (b : Bool) (i : Nat) (f : Portion → Portion) :
    frame (s.serve b i f) = frame s := by
  unfold State.serve; dsimp only; (repeat' split) <;> simp

end Sys2Proof.Proofs.Frames
end


section
/-! PROOFS. One key of each standing for each link (R105): how the key unit's operations fill and empty the slots
of the key table, and that every step keeps the standings apart; with it the layout of the regions and the
monitor's parameters. -/

namespace Sys2Proof.Proofs.KeyStandings
open Sys2Proof Sys2Proof.Machine
open Sys2Proof.Proofs.EngineSteps Sys2Proof.Proofs.StillRecords Sys2Proof.Proofs.Frames

/-! ### Standings -/

/-- What a link has at most one key of (R105). -/
inductive Standing where
  | pending | inForce | draining
  deriving DecidableEq

/-- The standing of a key state; an EMPTY slot has none. -/
def standingOf : KeyState → Option Standing
  | .empty => none
  | .pending => some .pending
  | .active | .overdue => some .inForce
  | .draining => some .draining

/-- The link and the standing that a key slot takes up. -/
def place (x : KeySlot) : Option (LinkSlot × Standing) := (standingOf x.state).map (x.link, ·)

theorem place_eq_some {x : KeySlot} {l : LinkSlot} {st : Standing} :
    place x = some (l, st) ↔ x.link = l ∧ standingOf x.state = some st := by
  cases h : standingOf x.state <;> simp [place, h]

theorem standingOf_pending {k : KeyState} : standingOf k = some .pending ↔ k = .pending := by
  cases k <;> simp [standingOf]

theorem standingOf_inForce {k : KeyState} : standingOf k = some .inForce ↔ k.isCurrent = true := by
  cases k <;> simp [standingOf, KeyState.isCurrent]

theorem standingOf_draining {k : KeyState} : standingOf k = some .draining ↔ k = .draining := by
  cases k <;> simp [standingOf]

theorem place_empty : place KeySlot.empty = none := rfl

/-- No two slots take up one place. -/
def OneEach (v : Vector KeySlot 24) : Prop :=
  ∀ (j k : KeyIndex) (p : LinkSlot × Standing), place v[j] = some p → place v[k] = some p → j = k

theorem mem_allKeySlots (k : KeyIndex) : k ∈ allKeySlots := by revert k; decide

/-- The model's test of two slots is that they take up no common place. -/
theorem apart_iff (x y : KeySlot) :
    (x.state == .empty || y.state == .empty || x.link != y.link ||
      (x.state != y.state && !(x.state.isCurrent && y.state.isCurrent))) = true ↔
    ∀ p, place x = some p → place y ≠ some p := by
  have key : ∀ a b : KeyState, (a == .empty || b == .empty || x.link != y.link ||
      (a != b && !(a.isCurrent && b.isCurrent))) = true ↔
      (x.link = y.link → ∀ st, standingOf a = some st → standingOf b ≠ some st) := by
    intro a b
    by_cases e : x.link = y.link <;>
      cases a <;> cases b <;> simp [e, standingOf, KeyState.isCurrent]
  rw [key]
  constructor
  · rintro h ⟨l, st⟩ hx hy
    rw [place_eq_some] at hx hy
    exact h (hx.1.trans hy.1.symm) st hx.2 hy.2
  · intro h e st hx hy
    exact h (x.link, st) (place_eq_some.mpr ⟨rfl, hx⟩) (place_eq_some.mpr ⟨e.symm, hy⟩)

theorem oneKeyPerStanding_iff (s : State) :
    s.oneKeyPerStanding = true ↔ OneEach s.keys.table := by
  have pair : s.oneKeyPerStanding = true ↔ ∀ j k : KeyIndex, j = k ∨
      ((s.key j).state == .empty || (s.key k).state == .empty || (s.key j).link != (s.key k).link ||
        ((s.key j).state != (s.key k).state &&
          !((s.key j).state.isCurrent && (s.key k).state.isCurrent))) = true := by
    simp only [State.oneKeyPerStanding, List.all_eq_true, mem_allKeySlots, true_implies,
      Bool.or_eq_true, beq_iff_eq, or_assoc]
  rw [pair]
  constructor
  · intro h j k p hj hk
    rcases h j k with e | apart
    · exact e
    · exact absurd hk ((apart_iff _ _).mp apart p hj)
  · intro h j k
    by_cases e : j = k
    · exact .inl e
    · exact .inr ((apart_iff _ _).mpr fun p hj hk => e (h j k p hj hk))

/-! ### Writing slots -/

theorem getElem_set_key (v : Vector KeySlot 24) (k j : KeyIndex) (x : KeySlot) :
    (v.set k x)[j] = if k = j then x else v[j] := by
  simp [Vector.getElem_set, Fin.ext_iff]

/-- A slot may be filled when no other slot takes up the place. -/
theorem oneEach_set {v : Vector KeySlot 24} {k : KeyIndex} {x : KeySlot} (h : OneEach v)
    (free : ∀ j p, j ≠ k → place x = some p → place v[j] ≠ some p) : OneEach (v.set k x) := by
  intro i j p hi hj
  rw [getElem_set_key] at hi hj
  split at hi
  · rename_i ei
    split at hj
    · rename_i ej
      exact ei.symm.trans ej
    · rename_i ej
      exact absurd hj (free j p (Ne.symm ej) hi)
  · rename_i ei
    split at hj
    · exact absurd hi (free i p (Ne.symm ei) hj)
    · exact h i j p hi hj

/-- A slot that keeps its place, or gives it up. -/
theorem oneEach_set_same {v : Vector KeySlot 24} {k : KeyIndex} {x : KeySlot} (h : OneEach v)
    (same : place x = place v[k] ∨ place x = none) : OneEach (v.set k x) := by
  refine oneEach_set h fun j p other taken held => ?_
  rcases same with e | e
  · exact other (h j k p held (e ▸ taken))
  · rw [e] at taken
    cases taken

theorem oneEach_mapTable {v : Vector KeySlot 24} {f : KeySlot → KeySlot} (h : OneEach v)
    (same : ∀ x, place (f x) = place x ∨ place (f x) = none) : OneEach (mapTable v f) := by
  have back : ∀ (j : KeyIndex) p, place (mapTable v f)[j] = some p → place v[j] = some p := by
    intro j p taken
    rw [mapTable_get] at taken
    rcases same v[j] with e | e
    · exact e ▸ taken
    · rw [e] at taken
      cases taken
  exact fun i j p hi hj => h i j p (back i p hi) (back j p hj)

/-! ### What an operation keeps -/

/-- From `s` to `t` the layout stays, a waiting SET_REPORT_RING goes on waiting or is over, and the standings stay
apart. -/
def Keeps (s t : State) : Prop :=
  ∃ table waiting, frame t = { frame s with table, waiting } ∧
    (waiting = (frame s).waiting ∨ waiting = none) ∧
    (OneEach s.keys.table → OneEach table)

theorem keeps_of_frame {s t : State} (h : frame t = frame s) : Keeps s t :=
  ⟨(frame s).table, (frame s).waiting, h, .inl rfl, fun one => one⟩

theorem keeps_refl (s : State) : Keeps s s := keeps_of_frame rfl

theorem Keeps.table {s t : State} (h : Keeps s t) (one : OneEach s.keys.table) :
    OneEach t.keys.table := by
  obtain ⟨table, waiting, e, -, kept⟩ := h
  rw [show t.keys.table = table from congrArg Frame.table e]
  exact kept one

theorem Keeps.layout {s t : State} (h : Keeps s t) : (frame t).layout = (frame s).layout := by
  obtain ⟨table, waiting, e, -⟩ := h
  rw [e]

theorem Keeps.waiting {s t : State} (h : Keeps s t) :
    (frame t).waiting = (frame s).waiting ∨ (frame t).waiting = none := by
  obtain ⟨table, waiting, e, kept, -⟩ := h
  rwa [show (frame t).waiting = waiting from congrArg Frame.waiting e]

theorem Keeps.trans {s t u : State} (h : Keeps s t) (h' : Keeps t u) : Keeps s u := by
  obtain ⟨table, waiting, e, drop, kept⟩ := h
  obtain ⟨table', waiting', e', drop', kept'⟩ := h'
  have middle : t.keys.table = table := congrArg Frame.table e
  refine ⟨table', waiting', ?_, ?_, fun one => kept' (middle ▸ kept one)⟩
  · rw [e', e]
  · rw [e] at drop'
    rcases drop' with rfl | rfl
    · exact drop
    · exact .inr rfl

/-- An operation with the same frame before it or after it. -/
theorem Keeps.frame_right {s t u : State} (h : Keeps s t) (e : frame u = frame t) : Keeps s u :=
  h.trans (keeps_of_frame e)

theorem keeps_foldl {α : Type} (f : State → α → State) (h : ∀ s a, Keeps s (f s a)) (xs : List α)
    (s : State) : Keeps s (xs.foldl f s) := by
  induction xs generalizing s with
  | nil => exact keeps_refl s
  | cons x xs ih => exact (h s x).trans (ih _)

theorem keeps_answer (s : State) (r : List Byte) (c : ResultCode) (b : List (Nat × List Byte)) :
    Keeps s (s.answer r c b) :=
  ⟨(frame s).table, none, frame_answer s r c b, .inr rfl, fun one => one⟩

/-- A table written instead of the old one. -/
theorem keeps_of_table {s t : State} {table : Vector KeySlot 24}
    (e : frame t = { frame s with table }) (kept : OneEach s.keys.table → OneEach table) :
    Keeps s t := ⟨table, (frame s).waiting, e, .inl rfl, kept⟩

theorem frame_setKey (s : State) (k : KeyIndex) (x : KeySlot) :
    frame (s.setKey k x) = { frame s with table := s.keys.table.set k x } := rfl

theorem keeps_setKey {s : State} {k : KeyIndex} {x : KeySlot}
    (same : place x = place (s.key k) ∨ place x = none) : Keeps s (s.setKey k x) :=
  keeps_of_table (frame_setKey s k x) fun one => oneEach_set_same one same

theorem keeps_mapKeys {s : State} {f : KeySlot → KeySlot}
    (same : ∀ x, place (f x) = place x ∨ place (f x) = none) : Keeps s (s.mapKeys f) :=
  keeps_of_table (table := mapTable s.keys.table f) rfl fun one => oneEach_mapTable one same

theorem key_of_frame {s t : State} (h : frame t = frame s) (j : KeyIndex) : t.key j = s.key j := by
  have e : t.keys.table = s.keys.table := congrArg Frame.table h
  simp only [State.key, e]

/-! ### Finding keys -/

theorem findKey_some {s : State} {l : LinkSlot} {p : KeyState → Bool} {st : Standing} {k : KeyIndex}
    (hp : ∀ x, x ≠ .empty → (p x = true ↔ standingOf x = some st))
    (h : s.findKey l p = some k) : place (s.key k) = some (l, st) := by
  have found := List.find?_some h
  simp only [Bool.and_eq_true, bne_iff_ne, ne_eq, beq_iff_eq] at found
  obtain ⟨⟨nonempty, link⟩, test⟩ := found
  exact place_eq_some.mpr ⟨link, (hp _ nonempty).mp test⟩

theorem findKey_none {s : State} {l : LinkSlot} {p : KeyState → Bool} {st : Standing}
    (hp : ∀ x, x ≠ .empty → (p x = true ↔ standingOf x = some st))
    (h : s.findKey l p = none) (k : KeyIndex) : place (s.key k) ≠ some (l, st) := by
  intro taken
  obtain ⟨link, standing⟩ := place_eq_some.mp taken
  have nonempty : (s.key k).state ≠ .empty := by
    intro e
    rw [e] at standing
    cases standing
  refine List.find?_eq_none.mp h k (mem_allKeySlots k) ?_
  simp only [Bool.and_eq_true, bne_iff_ne, ne_eq, beq_iff_eq]
  exact ⟨⟨nonempty, link⟩, (hp _ nonempty).mpr standing⟩

section
variable {s : State} {l : LinkSlot} {k : KeyIndex}

theorem pending_test (x : KeyState) (_ : x ≠ .empty) :
    (x == .pending) = true ↔ standingOf x = some .pending := by
  rw [standingOf_pending, beq_iff_eq]

theorem draining_test (x : KeyState) (_ : x ≠ .empty) :
    (x == .draining) = true ↔ standingOf x = some .draining := by
  rw [standingOf_draining, beq_iff_eq]

theorem inForce_test (x : KeyState) (_ : x ≠ .empty) :
    x.isCurrent = true ↔ standingOf x = some .inForce := standingOf_inForce.symm

theorem place_pendingKey (h : s.pendingKey l = some k) : place (s.key k) = some (l, .pending) :=
  findKey_some pending_test h
theorem place_currentKey (h : s.currentKey l = some k) : place (s.key k) = some (l, .inForce) :=
  findKey_some inForce_test h
theorem place_drainingKey (h : s.drainingKey l = some k) : place (s.key k) = some (l, .draining) :=
  findKey_some draining_test h
theorem no_pendingKey (h : s.pendingKey l = none) (j : KeyIndex) :
    place (s.key j) ≠ some (l, .pending) := findKey_none pending_test h j
theorem no_currentKey (h : s.currentKey l = none) (j : KeyIndex) :
    place (s.key j) ≠ some (l, .inForce) := findKey_none inForce_test h j
theorem no_drainingKey (h : s.drainingKey l = none) (j : KeyIndex) :
    place (s.key j) ≠ some (l, .draining) := findKey_none draining_test h j

end

/-! ### Retirement and activation (R105, R106, R113) -/

theorem frame_retireSlot (s : State) (k : KeyIndex) (d : ReportDetail) :
    frame (s.retireSlot k d) = { frame s with table := s.keys.table.set k KeySlot.empty } := by
  unfold State.retireSlot
  simp [frame_setKey]

theorem keeps_retireSlot (s : State) (k : KeyIndex) (d : ReportDetail) :
    Keeps s (s.retireSlot k d) :=
  keeps_of_table (frame_retireSlot s k d) fun one => oneEach_set_same one (.inr place_empty)

theorem retireSlot_key (s : State) (k j : KeyIndex) (d : ReportDetail) :
    (s.retireSlot k d).key j = if k = j then KeySlot.empty else s.key j := by
  have e : (s.retireSlot k d).keys.table = s.keys.table.set k KeySlot.empty :=
    congrArg Frame.table (frame_retireSlot s k d)
  simp only [State.key, e]
  exact getElem_set_key _ _ _ _

/-- From `s` to `t` nothing but the key table changes. -/
def Retables (s t : State) : Prop := ∃ table, frame t = { frame s with table }

theorem Retables.trans {s t u : State} (h : Retables s t) (h' : Retables t u) : Retables s u := by
  obtain ⟨table, e⟩ := h
  obtain ⟨table', e'⟩ := h'
  exact ⟨table', by rw [e', e]⟩

theorem retables_of_frame {s t : State} (h : frame t = frame s) : Retables s t :=
  ⟨(frame s).table, h⟩

theorem Retables.keeps {s t : State} (h : Retables s t)
    (kept : OneEach s.keys.table → OneEach t.keys.table) : Keeps s t := by
  obtain ⟨table, e⟩ := h
  have new : t.keys.table = table := congrArg Frame.table e
  exact keeps_of_table e (new ▸ kept)

theorem retables_cutDraining (s : State) (l : LinkSlot) : Retables s (s.cutDraining l) := by
  unfold State.cutDraining
  split
  · exact retables_of_frame rfl
  · exact ⟨_, frame_retireSlot ..⟩

theorem retables_supersede (s : State) (l : LinkSlot) (overlap : Nat) :
    Retables s (s.supersede l overlap) := by
  unfold State.supersede
  split
  · exact retables_of_frame rfl
  · split
    · exact ⟨_, frame_retireSlot ..⟩
    · exact ⟨_, frame_setKey ..⟩

/-- From `s` to `t` the link's place `st` has been vacated, the standings are apart, and every slot that did not
take up the place is as it was. -/
def Vacates (l : LinkSlot) (st : Standing) (s t : State) : Prop :=
  OneEach t.keys.table ∧ (∀ j, place (t.key j) ≠ some (l, st)) ∧
    ∀ j, place (s.key j) ≠ some (l, st) → t.key j = s.key j

section
variable {s : State} {l : LinkSlot} {k : KeyIndex}

theorem vacates_retireSlot {st : Standing} (one : OneEach s.keys.table)
    (h : place (s.key k) = some (l, st)) (d : ReportDetail) :
    Vacates l st s (s.retireSlot k d) := by
  refine ⟨(keeps_retireSlot s k d).table one, fun j taken => ?_, fun j other => ?_⟩
  · rw [retireSlot_key] at taken
    split at taken
    · cases taken
    · rename_i ne
      exact ne (one k j _ h taken)
  · rw [retireSlot_key, if_neg]
    rintro rfl
    exact other h

theorem vacates_cutDraining (one : OneEach s.keys.table) :
    Vacates l .draining s (s.cutDraining l) := by
  unfold State.cutDraining
  split
  · rename_i e
    exact ⟨one, no_drainingKey e, fun _ _ => rfl⟩
  · rename_i e
    exact vacates_retireSlot one (place_drainingKey e) _

/-- With no key draining, the key in force may begin to. -/
theorem vacates_supersede (one : OneEach s.keys.table)
    (free : ∀ j, place (s.key j) ≠ some (l, .draining)) (overlap : Nat) :
    Vacates l .inForce s (s.supersede l overlap) := by
  unfold State.supersede
  split
  · rename_i e
    exact ⟨one, no_currentKey e, fun _ _ => rfl⟩
  · rename_i k e
    have taken := place_currentKey e
    split
    · exact vacates_retireSlot one taken _
    · have drains : place { s.key k with state := .draining, drain := some overlap } =
          some (l, .draining) :=
        place_eq_some.mpr ⟨(place_eq_some.mp taken).1, rfl⟩
      refine ⟨oneEach_set one fun j p _ filled held => ?_, fun j held => ?_, fun j other => ?_⟩
      · rw [drains] at filled
        exact free j (held.trans filled.symm)
      · by_cases ej : k = j
        · subst ej
          rw [State.setKey_key_self, drains] at held
          cases held
        · rw [State.setKey_key_ne _ _ ej] at held
          exact ej (one k j _ taken held)
      · refine State.setKey_key_ne _ _ ?_
        rintro rfl
        exact other taken

/-- An activation vacates DRAINING, then the place in force, and then takes it. -/
theorem keeps_activate (h : place (s.key k) = some (l, .pending)) (cause : ActivationCause) :
    Keeps s (s.activate l k cause) := by
  have last : ∀ (u : State) (x : KeySlot) (d : ReportDetail),
      frame (((u.setKey k x).linkActivated l).post .keyUnit (some l) d) =
        frame (u.setKey k x) := fun u x d => by simp
  have cut := retables_cutDraining s l
  have superseded := retables_supersede (s.cutDraining l) l (s.key k).overlap
  refine Retables.keeps ?_ fun one => ?_
  · unfold State.activate
    dsimp only
    exact (cut.trans superseded).trans ⟨_, (last ..).trans (frame_setKey ..)⟩
  · obtain ⟨one1, vacant1, rest1⟩ := vacates_cutDraining (l := l) one
    obtain ⟨one2, vacant2, rest2⟩ := vacates_supersede one1 vacant1 (s.key k).overlap
    have filled : place { s.key k with state := .active, age := some 0 } = some (l, .inForce) :=
      place_eq_some.mpr ⟨(place_eq_some.mp h).1, rfl⟩
    have activated := oneEach_set (k := k) (x := { s.key k with state := .active, age := some 0 })
      one2 fun j p _ new held => vacant2 j (held.trans (new.symm.trans filled))
    have table : (s.activate l k cause).keys.table = _ :=
      congrArg Frame.table ((last ..).trans (frame_setKey ..))
    exact table ▸ activated

end

/-- A retirement: the slot is emptied, and the PENDING key takes the place that is then free (R106). -/
theorem keeps_retire (s : State) (k : KeyIndex) (cause : RetireCause) :
    Keeps s (s.retire k cause) := by
  have retired := keeps_retireSlot s k (.keyRetired (s.key k).epoch (s.key k).state cause)
  unfold State.retire
  dsimp only
  split
  · split
    · rename_i e
      exact retired.trans (keeps_activate (place_pendingKey e) _)
    · exact retired.frame_right (frame_linkKeyLost ..)
  · exact retired

/-! ### The tests of a boundary (R117 to R121) -/

theorem place_pass (x : KeySlot) : place x.pass = place x := by
  unfold KeySlot.pass
  split <;> rfl

theorem keeps_passBoundary (s : State) (l : LinkSlot) : Keeps s (s.passBoundary l) := by
  refine keeps_mapKeys fun x => .inl ?_
  split
  · exact place_pass x
  · rfl

theorem keeps_drainEndTest (s : State) (l : LinkSlot) : Keeps s (s.drainEndTest l) := by
  unfold State.drainEndTest
  split
  · exact keeps_refl s
  · split
    · exact keeps_retire ..
    · exact keeps_refl s

theorem keeps_timedActivationTest (s : State) (l : LinkSlot) :
    Keeps s (s.timedActivationTest l) := by
  unfold State.timedActivationTest
  split
  · exact keeps_refl s
  · rename_i e
    split
    · exact keeps_refl s
    · split
      · exact keeps_activate (place_pendingKey e) _
      · exact keeps_refl s

theorem keeps_overdueTest (s : State) (l : LinkSlot) : Keeps s (s.overdueTest l) := by
  unfold State.overdueTest
  split
  · exact keeps_refl s
  · split
    · rename_i due
      refine (keeps_setKey (.inl ?_)).frame_right (frame_post ..)
      simp [place, standingOf, due.1]
    · exact keeps_refl s

theorem keeps_expiryTest (s : State) (l : LinkSlot) : Keeps s (s.expiryTest l) := by
  unfold State.expiryTest
  split
  · exact keeps_refl s
  · split
    · exact keeps_retire ..
    · exact keeps_refl s

theorem keeps_reportDue (s : State) (l : LinkSlot) (k : KeyIndex) (b : Bool) :
    Keeps s (s.reportDue l k b) := by
  have set : Keeps s (s.setKey k { s.key k with dueReported := true }) := keeps_setKey (.inl rfl)
  exact set.frame_right (frame_post ..)

theorem keeps_dueTest (s : State) (l : LinkSlot) : Keeps s (s.dueTest l) := by
  unfold State.dueTest
  split
  · exact keeps_refl s
  · dsimp only
    (repeat' split)
    · exact keeps_refl s
    · exact (keeps_reportDue ..).frame_right (frame_useFree _)
    · exact keeps_reportDue ..
    · exact keeps_reportDue ..
    · exact keeps_refl s

theorem keeps_keyBoundary (s : State) (l : LinkSlot) : Keeps s (s.keyBoundary l) :=
  (((((keeps_passBoundary s l).trans (keeps_drainEndTest _ l)).trans
    (keeps_timedActivationTest _ l)).trans (keeps_overdueTest _ l)).trans
    (keeps_expiryTest _ l)).trans (keeps_dueTest _ l)

theorem keeps_sequenceDueTest (s : State) (l : LinkSlot) (k : KeyIndex) :
    Keeps s (s.sequenceDueTest l k) := by
  unfold State.sequenceDueTest
  split
  · exact keeps_reportDue ..
  · exact keeps_refl s

theorem keeps_sequenceLimitTest (s : State) (k : KeyIndex) (q : Seq) :
    Keeps s (s.sequenceLimitTest k q) := by
  unfold State.sequenceLimitTest
  split
  · exact keeps_retire ..
  · exact keeps_refl s

theorem keeps_settleKey (s : State) (k : KeyIndex) (l : LinkSlot) (e : Half) (n : BitVec 64)
    (q : Seq) : Keeps s (s.settleKey k l e n q).1 := by
  unfold State.settleKey
  split
  · rename_i holds
    refine Keeps.trans ?_ (keeps_setKey (.inl rfl))
    split
    · rename_i pending
      simp only [State.holds, Bool.and_eq_true, beq_iff_eq] at holds
      exact keeps_activate
        (place_eq_some.mpr ⟨holds.1.1.2, standingOf_pending.mpr pending⟩) _
    · exact keeps_refl s
  · exact keeps_refl s

/-! ### Installation (R105, R110) -/

theorem place_filling (j : Job) (candidate : List Byte) (n : BitVec 64) :
    place (j.filling candidate n) = some (j.link, .pending) := rfl

section
variable {s : State} {j : Job} {k : KeyIndex}

/-- A slot is filled with a PENDING key where no other slot of the link holds one. -/
theorem keeps_fillKey
    (free : OneEach s.keys.table → ∀ i, i ≠ k → place (s.key i) ≠ some (j.link, .pending))
    (candidate : List Byte) (report : KeySlot → ReportDetail) :
    Keeps s (s.fillKey j candidate k report) ∧
      place ((s.fillKey j candidate k report).key k) = some (j.link, .pending) := by
  have same : s.nextInstallation.keys.table = s.keys.table :=
    congrArg Frame.table (frame_nextInstallation s)
  unfold State.fillKey
  dsimp only
  refine ⟨Keeps.frame_right ?_ (frame_post ..), ?_⟩
  · refine (keeps_of_frame (frame_nextInstallation s)).trans
      (keeps_of_table (frame_setKey ..) fun one => oneEach_set one fun i p other new held => ?_)
    rw [place_filling] at new
    rw [same] at one held
    exact free one i other (held.trans new.symm)
  · rw [State.post_key, State.setKey_key_self, place_filling]

theorem keeps_activateImmediate (h : place (s.key k) = some (j.link, .pending)) :
    Keeps s (s.activateImmediate j k) := by
  unfold State.activateImmediate
  split
  · exact keeps_activate h _
  · exact keeps_refl s

theorem keeps_replaceKey
    (free : OneEach s.keys.table → ∀ i, i ≠ k → place (s.key i) ≠ some (j.link, .pending))
    (candidate : List Byte) : Keeps s (s.replaceKey j candidate k) := by
  unfold State.replaceKey
  dsimp only
  obtain ⟨filled, pending⟩ := keeps_fillKey free candidate (fun x => .keyReplaced x.epoch x.check)
  refine (filled.frame_right (frame_noticeIn ..)).trans (keeps_activateImmediate ?_)
  rw [key_of_frame (frame_noticeIn ..)]
  exact pending

theorem keeps_installKey
    (free : OneEach s.keys.table → ∀ i, i ≠ k → place (s.key i) ≠ some (j.link, .pending))
    (candidate : List Byte) : Keeps s (s.installKey j candidate k) := by
  obtain ⟨filled, pending⟩ :=
    keeps_fillKey free candidate (fun x => .keyInstalled x.epoch x.check x.activation)
  exact filled.trans (keeps_activateImmediate pending)

end

/-- The final step fills the slot of the link's PENDING key, or an EMPTY slot when the link has none. -/
theorem keeps_finalStep (s : State) (j : Job) (candidate : List Byte) :
    Keeps s (s.finalStep j candidate) := by
  unfold State.finalStep
  split
  · exact keeps_of_frame (frame_finishJob ..)
  · split
    · rename_i k e
      split
      · exact keeps_of_frame (frame_finishJob ..)
      · refine (keeps_replaceKey (fun one i other held => ?_) candidate).frame_right
          (frame_finishJob ..)
        exact other (one i k _ held (place_pendingKey e))
    · rename_i e
      split
      · exact (keeps_installKey (fun _ i _ => no_pendingKey e i) candidate).frame_right
          (frame_finishJob ..)
      · exact keeps_of_frame (frame_finishJob ..)

theorem keeps_checkReturned (s : State) (i : Nat) (o : List Byte) : Keeps s (s.checkReturned i o) := by
  unfold State.checkReturned
  split
  · exact keeps_refl s
  · split
    · exact keeps_finalStep ..
    · exact keeps_of_frame (frame_finishJob ..)

/-! ### The transition to CLOSED and the endings (R25, R41) -/

theorem keeps_emptyKeysOf (s : State) (l : LinkSlot) : Keeps s (s.emptyKeysOf l) := by
  refine keeps_mapKeys fun x => ?_
  split
  · exact .inr place_empty
  · exact .inl rfl

theorem keeps_closeLink (s : State) (l : LinkSlot) : Keeps s (s.closeLink l) := by
  refine (keeps_emptyKeysOf s l).frame_right ?_
  unfold State.closeLink
  dsimp only
  simp only [frame_answerClose, frame_post, frame_dropNotices, frame_clearRing]
  exact frame_setLink _ _ _ rfl rfl rfl rfl rfl

theorem keeps_closeIfDrained (s : State) (l : LinkSlot) : Keeps s (s.closeIfDrained l) := by
  unfold State.closeIfDrained
  split
  · exact keeps_closeLink s l
  · exact keeps_refl s

theorem keeps_closeDrained (s : State) : Keeps s s.closeDrained :=
  keeps_foldl _ keeps_closeIfDrained _ s

theorem keeps_resume (s : State) : Keeps s s.resume :=
  (keeps_of_frame (frame_run s true)).trans (keeps_closeDrained _)

theorem Keeps.resume {s t : State} (h : Keeps s t) : Keeps s t.resume := h.trans (keeps_resume t)

theorem keeps_runBoth (s : State) : Keeps s s.runBoth :=
  (keeps_of_frame (by rw [frame_run, frame_run])).trans (keeps_closeDrained _)

theorem keeps_present (s : State) (onL : Bool) (q : BusRequest) : Keeps s (s.present onL q) :=
  (keeps_of_frame (by rw [frame_run, frame_setPort])).trans (keeps_closeDrained _)

end Sys2Proof.Proofs.KeyStandings
end


section
/-! PROOFS. What every step keeps of the layout and of the key table, and from it one key per standing (R105) and the
monitor's legal parameters (R165). -/

namespace Sys2Proof.Proofs.KeptByEveryStep
open Sys2Proof Sys2Proof.Machine
open Sys2Proof.Proofs.EngineSteps Sys2Proof.Proofs.StillRecords Sys2Proof.Proofs.Frames
open Sys2Proof.Proofs.KeyStandings

/-! ### Requests taken and commands carried out (R127, R179) -/

theorem frame_of_takeRequest {s t : State} {r : StoreRequest} (h : s.takeRequest = some (r, t)) :
    frame t = frame s := by
  unfold State.takeRequest at h
  split at h
  · cases h
  · cases h; rfl

theorem frame_of_takeKeyRequest {s t : State} {p : KeyRequest → Bool} {r : KeyRequest}
    (h : s.takeKeyRequest p = some (r, t)) : frame t = frame s := by
  obtain ⟨x, -, e⟩ := Option.map_eq_some_iff.mp h
  cases e; rfl

theorem frame_of_takeCompletion {s t : State} {x : Completion}
    (h : s.takeCompletion = some (x, t)) : frame t = frame s := by
  obtain ⟨rest, -, rfl⟩ := takeCompletion_eq_some h
  rfl

theorem keeps_carryOut {s : State} {c : Instr} {f : State → Answer} (h : Keeps s (f s).1) :
    Keeps s (s.carryOut c f) := by
  unfold State.carryOut
  split
  · exact keeps_refl s
  · exact h.trans (keeps_answer ..)

theorem keeps_carryOutAtStore {s : State} {c : Instr} {f : State → Answer}
    (h : ∀ u : State, frame (f u).1 = frame u) : Keeps s (s.carryOutAtStore c f) := by
  unfold State.carryOutAtStore
  split
  · rename_i u taken
    split
    · exact (keeps_of_frame (frame_of_takeRequest taken)).trans
        (keeps_carryOut (keeps_of_frame (h u)))
    · exact keeps_refl s
  · exact keeps_refl s

/-- The executing command goes to a phase in which no report ring waits to be set. -/
theorem keeps_executing (s : State) (q : List EntryIndex) {x : Option Executing}
    (h : waitingRing x = none) : Keeps s { s with command := ⟨q, x⟩ } :=
  ⟨(frame s).table, none, by simp [frame, h], .inr rfl, fun one => one⟩

/-! ### The commands of the ring (R19, R23, R24, R100, R122, R160) -/

theorem frame_configLink (s : State) (link : Byte) (wire maxPayload : Half) (period : Byte)
    (grace : Half) (binding : Byte) (mask : List Byte) :
    frame (s.configLink link wire maxPayload period grace binding mask).1 = frame s := by
  unfold State.configLink
  dsimp only
  (repeat' split) <;> simp [State.refuse, State.accept]

theorem frame_openLink (s : State) (link : Byte) : frame (s.openLink link).1 = frame s := by
  unfold State.openLink
  dsimp only
  (repeat' split) <;> simp [State.refuse, State.accept, Link.opened, Health.restart]

theorem keeps_startDrain (s : State) (l : LinkSlot) (r : List Byte) (stamp : Seq) :
    Keeps s (s.startDrain l r stamp) := by
  unfold State.startDrain
  dsimp only
  have closing : frame (s.setLink l { s.link l with state := .closing, drainStart := some stamp }) =
      frame s := frame_setLink _ _ _ rfl rfl rfl rfl rfl
  split
  · exact keeps_of_frame closing
  · exact (keeps_of_frame closing).trans (keeps_executing _ _ rfl)

theorem keeps_closeLinkCommand {s t : State} {link : Byte}
    (h : exec (.closeLink link) s = .next t) : Keeps s t := by
  cases h
  (repeat' split)
  case _ => exact keeps_refl s
  case _ => exact keeps_answer ..
  case _ => exact keeps_answer ..
  case _ => exact keeps_answer ..
  case _ => exact (keeps_startDrain ..).trans (keeps_closeDrained _)
  case _ => exact (keeps_startDrain ..).trans (keeps_closeDrained _)
  case _ => exact (keeps_startDrain ..).trans (keeps_closeDrained _)

theorem frame_resetFilter (s : State) (link : Byte) : frame (s.resetFilter link).1 = frame s := by
  unfold State.resetFilter
  split
  · rfl
  · exact frame_setLink _ _ _ rfl rfl rfl rfl rfl

theorem keeps_retireKey (s : State) (link keyState : Byte) :
    Keeps s (s.retireKey link keyState).1 := by
  unfold State.retireKey
  (repeat' split)
  case _ => exact keeps_refl s
  case _ => exact keeps_refl s
  case _ => exact keeps_refl s
  case _ => exact keeps_retire ..

theorem frame_releaseLink (s : State) (link : Byte) : frame (s.releaseLink link).1 = frame s := by
  unfold State.releaseLink
  dsimp only
  (repeat' split) <;> simp [State.refuse, State.accept]

theorem frame_placePhantom (s : State) (present : Byte) (base : Nat) :
    frame (s.placePhantom present base).1 = frame s := by
  unfold State.placePhantom
  (repeat' split) <;> rfl

theorem frame_loadPart1 (s : State) (part slot : Byte) (half : List Byte) (counter : Seq) :
    frame (s.loadPart1 part slot half counter).1 = frame s := by
  unfold State.loadPart1
  (repeat' split) <;> rfl

theorem frame_loadPart2 (s : State) (slot : Byte) (half : List Byte) (counter : Seq) :
    frame (s.loadPart2 slot half counter).1 = frame s := by
  unfold State.loadPart2
  (repeat' split) <;> rfl

theorem frame_eraseSlot (s : State) (slot : Byte) : frame (s.eraseSlot slot).1 = frame s := by
  unfold State.eraseSlot
  (repeat' split)
  · rfl
  · rfl
  · rename_i k _ _
    obtain ⟨e, kept⟩ := keepFetched_engine s k
    rw [kept]
    rfl

theorem frame_configureClock (s : State) (fRef : Nat) (k autoPeriod : Byte) :
    frame (s.configureClock fRef k autoPeriod).1 = frame s := by
  unfold State.configureClock
  split <;> rfl

theorem frame_measure (s : State) : frame s.measure.1 = frame s := by
  unfold State.measure
  split <;> rfl

/-! ### Port M and what it has performed (R46, R48) -/

@[simp] theorem frame_performAccess (s : State) (onL : Bool) (a : Access) :
    frame (s.performAccess onL a) = frame s := by
  unfold State.performAccess
  dsimp only
  split
  · rw [frame_serve]; rfl
  · rw [frame_serve]
    split
    · rw [frame_presentRead]
    · rfl

@[simp] theorem frame_grantPort (s : State) (onL : Bool) : frame (s.grantPort onL) = frame s := by
  unfold State.grantPort
  split <;> simp

@[simp] theorem frame_grantInternal (s : State) : frame s.grantInternal = frame s := by
  unfold State.grantInternal
  (repeat' split)
  · rfl
  · rfl
  · rw [frame_internal, frame_admitWaitingRead]; rfl
  · rfl
  · rw [frame_internal, frame_admitWaitingWrite]; rfl

theorem frame_grant (s : State) : frame s.grant = frame s := by
  unfold State.grant
  split
  · rfl
  · rw [frame_grantPort, frame_arbiter]
  · rw [frame_grantPort, frame_arbiter]
  · rw [frame_grantInternal, frame_arbiter]

theorem keeps_landed (s : State) (use : WriteUse) : Keeps s (s.landed use) := by
  cases use with
  | replacement ring slot => exact keeps_of_frame (frame_replacementLanded ..)
  | result => exact keeps_executing s _ rfl
  | record e =>
    show Keeps s (s.recordLanded e)
    unfold State.recordLanded State.finishReportRing
    dsimp only
    split
    · exact (keeps_of_frame (by rfl)).trans (keeps_answer ..)
    · exact keeps_of_frame rfl

theorem keeps_recordFetched (s : State) (entry : EntryIndex) (bytes : List Byte) :
    Keeps s (s.recordFetched entry bytes) := by
  unfold State.recordFetched
  dsimp only
  (repeat' split)
  · exact keeps_refl s
  · exact keeps_executing s _ rfl
  · exact keeps_answer ..
  · exact (keeps_executing s _ rfl).frame_right (frame_askStore ..)
  · exact keeps_executing s _ rfl
  · exact keeps_refl s

theorem keeps_readData (s : State) (use : ReadUse) (bytes : List Byte) :
    Keeps s (s.readData use bytes) := by
  cases use with
  | fetch entry => exact keeps_recordFetched ..
  | fill link ident => exact keeps_of_frame (frame_fillData ..)

/-! ### The cipher unit, the key unit and the store (R16, R58, R95, R129) -/

theorem keeps_deliver (s : State) (q : CipherRequest) (o : List Byte) : Keeps s (s.deliver q o) := by
  unfold State.deliver
  split
  · exact keeps_of_frame (frame_outBlock ..)
  · exact keeps_of_frame (frame_inBlock ..)
  · exact keeps_of_frame (frame_unwrapReturned ..)
  · exact keeps_checkReturned ..
  · exact keeps_refl s

@[simp] theorem frame_deliverGone (s : State) (q : CipherRequest) :
    frame (s.deliverGone q) = frame s := by
  unfold State.deliverGone
  (repeat' split) <;> simp

@[simp] theorem frame_transform (s : State) (q : CipherRequest) (key : List Byte) :
    frame (s.transform q key) = frame s := rfl

theorem frame_engineTakes (s : State) (q : CipherRequest) : frame (s.engineTakes q) = frame s := by
  unfold State.engineTakes
  (repeat' split) <;> simp

theorem frame_keyFetched (s : State) : frame s.keyFetched = frame s := by
  unfold State.keyFetched
  (repeat' split) <;> simp

theorem keeps_answerSequence (s : State) (l : LinkSlot) (ident : Nat) :
    Keeps s (s.answerSequence l ident) := by
  unfold State.answerSequence
  dsimp only
  split
  · refine (Keeps.trans ?_ (keeps_sequenceDueTest ..)).trans (keeps_sequenceLimitTest ..)
    split
    · exact keeps_setKey (.inl rfl)
    · refine Keeps.frame_right ?_ (frame_bindOut ..)
      exact keeps_setKey (.inl rfl)
  · split
    · exact keeps_refl s
    · exact keeps_of_frame (frame_releaseWithoutKey ..)

theorem keeps_answerSettle (s : State) (l : LinkSlot) (ident : Nat) (ref : KeyRef) (q : Seq) :
    Keeps s (s.answerSettle l ident ref q) := by
  unfold State.answerSettle
  split
  · exact keeps_refl s
  · exact (keeps_settleKey ..).frame_right (frame_confirmAnswered ..)

theorem frame_commitAnswered (s : State) (l : LinkSlot) (ident : Nat) (k : KekIndex)
    (q : Option Seq) : frame (s.commitAnswered l ident k q) = frame s := by
  unfold State.commitAnswered
  (repeat' split) <;> simp

theorem frame_transmitCommit (s : State) (l : LinkSlot) (ident : Nat) (k : KekIndex) :
    frame (s.transmitCommit l ident k) = frame s := by
  unfold State.transmitCommit
  dsimp only
  split <;> rw [frame_commitAnswered]
  exact frame_setKek ..

theorem frame_summarize (s : State) (l : LinkSlot) (ident : Nat) (slot : Option KekIndex) :
    frame (s.summarize l ident slot) = frame s := by
  unfold State.summarize
  dsimp only
  split <;> simp

theorem frame_receiveCommit (s : State) (l : LinkSlot) (ident : Nat) (k : KekIndex) (n : Nat)
    (q : Seq) : frame (s.receiveCommit l ident k n q) = frame s := by
  unfold State.receiveCommit
  (repeat' split) <;> simp

/-! ### The time base and the monitor (R26, R136, R153 to R164) -/

/-- A function of every link record that keeps its shape. -/
theorem frame_mapLinks (s : State) {f : Link → Link} (h : ∀ x, linkShape (f x) = linkShape x) :
    frame ({ s with links := mapTable s.links f } : State) = frame s := by
  simp only [frame, mapTable_mapTable, h]

@[simp] theorem frame_silenceTest (s : State) (l : LinkSlot) :
    frame (s.silenceTest l) = frame s := by
  unfold State.silenceTest State.enterSilence
  dsimp only
  split <;> simp

theorem linkShape_second (x : Link) : linkShape x.second = linkShape x := by
  unfold Link.second
  split <;> rfl

theorem linkShape_tick (x : Link) : linkShape x.tick = linkShape x := by
  unfold Link.tick
  split <;> rfl

theorem keeps_readBoundary (s : State) : Keeps s (readBoundary s) :=
  (keeps_foldl _ keeps_keyBoundary allLinks s).frame_right (by
    unfold readBoundary
    rw [frame_foldl _ frame_silenceTest, frame_mapLinks _ linkShape_second])

theorem keeps_boundary (s : State) : Keeps s s.boundary := by
  rw [boundary_eq]
  exact (keeps_readBoundary { s with time := s.time.boundary }).frame_right (frame_time ..)

@[simp] theorem frame_countTick (s : State) : frame s.countTick = frame s := by
  unfold State.countTick
  split <;> rfl

theorem frame_tick (s : State) : frame s.tick = frame s :=
  (frame_mapLinks { s.countTick with time := s.countTick.time.tick } linkShape_tick).trans
    (frame_countTick s)

theorem frame_stepTime (s : State) (seconds : Long) (fraction : Half) (byCommand : Bool) :
    frame (s.stepTime seconds fraction byCommand) = frame s := rfl

theorem frame_evaluateMeasurement (s : State) (m : Measurement) :
    frame (s.evaluateMeasurement m) = frame s := by
  unfold State.evaluateMeasurement
  dsimp only
  (repeat' split) <;> rfl

theorem frame_absorbBeacon (s : State) (payload : List Byte) :
    frame (s.absorbBeacon payload) = frame s := by
  unfold State.absorbBeacon
  dsimp only
  split <;> rfl

theorem frame_forceDrain (s : State) (l : LinkSlot) : frame (s.forceDrain l) = frame s := by
  unfold State.forceDrain
  simp

theorem frame_evaluateInterval (s : State) (l : LinkSlot) :
    frame (s.evaluateInterval l) = frame s := by
  have evaluated : frame (s.setHealth l (s.link l).health.evaluate) = frame s :=
    frame_setHealth _ _ _ rfl rfl rfl
  unfold State.evaluateInterval
  dsimp only
  (repeat' split) <;> exact evaluated

theorem frame_setErrored (s : State) (l : LinkSlot) : frame (s.setErrored l) = frame s :=
  frame_setHealth _ _ _ rfl rfl rfl

theorem frame_takeStatus (s : State) (n : StatusNotice) : frame (s.takeStatus n) = frame s := by
  unfold State.takeStatus State.enterSilence
  dsimp only
  (repeat' split) <;> simp [frame_setErrored]

theorem frame_takeNoBuffer (s : State) (l : LinkSlot) : frame (s.takeNoBuffer l) = frame s := by
  unfold State.takeNoBuffer
  split <;> simp [frame_setErrored]

theorem frame_takeArrival (s : State) (l : LinkSlot) : frame (s.takeArrival l) = frame s := by
  unfold State.takeArrival
  dsimp only
  (repeat' split) <;> simp

theorem frame_quarantine (s : State) (l : LinkSlot) (a : Nat) :
    frame (s.quarantine l a) = frame s := by
  unfold State.quarantine
  dsimp only
  split <;> simp

/-! ### Every step -/

/-- The commands that change the layout or let a report ring wait. -/
def changesLayout : Instr → Bool
  | .powerOn _ | .warmReset _ | .mainPowerLoss | .setGuard _ _ _ _ | .setRing _ _ _ _
  | .clearRing _ _ | .configMonitor _ _ _ _ _ _ _ _ | .setReportRing _ _ => true
  | _ => false

theorem keeps_of_next {s t u : State}
    (h : (.next u : Host.Outcome State Fault Refusal) = .next t) (hu : Keeps s u) : Keeps s t :=
  Host.Outcome.next.inj h ▸ hu

/-- The port steps keep what presenting a transaction keeps. -/
theorem keeps_of_presentRequestRead {s t : State} {onL : Bool} {start : Long} {beats : Nat}
    (h : s.presentRequestRead onL start beats = .next t) : Keeps s t := by
  unfold State.presentRequestRead at h
  split at h
  · exact nomatch h
  · split at h
    · exact nomatch h
    · exact keeps_of_next h (keeps_present ..)

theorem keeps_of_presentRequestWrite {s t : State} {onL : Bool} {start : Long}
    {bytes : List (Option Byte)} (h : s.presentRequestWrite onL start bytes = .next t) :
    Keeps s t := by
  unfold State.presentRequestWrite at h
  split at h
  · exact nomatch h
  · split at h
    · exact nomatch h
    · exact keeps_of_next h (keeps_present ..)

section
variable {s t : State}

theorem keeps_internalWriteLanded (h : exec .internalWriteLanded s = .next t) : Keeps s t := by
  refine keeps_of_next h ?_
  split
  · rename_i taken
    exact ((keeps_of_frame (frame_of_takeCompletion taken)).trans (keeps_landed ..)).resume
  · exact keeps_refl s

theorem keeps_internalReadData (h : exec .internalReadData s = .next t) : Keeps s t := by
  refine keeps_of_next h ?_
  split
  · rename_i taken
    exact ((keeps_of_frame (frame_of_takeCompletion taken)).trans (keeps_readData ..)).resume
  · exact keeps_refl s

theorem keeps_commandPosting (h : exec .commandPosting s = .next t) : Keeps s t := by
  refine keeps_of_next h ?_
  split
  · rename_i taken
    refine (keeps_of_frame (frame_of_takeCompletion taken)).trans (keeps_of_frame ?_)
    unfold State.commandObserved
    split <;> rfl
  · exact keeps_refl s

theorem keeps_commandFetch (h : exec .commandFetch s = .next t) : Keeps s t := by
  refine keeps_of_next h ?_
  split
  · exact (keeps_executing s s.command.queue rfl).frame_right (frame_queueRead ..)
  · exact keeps_refl s

theorem keeps_retireKeyCommand {link keyState : Byte}
    (h : exec (.retireKey link keyState) s = .next t) : Keeps s t := by
  refine keeps_of_next h ?_
  split
  · exact (keeps_carryOut (keeps_retireKey ..)).resume
  · exact keeps_refl s

theorem keeps_cipherTake (h : exec .cipherTake s = .next t) : Keeps s t := by
  refine keeps_of_next h ?_
  split
  · exact (keeps_of_frame ((frame_engineTakes ..).trans (frame_cipher ..))).resume
  · exact keeps_refl s

theorem keeps_cipherResult (h : exec .cipherResult s = .next t) : Keeps s t := by
  refine keeps_of_next h ?_
  split
  · exact ((keeps_of_frame (frame_setEngine ..)).trans (keeps_deliver ..)).resume
  · exact keeps_refl s
  · exact keeps_refl s

theorem keeps_keyFetch (h : exec .keyFetch s = .next t) : Keeps s t := by
  refine keeps_of_next h ?_
  split
  · rename_i taken
    exact (keeps_of_frame ((frame_keyFetched _).trans (frame_of_takeRequest taken))).resume
  · exact keeps_refl s

theorem keeps_sequenceRequest {l : LinkSlot} (h : exec (.sequenceRequest l) s = .next t) :
    Keeps s t := by
  refine keeps_of_next h ?_
  split
  · rename_i taken
    exact ((keeps_of_frame (frame_of_takeKeyRequest taken)).trans (keeps_answerSequence ..)).resume
  · exact keeps_refl s

theorem keeps_transmitCommit (h : exec .transmitCommit s = .next t) : Keeps s t := by
  refine keeps_of_next h ?_
  split
  · rename_i taken
    exact (keeps_of_frame ((frame_transmitCommit ..).trans (frame_of_takeRequest taken))).resume
  · exact keeps_refl s

theorem keeps_stateSummaryRequest (h : exec .stateSummaryRequest s = .next t) : Keeps s t := by
  refine keeps_of_next h ?_
  split
  · rename_i taken
    exact (keeps_of_frame ((frame_summarize ..).trans (frame_of_takeRequest taken))).resume
  · exact keeps_refl s

theorem keeps_keySelection {l : LinkSlot} (h : exec (.keySelection l) s = .next t) :
    Keeps s t := by
  refine keeps_of_next h ?_
  split
  · rename_i taken
    exact (keeps_of_frame
      ((frame_selectionAnswered ..).trans (frame_of_takeKeyRequest taken))).resume
  · exact keeps_refl s

theorem keeps_kekSelection (h : exec .kekSelection s = .next t) : Keeps s t := by
  refine keeps_of_next h ?_
  split
  · rename_i taken
    exact (keeps_of_frame
      ((frame_selectionAnswered ..).trans (frame_of_takeRequest taken))).resume
  · exact keeps_refl s

theorem keeps_settleRequest {l : LinkSlot} (h : exec (.settleRequest l) s = .next t) :
    Keeps s t := by
  refine keeps_of_next h ?_
  split
  · rename_i taken
    exact ((keeps_of_frame (frame_of_takeKeyRequest taken)).trans (keeps_answerSettle ..)).resume
  · exact keeps_refl s

theorem keeps_receiveCommit (h : exec .receiveCommit s = .next t) : Keeps s t := by
  refine keeps_of_next h ?_
  split
  · rename_i taken
    exact (keeps_of_frame ((frame_receiveCommit ..).trans (frame_of_takeRequest taken))).resume
  · exact keeps_refl s

theorem keeps_kekCheck (h : exec .kekCheck s = .next t) : Keeps s t := by
  refine keeps_of_next h ?_
  split
  · rename_i taken
    exact (keeps_of_frame ((frame_kekAnswered ..).trans (frame_of_takeRequest taken))).resume
  · exact keeps_refl s

theorem keeps_quarantineRequest {l : LinkSlot} (h : exec (.quarantineRequest l) s = .next t) :
    Keeps s t := by
  refine keeps_of_next h ?_
  split
  · exact keeps_refl s
  · exact keeps_of_frame ((frame_quarantine ..).trans (frame_mail ..))

theorem keeps_correctedSecondBoundary (h : exec .correctedSecondBoundary s = .next t) :
    Keeps s t := by
  refine keeps_of_next h ?_
  split
  · exact (keeps_boundary s).resume
  · exact keeps_refl s

theorem keeps_measurementWindowClose (h : exec .measurementWindowClose s = .next t) :
    Keeps s t := by
  refine keeps_of_next h ?_
  split
  · split
    · exact keeps_of_frame (frame_evaluateMeasurement ..)
    · exact keeps_refl s
  · exact keeps_refl s

theorem keeps_beaconAbsorb {l : LinkSlot} (h : exec (.beaconAbsorb l) s = .next t) :
    Keeps s t := by
  refine keeps_of_next h ?_
  split
  · exact keeps_refl s
  · exact keeps_of_frame ((frame_absorbBeacon ..).trans (frame_mail ..))

theorem keeps_drainLimitExpiry {l : LinkSlot} (h : exec (.drainLimitExpiry l) s = .next t) :
    Keeps s t := by
  refine keeps_of_next h ?_
  split
  · exact (keeps_of_frame (frame_forceDrain ..)).resume
  · exact keeps_refl s

theorem keeps_intervalEnd {l : LinkSlot} (h : exec (.intervalEnd l) s = .next t) : Keeps s t := by
  refine keeps_of_next h ?_
  split
  · exact keeps_of_frame (frame_evaluateInterval ..)
  · exact keeps_refl s

theorem keeps_finalStatus {l : LinkSlot} (h : exec (.finalStatus l) s = .next t) : Keeps s t := by
  refine keeps_of_next h ?_
  split
  · exact keeps_refl s
  · exact keeps_of_frame ((frame_takeStatus ..).trans (frame_mail ..))

theorem keeps_noBufferEvent {l : LinkSlot} (h : exec (.noBufferEvent l) s = .next t) :
    Keeps s t := by
  refine keeps_of_next h ?_
  split
  · exact keeps_refl s
  · exact keeps_of_frame ((frame_takeNoBuffer ..).trans (frame_mail ..))

theorem keeps_verifiedArrival {l : LinkSlot} (h : exec (.verifiedArrival l) s = .next t) :
    Keeps s t := by
  refine keeps_of_next h ?_
  split
  · exact keeps_refl s
  · exact keeps_of_frame ((frame_takeArrival ..).trans (frame_mail ..))

theorem keeps_reportPosting {source : ReportSource} (h : exec (.reportPosting source) s = .next t) :
    Keeps s t := by
  refine keeps_of_next h (keeps_of_frame ?_)
  (repeat' split) <;> rfl

theorem keeps_reportWriterTake (h : exec .reportWriterTake s = .next t) : Keeps s t := by
  refine keeps_of_next h (keeps_of_frame ?_)
  split
  · rfl
  · exact (frame_queueWrite ..).trans (frame_reports ..)

theorem keeps_reportClearObserved (h : exec .reportClearObserved s = .next t) : Keeps s t := by
  refine keeps_of_next h ?_
  split
  · rename_i taken
    refine (keeps_of_frame (frame_of_takeCompletion taken)).trans (keeps_of_frame ?_)
    unfold State.clearObserved
    split <;> rfl
  · exact keeps_refl s

theorem keeps_rawTick (h : exec .rawTick s = .next t) : Keeps s t := by
  refine keeps_of_next h (keeps_of_frame ?_)
  split
  · exact frame_tick s
  · rfl

/-- Every step but those of `changesLayout` keeps the layout, and keeps the standings apart. -/
theorem exec_keeps {c : Instr} (other : changesLayout c = false) (h : exec c s = .next t) :
    Keeps s t := by
  cases c
  case resetRelease =>
    exact keeps_of_next h ((keeps_of_frame (frame_lines ..)).trans (keeps_runBoth _))
  case retainFall => exact keeps_of_next h (keeps_of_frame (by split <;> rfl))
  case retainRise => exact keeps_of_next h (keeps_of_frame (by split <;> rfl))
  case portPRead => exact keeps_of_presentRequestRead h
  case portPWrite => exact keeps_of_presentRequestWrite h
  case portLRead => exact keeps_of_presentRequestRead h
  case portLWrite => exact keeps_of_presentRequestWrite h
  case portMGrant =>
    exact keeps_of_next h ((keeps_of_frame (frame_grant s)).trans (keeps_closeDrained _))
  case internalWriteLanded => exact keeps_internalWriteLanded h
  case internalReadData => exact keeps_internalReadData h
  case commandPosting => exact keeps_commandPosting h
  case commandFetch => exact keeps_commandFetch h
  case nop => exact keeps_of_next h (keeps_carryOut (keeps_refl s))
  case configLink => exact keeps_of_next h (keeps_carryOut (keeps_of_frame (frame_configLink ..)))
  case openLink => exact keeps_of_next h (keeps_carryOut (keeps_of_frame (frame_openLink ..)))
  case closeLink => exact keeps_closeLinkCommand h
  case queryLink link =>
    refine keeps_of_next h (keeps_carryOut (keeps_of_frame ?_))
    unfold State.queryLink
    split <;> rfl
  case setPhantom => exact keeps_of_next h (keeps_carryOut (keeps_of_frame (frame_placePhantom ..)))
  case resetFilter => exact keeps_of_next h (keeps_carryOut (keeps_of_frame (frame_resetFilter ..)))
  case retireKey => exact keeps_retireKeyCommand h
  case loadKekPart1 =>
    exact keeps_of_next h (keeps_carryOutAtStore fun u => frame_loadPart1 u ..)
  case loadKekPart2 =>
    exact keeps_of_next h (keeps_carryOutAtStore fun u => frame_loadPart2 u ..)
  case eraseKek => exact keeps_of_next h (keeps_carryOutAtStore fun u => frame_eraseSlot u _)
  case setTime => exact keeps_of_next h (keeps_carryOut (keeps_of_frame (frame_stepTime ..)))
  case setDrift => exact keeps_of_next h (keeps_carryOut (keeps_of_frame (frame_time ..)))
  case configClock =>
    exact keeps_of_next h (keeps_carryOut (keeps_of_frame (frame_configureClock ..)))
  case measureClock => exact keeps_of_next h (keeps_carryOut (keeps_of_frame (frame_measure s)))
  case releaseLink => exact keeps_of_next h (keeps_carryOut (keeps_of_frame (frame_releaseLink ..)))
  case cipherTake => exact keeps_cipherTake h
  case cipherResult => exact keeps_cipherResult h
  case keyFetch => exact keeps_keyFetch h
  case sequenceRequest => exact keeps_sequenceRequest h
  case transmitCommit => exact keeps_transmitCommit h
  case stateSummaryRequest => exact keeps_stateSummaryRequest h
  case keySelection => exact keeps_keySelection h
  case kekSelection => exact keeps_kekSelection h
  case settleRequest => exact keeps_settleRequest h
  case receiveCommit => exact keeps_receiveCommit h
  case kekCheck => exact keeps_kekCheck h
  case quarantineRequest => exact keeps_quarantineRequest h
  case correctedSecondBoundary => exact keeps_correctedSecondBoundary h
  case drainEnd => exact keeps_of_next h (keeps_drainEndTest ..).resume
  case keyOverdue => exact keeps_of_next h (keeps_overdueTest ..)
  case keyExpiry => exact keeps_of_next h (keeps_expiryTest ..).resume
  case silenceTimeout => exact keeps_of_next h (keeps_of_frame (frame_silenceTest ..))
  case autoMeasurementStart => exact keeps_of_next h (keeps_of_frame (frame_time ..))
  case measurementWindowClose => exact keeps_measurementWindowClose h
  case beaconAbsorb => exact keeps_beaconAbsorb h
  case drainLimitExpiry => exact keeps_drainLimitExpiry h
  case intervalEnd => exact keeps_intervalEnd h
  case finalStatus => exact keeps_finalStatus h
  case noBufferEvent => exact keeps_noBufferEvent h
  case verifiedArrival => exact keeps_verifiedArrival h
  case reportPosting => exact keeps_reportPosting h
  case reportWriterTake => exact keeps_reportWriterTake h
  case reportClearObserved => exact keeps_reportClearObserved h
  case rawTick => exact keeps_rawTick h
  case refclkRisingEdge => exact keeps_of_next h (keeps_of_frame (frame_time ..))
  case vstbyLoss => exact keeps_of_next h (keeps_of_frame rfl)
  all_goals cases other

end

end Sys2Proof.Proofs.KeptByEveryStep
end


section
/-! PROOFS. The steps that move the regions, the parameters of the monitor or the report ring, and with them the
invariants of every step: one key per standing (R105), legal parameters (R165), and regions apart (R42). -/

namespace Sys2Proof.Proofs.RegionsApart
open Sys2Proof Sys2Proof.Machine
open Sys2Proof.Proofs.EngineSteps Sys2Proof.Proofs.StillRecords Sys2Proof.Proofs.Frames
open Sys2Proof.Proofs.KeyStandings Sys2Proof.Proofs.KeptByEveryStep

/-! ### The map of the blocks' records -/

/-- What the blocks' own records of the regions hold beside the layout. -/
structure Regions where
  map : RegionMap
  phantom : Option Nat
  ring : Option ReportRing

/-- Those records of a state. -/
def regions (s : State) : Regions := ⟨s.steering.map, s.phantom, s.reports.ring⟩

/-- The map that a layout and the other regions make. -/
def mapOf (x : Regions) (y : Layout) : RegionMap :=
  { anchor := x.map.anchor
    report := x.ring
    areas := y.areas
    transmit := mapTable y.links (fun g => g.1.1)
    receive := mapTable y.links (fun g => g.1.2)
    phantom := x.phantom }

theorem ownMap_eq (s : State) : s.ownMap = mapOf (regions s) (frame s).layout := by
  simp only [State.ownMap, mapOf, frame, regions, mapTable_mapTable]
  rfl

/-- The map but for the report ring (R169). -/
def bareMap (s : State) : RegionMap := { s.ownMap with report := none }

theorem regionsDisjoint_iff (s : State) : s.regionsDisjoint = true ↔
    s.steering.map.disjoint = true ∧ s.ownMap.disjoint = true ∧
      ∀ r, (frame s).waiting = some r → (bareMap s).meets (r.1, 32 * r.2) = false := by
  simp only [State.regionsDisjoint, Bool.and_eq_true, and_assoc, frame, waitingRing]
  refine and_congr_right fun _ => and_congr_right fun _ => ?_
  split
  · rename_i entry record ring e
    simp only [e, Option.some.injEq, forall_eq', Bool.not_eq_true']
    rfl
  · rename_i other
    simp only [true_iff]
    intro r h
    split at h
    · rename_i entry record ring e
      exact absurd (h ▸ e) (other entry record r)
    · cases h

/-! ### Ranges added and removed -/

theorem rangesMeet_comm (a b : Nat × Nat) : rangesMeet a b = rangesMeet b a := by
  simp only [rangesMeet, Bool.and_comm]

theorem disjoint_iff (m : RegionMap) : m.disjoint = true ↔
    m.ranges.Pairwise (fun a b => rangesMeet a b = false) := by
  simp [RegionMap.disjoint]

theorem disjoint_of_sublist {m m0 : RegionMap} (h : m0.ranges.Sublist m.ranges)
    (apart : m.disjoint = true) : m0.disjoint = true := by
  rw [disjoint_iff] at apart ⊢
  exact apart.sublist h

/-- A range that meets none of a map's is added to it. -/
theorem disjoint_of_perm {m m0 : RegionMap} {r : Nat × Nat} (h : m.ranges.Perm (r :: m0.ranges))
    (apart : m0.disjoint = true) (new : m0.meets r = false) : m.disjoint = true := by
  rw [disjoint_iff] at apart ⊢
  rw [h.pairwise_iff (fun {a b} e => (rangesMeet_comm b a).trans e), List.pairwise_cons]
  refine ⟨fun b hb => ?_, apart⟩
  rw [RegionMap.meets, List.any_eq_false] at new
  simpa using new b hb

theorem reduceOption_set_some {α : Type} : ∀ (L : List (Option α)) (i : Nat) (a : α), i < L.length →
    (L.set i (some a)).reduceOption.Perm (a :: (L.set i none).reduceOption)
  | x :: L, 0, a, _ => by simp [List.reduceOption]
  | x :: L, i + 1, a, h => by
    have ih := reduceOption_set_some L i a (by simpa using h)
    cases x with
    | none => simpa [List.reduceOption] using ih
    | some b =>
      simp only [List.set_cons_succ, List.reduceOption_cons_of_some]
      exact (ih.cons b).trans (List.Perm.swap ..)

theorem reduceOption_set_none {α : Type} : ∀ (L : List (Option α)) (i : Nat),
    (L.set i none).reduceOption.Sublist L.reduceOption
  | [], _ => by simp
  | x :: L, 0 => by cases x <;> simp
  | x :: L, i + 1 => by
    have ih := reduceOption_set_none L i
    cases x with
    | none => simpa using ih
    | some b => simpa using ih.cons_cons b

/-- A table's element replaced, seen through a function. -/
theorem mapTable_set_eq {α β : Type} {n : Nat} (v : Vector α n) (f : α → β) (i : Fin n) (x : α) :
    mapTable (v.set i x) f = (mapTable v f).set i (f x) := by
  apply Vector.ext
  intro j hj
  have get : ∀ w : Vector α n, (mapTable w f)[j] = f w[j] := fun w => mapTable_get w f ⟨j, hj⟩
  rw [get, Vector.getElem_set, Vector.getElem_set, get]
  split <;> rfl

/-- The ranges of the regions that a table holds. -/
def tableRanges {α : Type} {n : Nat} (v : Vector (Option α) n) (f : α → Nat × Nat) :
    List (Nat × Nat) := v.toList.reduceOption.map f

theorem tableRanges_set_some {α : Type} {n : Nat} (v : Vector (Option α) n) (f : α → Nat × Nat)
    (i : Fin n) (a : α) :
    (tableRanges (v.set i (some a)) f).Perm (f a :: tableRanges (v.set i none) f) := by
  simp only [tableRanges, Vector.toList_set]
  exact (reduceOption_set_some v.toList i a (by simp)).map f

theorem tableRanges_set_none {α : Type} {n : Nat} (v : Vector (Option α) n) (f : α → Nat × Nat)
    (i : Fin n) : (tableRanges (v.set i none) f).Sublist (tableRanges v f) := by
  simp only [tableRanges, Vector.toList_set]
  exact (reduceOption_set_none v.toList i).map f

theorem ranges_eq (m : RegionMap) : m.ranges =
    [(m.anchor, 1024)] ++ m.report.toList.map (fun r => (r.base, 32 * r.entries)) ++
      tableRanges m.areas (fun a => (a.base, 16 * a.count)) ++
      tableRanges m.transmit (fun g => (g.base, g.size)) ++
      tableRanges m.receive (fun g => (g.base, g.size)) ++
      m.phantom.toList.map (fun b => (b, 512)) := rfl

/-- A list of ranges grown by one in its first part. -/
theorem perm_left {B P Q : List (Nat × Nat)} {r : Nat × Nat} (h : P.Perm (r :: Q)) :
    (P ++ B).Perm (r :: (Q ++ B)) := h.append_right B

/-- A list of ranges grown by one in its last part. -/
theorem perm_right {A P Q : List (Nat × Nat)} {r : Nat × Nat} (h : P.Perm (r :: Q)) :
    (A ++ P).Perm (r :: (A ++ Q)) := (h.append_left A).trans List.perm_middle

section
variable {m : RegionMap}

/-- A report ring set where the map but for it lets it (R169). -/
theorem disjoint_report (r : ReportRing) (apart : m.disjoint = true)
    (new : ({ m with report := none } : RegionMap).meets (r.base, 32 * r.entries) = false) :
    ({ m with report := some r } : RegionMap).disjoint = true := by
  refine disjoint_of_perm (m0 := { m with report := none }) ?_ (disjoint_of_sublist ?_ apart) new
  · exact perm_left (perm_left (perm_left (perm_left (perm_right (.refl _)))))
  · exact ((((List.nil_sublist _).append_left _).append_right _).append_right _
      |>.append_right _).append_right _

theorem disjoint_noReport (apart : m.disjoint = true) :
    ({ m with report := none } : RegionMap).disjoint = true := by
  refine disjoint_of_sublist ?_ apart
  exact ((((List.nil_sublist _).append_left _).append_right _).append_right _
      |>.append_right _).append_right _

/-- A descriptor area removed, or set where the map without the old one lets it (R21, R22). -/
theorem disjoint_area (r : RingIndex) (a : Option Area) (apart : m.disjoint = true)
    (new : ∀ x, a = some x → ({ m with areas := m.areas.set r none } : RegionMap).meets
      (x.base, 16 * x.count) = false) :
    ({ m with areas := m.areas.set r a } : RegionMap).disjoint = true := by
  have removed : ({ m with areas := m.areas.set r none } : RegionMap).disjoint = true := by
    refine disjoint_of_sublist ?_ apart
    exact ((((tableRanges_set_none m.areas _ r).append_left _).append_right _).append_right
      _).append_right _
  cases a with
  | none => exact removed
  | some x =>
    refine disjoint_of_perm ?_ removed (new x rfl)
    exact perm_left (perm_left (perm_left (perm_right (tableRanges_set_some m.areas _ r x))))

/-- A transmit guard removed, or set where the map without the old one lets it (R20). -/
theorem disjoint_transmit (l : LinkSlot) (g : Option Region) (apart : m.disjoint = true)
    (new : ∀ x, g = some x → ({ m with transmit := m.transmit.set l none } : RegionMap).meets
      (x.base, x.size) = false) :
    ({ m with transmit := m.transmit.set l g } : RegionMap).disjoint = true := by
  have removed : ({ m with transmit := m.transmit.set l none } : RegionMap).disjoint = true := by
    refine disjoint_of_sublist ?_ apart
    exact (((tableRanges_set_none m.transmit _ l).append_left _).append_right _).append_right _
  cases g with
  | none => exact removed
  | some x =>
    refine disjoint_of_perm ?_ removed (new x rfl)
    exact perm_left (perm_left (perm_right (tableRanges_set_some m.transmit _ l x)))

/-- A receive guard removed, or set where the map without the old one lets it (R20). -/
theorem disjoint_receive (l : LinkSlot) (g : Option Region) (apart : m.disjoint = true)
    (new : ∀ x, g = some x → ({ m with receive := m.receive.set l none } : RegionMap).meets
      (x.base, x.size) = false) :
    ({ m with receive := m.receive.set l g } : RegionMap).disjoint = true := by
  have removed : ({ m with receive := m.receive.set l none } : RegionMap).disjoint = true := by
    refine disjoint_of_sublist ?_ apart
    exact ((tableRanges_set_none m.receive _ l).append_left _).append_right _
  cases g with
  | none => exact removed
  | some x =>
    refine disjoint_of_perm ?_ removed (new x rfl)
    exact perm_left (perm_right (tableRanges_set_some m.receive _ l x))

/-- The phantom window removed, or placed where the map without the old one lets it (R52). -/
theorem disjoint_phantom (b : Option Nat) (apart : m.disjoint = true)
    (new : ∀ x, b = some x → ({ m with phantom := none } : RegionMap).meets (x, 512) = false) :
    ({ m with phantom := b } : RegionMap).disjoint = true := by
  have removed : ({ m with phantom := none } : RegionMap).disjoint = true := by
    refine disjoint_of_sublist ?_ apart
    exact (List.nil_sublist _).append_left _
  cases b with
  | none => exact removed
  | some x =>
    refine disjoint_of_perm (m0 := { m with phantom := none }) ?_ removed (new x rfl)
    exact perm_right (Q := []) (.refl _)

end

theorem disjoint_reset (a : Nat) : (RegionMap.reset a).disjoint = true := by
  rw [disjoint_iff]
  exact List.pairwise_singleton ..

/-! ### The steps that move something -/

/-- What a step does to the regions, the parameters and the report ring, beside what `Keeps` allows. -/
inductive Relaid (s : State) : State → Prop
  | same : Relaid s s
  | reset (x : State) (a : Nat) : Relaid s (x.resetBlocks a)
  /-- The blocks' records come into force when a result lands. -/
  | landed : Relaid s { s with steering := { s.steering with map := s.ownMap } }
  | guard (l : LinkSlot) (inbound : Bool) (g : Option Region) (idle : (frame s).waiting = none)
      (new : ∀ x, g = some x →
        (s.setLink l ((s.link l).withGuard inbound none)).ownMap.meets (x.base, x.size) = false) :
      Relaid s (s.setLink l ((s.link l).withGuard inbound g))
  | ring (r : RingIndex) (x : Option Ring) (idle : (frame s).waiting = none)
      (new : ∀ ring, x = some ring →
        (s.setRing r none).ownMap.meets (ring.base, 16 * ring.slots.length) = false) :
      Relaid s (s.setRing r x)
  | phantom (b : Option Nat) (idle : (frame s).waiting = none)
      (new : ∀ x, b = some x → ({ s with phantom := none } : State).ownMap.meets (x, 512) = false) :
      Relaid s { s with phantom := b }
  | monitor (l : LinkSlot) (h : Health) (legal : h.legal = true) : Relaid s (s.setHealth l h)
  | reportRing (ring : Option (Nat × Nat))
      (new : s.regionsDisjoint = true →
        ∀ r, ring = some r → (bareMap s).meets (r.1, 32 * r.2) = false) :
      Relaid s (s.replaceReportRing ring)
  | waits (x : Executing) (record : List Byte) (ring : Option (Nat × Nat))
      (new : ∀ r, ring = some r → (bareMap s).meets (r.1, 32 * r.2) = false) :
      Relaid s { s with command :=
        { s.command with executing := some { x with phase := .replacingRing record ring } } }

/-- The regions of a state whose layout and regions are known. -/
theorem regionsDisjoint_of_mapOf {s : State} {m : RegionMap} (own : s.ownMap = m)
    (inForce : s.steering.map.disjoint = true) (apart : m.disjoint = true)
    (idle : (frame s).waiting = none) : s.regionsDisjoint = true := by
  rw [regionsDisjoint_iff]
  refine ⟨inForce, own ▸ apart, fun r waits => ?_⟩
  rw [idle] at waits
  cases waits

/-- What keeps the layout, and has the regions of before, keeps the regions apart. -/
theorem regionsDisjoint_of_keeps {s t : State} (h : Keeps s t) (same : regions t = regions s)
    (apart : s.regionsDisjoint = true) : t.regionsDisjoint = true := by
  have own : t.ownMap = s.ownMap := by rw [ownMap_eq, ownMap_eq, same, h.layout]
  have inForce : t.steering.map = s.steering.map := congrArg Regions.map same
  rw [regionsDisjoint_iff] at apart ⊢
  obtain ⟨map, blocks, waiting⟩ := apart
  refine ⟨inForce ▸ map, own ▸ blocks, fun r waits => ?_⟩
  rw [bareMap, own]
  rcases h.waiting with e | e
  · exact waiting r (e ▸ waits)
  · rw [e] at waits
    cases waits

theorem ownMap_setGuard (s : State) (l : LinkSlot) (inbound : Bool) (g : Option Region) :
    (s.setLink l ((s.link l).withGuard inbound g)).ownMap =
      if inbound then { s.ownMap with receive := s.ownMap.receive.set l g }
      else { s.ownMap with transmit := s.ownMap.transmit.set l g } := by
  have kept : ∀ (f : Link → Option Region) (x : Link), f x = f (s.link l) →
      mapTable (s.links.set l x) f = mapTable s.links f := fun f x h => mapTable_set _ _ _ _ h
  cases inbound
  · simp [State.ownMap, State.setLink, Link.withGuard, mapTable_set_eq, kept (·.receive)]
  · simp [State.ownMap, State.setLink, Link.withGuard, mapTable_set_eq, kept (·.transmit)]

theorem ownMap_setHealth (s : State) (l : LinkSlot) (h : Health) :
    (s.setHealth l h).ownMap = s.ownMap := by
  have kept : ∀ (f : Link → Option Region) (x : Link), f x = f (s.link l) →
      mapTable (s.links.set l x) f = mapTable s.links f := fun f x h => mapTable_set _ _ _ _ h
  simp [State.ownMap, State.setHealth, State.setLink, kept (·.transmit), kept (·.receive)]

theorem ownMap_setRing (s : State) (r : RingIndex) (x : Option Ring) :
    (s.setRing r x).ownMap =
      { s.ownMap with areas := s.ownMap.areas.set r (x.map Ring.area) } := by
  simp only [State.ownMap, State.setRing, mapTable_set_eq]

theorem ownMap_resetBlocks (s : State) (a : Nat) : (s.resetBlocks a).ownMap = RegionMap.reset a := by
  have none_of : ∀ {α β : Type} (n : Nat) (f : α → Option β) (x : α), f x = none →
      mapTable (Vector.replicate n x) f = Vector.replicate n none := by
    intro α β n f x h
    simp [mapTable, h]
  simp only [State.ownMap, State.resetBlocks, RegionMap.reset]
  rw [none_of 16 _ _ rfl, none_of 8 (fun l : Link => l.transmit) _ rfl,
    none_of 8 (fun l : Link => l.receive) _ rfl]
  rfl

theorem regionsDisjoint_of_relaid {s t : State} (h : Relaid s t) (apart : s.regionsDisjoint = true) :
    t.regionsDisjoint = true := by
  have all := apart
  rw [regionsDisjoint_iff] at apart
  obtain ⟨map, blocks, waiting⟩ := apart
  cases h with
  | same => exact all
  | reset x a =>
    exact regionsDisjoint_of_mapOf (ownMap_resetBlocks x a) (disjoint_reset a) (disjoint_reset a) rfl
  | landed => exact (regionsDisjoint_iff _).mpr ⟨blocks, blocks, waiting⟩
  | guard l inbound g idle new =>
    have own := ownMap_setGuard s l inbound g
    refine regionsDisjoint_of_mapOf own map ?_ idle
    cases inbound
    · refine disjoint_transmit l g blocks fun x hx => ?_
      have without := new x hx
      rw [ownMap_setGuard] at without
      exact without
    · refine disjoint_receive l g blocks fun x hx => ?_
      have without := new x hx
      rw [ownMap_setGuard] at without
      exact without
  | ring r x idle new =>
    refine regionsDisjoint_of_mapOf (ownMap_setRing s r x) map ?_ idle
    refine disjoint_area r _ blocks fun a ha => ?_
    obtain ⟨ring, hring, rfl⟩ := Option.map_eq_some_iff.mp ha
    have without := new ring hring
    rw [ownMap_setRing] at without
    exact without
  | phantom b idle new =>
    exact regionsDisjoint_of_mapOf rfl map (disjoint_phantom b blocks new) idle
  | monitor l h legal =>
    have own := ownMap_setHealth s l h
    refine (regionsDisjoint_iff _).mpr ⟨map, own ▸ blocks, fun r waits => ?_⟩
    rw [bareMap, own]
    exact waiting r waits
  | reportRing ring new =>
    refine (regionsDisjoint_iff _).mpr ⟨map, ?_, fun r waits => waiting r waits⟩
    cases ring with
    | none => exact disjoint_noReport blocks
    | some r => exact disjoint_report ⟨r.1, r.2, s.reports.rings⟩ blocks (new all r rfl)
  | waits x record ring new =>
    exact (regionsDisjoint_iff _).mpr ⟨map, blocks, new⟩

theorem oneEach_of_relaid {s t : State} (h : Relaid s t) (one : OneEach s.keys.table) :
    OneEach t.keys.table := by
  cases h with
  | reset x a =>
    intro j k p hj
    simp [State.resetBlocks, KeyUnit.reset, place_empty] at hj
  | _ => exact one

/-- T, I and R of every health record are not 0 (R165). -/
def MonitorLegal (s : State) : Prop := ∀ l, (s.link l).health.legal = true

theorem monitorLegal_of_keeps {s t : State} (h : Keeps s t) (legal : MonitorLegal s) :
    MonitorLegal t := by
  intro l
  have shape : linkShape (t.link l) = linkShape (s.link l) := by
    have links : mapTable t.links linkShape = mapTable s.links linkShape :=
      congrArg Layout.links h.layout
    have at_l := congrArg (fun v => v[l]) links
    rwa [mapTable_get, mapTable_get] at at_l
  have before := legal l
  simp only [linkShape, Prod.mk.injEq] at shape
  obtain ⟨-, ht, hi, hr⟩ := shape
  simpa only [Health.legal, ht, hi, hr] using before

theorem monitorLegal_setLink {s : State} {l : LinkSlot} {x : Link} (h : x.health.legal = true)
    (legal : MonitorLegal s) : MonitorLegal (s.setLink l x) := by
  intro m
  by_cases e : l = m
  · subst e
    rwa [State.setLink_link_self]
  · rw [State.setLink_link_ne _ _ e]
    exact legal m

theorem monitorLegal_of_relaid {s t : State} (h : Relaid s t) (legal : MonitorLegal s) :
    MonitorLegal t := by
  cases h with
  | reset x a =>
    intro l
    simp [State.link, State.resetBlocks, Link.reset, Health.reset, Health.legal]
  | guard l inbound g =>
    refine monitorLegal_setLink ?_ legal
    cases inbound <;> exact legal l
  | monitor l h h_legal => exact monitorLegal_setLink h_legal legal
  | _ => exact legal

/-! ### Which step moves what -/

/-- A step moves something, and then keeps it. -/
def Moves (s t : State) : Prop := ∃ u, Relaid s u ∧ Keeps u t ∧ regions t = regions u

theorem moves_of_keeps {s t : State} (h : Keeps s t) (same : regions t = regions s) : Moves s t :=
  ⟨s, .same, h, same⟩

theorem regions_eq_of_still {s t : State} (h : t.still = s.still) : regions t = regions s := by
  have map : t.steering.map = s.steering.map := congrArg Still.map h
  have phantom : t.phantom = s.phantom := congrArg Still.phantom h
  have reports : t.reports = s.reports := congrArg Still.reports h
  simp only [regions, map, phantom, reports]

theorem moves_of_relaid {s u : State} (h : Relaid s u) : Moves s u := ⟨u, h, keeps_refl u, rfl⟩

theorem Moves.then {s t u : State} (h : Moves s t) (k : Keeps t u) (same : regions u = regions t) :
    Moves s u := by
  obtain ⟨x, relaid, keeps, e⟩ := h
  exact ⟨x, relaid, keeps.trans k, same.trans e⟩

theorem Moves.answer {s t : State} (h : Moves s t) (r : List Byte) (c : ResultCode)
    (b : List (Nat × List Byte)) : Moves s (t.answer r c b) :=
  h.then (keeps_answer ..) (regions_eq_of_still (still_answer ..))

/-- While a command is offered to its owner no report ring waits. -/
theorem idle_of_offered {s : State} {c : Instr} {x : List Byte × Seq} (h : s.offered c = some x) :
    (frame s).waiting = none := by
  unfold State.offered State.dispatched at h
  split at h
  · rename_i d
    split at d
    · rename_i e
      simp [frame, e, waitingRing]
    · cases d
  · cases h

/-- A command's owner moves something, and the answer keeps it. -/
theorem moves_carryOut {s : State} {c : Instr} {f : State → Answer}
    (h : (frame s).waiting = none → Moves s (f s).1) : Moves s (s.carryOut c f) := by
  unfold State.carryOut
  split
  · exact moves_of_relaid .same
  · rename_i e
    exact (h (idle_of_offered e)).answer ..

section
variable {s : State}

theorem moves_setGuard (link direction : Byte) (base size : Nat) (idle : (frame s).waiting = none) :
    Moves s (s.setGuard link direction base size).1 := by
  unfold State.setGuard
  dsimp only
  (repeat' split)
  case _ => exact moves_of_relaid .same
  case _ => exact moves_of_relaid (.guard _ _ none idle fun x h => nomatch h)
  case _ => exact moves_of_relaid .same
  case _ => exact moves_of_relaid .same
  case _ l inbound _ _ _ _ _ free =>
    refine moves_of_relaid (.guard l inbound (some ⟨base, size⟩) idle fun x h => ?_)
    cases h
    simpa using free
  case _ => exact moves_of_relaid .same

theorem keeps_withRing (u : State) (x : Link) (l : LinkSlot) (inbound : Bool)
    (r : Option RingIndex) (h : linkShape x = linkShape (u.link l)) :
    Keeps u (u.setLink l (x.withRing inbound r)) := by
  simp only [linkShape, Prod.mk.injEq] at h
  obtain ⟨⟨transmit, receive⟩, ht, hi, hr⟩ := h
  refine keeps_of_frame ?_
  cases inbound <;> exact frame_setLink _ _ _ transmit receive ht hi hr

/-- The ring that SET_RING writes is the link's own, which the comparison left out, or a free one. -/
theorem freeRing_of_ringFor {l : LinkSlot} {inbound : Bool} {r : RingIndex}
    (h : s.ringFor l inbound = some r) :
    (s.freeRing ((s.link l).ringOf inbound)).ownMap = (s.setRing r none).ownMap := by
  unfold State.ringFor at h
  cases own : (s.link l).ringOf inbound with
  | some q =>
    rw [own] at h
    cases h
    rfl
  | none =>
    rw [own] at h
    have free : s.ring r = none := by simpa using List.find?_some h
    have same : frame (s.setRing r none) = frame s := frame_setRing _ _ _ (by rw [free])
    rw [ownMap_eq (s.setRing r none), same]
    exact ownMap_eq s

theorem moves_registerRing (link direction : Byte) (base slots : Nat)
    (idle : (frame s).waiting = none) :
    Moves s (s.registerRing link direction base slots).1 := by
  unfold State.registerRing
  dsimp only
  (repeat' split)
  case _ => exact moves_of_relaid .same
  case _ => exact moves_of_relaid .same
  case _ => exact moves_of_relaid .same
  case _ => exact moves_of_relaid .same
  case _ l inbound _ _ _ _ free _ r own =>
    refine (moves_of_relaid (.ring r (some ⟨l, !inbound, base,
      List.replicate slots SlotRecord.clear⟩) idle fun ring h => ?_)).then
      (keeps_withRing _ _ l inbound _ rfl) rfl
    cases h
    rw [← freeRing_of_ringFor own]
    simpa using free
  case _ => exact moves_of_relaid .same

theorem moves_removeRing (link direction : Byte) (idle : (frame s).waiting = none) :
    Moves s (s.removeRing link direction).1 := by
  unfold State.removeRing
  dsimp only
  (repeat' split)
  case _ => exact moves_of_relaid .same
  case _ l inbound _ _ _ =>
    refine Moves.then (t := s.freeRing ((s.link l).ringOf inbound)) ?_ ?_ ?_
    · unfold State.freeRing
      split
      · exact moves_of_relaid .same
      · exact moves_of_relaid (.ring _ none idle fun x h => nomatch h)
    · refine keeps_withRing _ _ l inbound none ?_
      unfold State.freeRing
      split <;> rfl
    · rfl
  case _ => exact moves_of_relaid .same

theorem moves_configureMonitor (link : Byte) (t d u : Half) (i m r options : Byte) :
    Moves s (s.configureMonitor link t d u i m r options).1 := by
  unfold State.configureMonitor
  split
  · exact moves_of_relaid .same
  · split
    · exact moves_of_relaid .same
    · rename_i legal
      refine moves_of_relaid (.monitor _ _ ?_)
      have positive : ∀ {w : Nat} (x : BitVec w), x ≠ 0 → 1 ≤ x.toNat := fun x h =>
        Nat.pos_of_ne_zero fun e => h (BitVec.eq_of_toNat_eq (by simpa using e))
      simp only [not_or] at legal
      simp [Health.legal, positive t legal.1, positive i legal.2.1, positive r legal.2.2]

theorem moves_placePhantom (present : Byte) (base : Nat) (idle : (frame s).waiting = none) :
    Moves s (s.placePhantom present base).1 := by
  unfold State.placePhantom
  (repeat' split)
  case _ => exact moves_of_relaid .same
  case _ => exact moves_of_relaid (.phantom none idle fun x h => nomatch h)
  case _ => exact moves_of_relaid .same
  case _ => exact moves_of_relaid .same
  case _ free =>
    refine moves_of_relaid (.phantom (some base) idle fun x h => ?_)
    cases h
    simpa using free

theorem checkReportRing_inr {base entries : Nat} {ring : Option (Nat × Nat)}
    (h : s.checkReportRing base entries = .inr ring) :
    ∀ r, ring = some r → (bareMap s).meets (r.1, 32 * r.2) = false := by
  unfold State.checkReportRing at h
  (repeat' split at h) <;> cases h
  · exact fun r h => nomatch h
  · rename_i free
    rintro r ⟨⟩
    exact Bool.eq_false_iff.mpr free

theorem moves_setReportRing {t : State} {base : Long} {entries : Half}
    (h : exec (.setReportRing base entries) s = .next t) : Moves s t := by
  have moved := Host.Outcome.next.inj h
  rw [← moved]
  split
  · exact moves_of_relaid .same
  · split
    · exact (moves_of_relaid .same).answer ..
    · rename_i ring legal
      unfold State.setReportRing
      split
      · exact moves_of_relaid (.waits _ _ ring (checkReportRing_inr legal))
      · exact (moves_of_relaid (.reportRing ring fun _ => checkReportRing_inr legal)).answer ..

end

/-! Resets and landings (R54, R126, R169, R180). -/

theorem regions_checkStore (s : State) : regions s.checkStore = regions s := by
  unfold State.checkStore
  dsimp only
  split
  · rfl
  · simp only [regions, take_ring]

theorem frame_checkStore (s : State) : frame s.checkStore = frame s := by
  unfold State.checkStore
  dsimp only
  split <;> rfl

theorem moves_powerOn {s t : State} {straps : Byte} (h : exec (.powerOn straps) s = .next t) :
    Moves s t := by
  rw [← Host.Outcome.next.inj h]
  split
  · exact moves_of_relaid .same
  · refine ⟨_, .reset { s with lines := { s.lines with powered := true, vstby := true } }
      (anchorOf straps), (keeps_of_frame (frame_checkStore _)).trans (keeps_runBoth _), ?_⟩
    exact (regions_eq_of_still (still_runBoth _)).trans (regions_checkStore _)

theorem moves_warmReset {s t : State} {straps : Byte} (h : exec (.warmReset straps) s = .next t) :
    Moves s t := by
  rw [← Host.Outcome.next.inj h]
  split
  · exact ⟨_, .reset { s with lines := { s.lines with resetAsserted := true } } (anchorOf straps),
      keeps_of_frame rfl, rfl⟩
  · exact moves_of_keeps (keeps_of_frame rfl) rfl

theorem moves_mainPowerLoss {s t : State} (h : exec .mainPowerLoss s = .next t) : Moves s t := by
  rw [← Host.Outcome.next.inj h]
  split
  · exact ⟨_, .reset s.tear s.steering.map.anchor, keeps_of_frame rfl, rfl⟩
  · exact moves_of_relaid .same

/-- A landing record lets a waiting SET_REPORT_RING take effect (R169). -/
theorem moves_recordLanded (s : State) (rest : List Completion) (e : Nat) :
    Moves s (({ s with completions := rest } : State).recordLanded e) := by
  unfold State.recordLanded State.finishReportRing
  dsimp only
  split
  · rename_i entry record ring waits
    have new : s.regionsDisjoint = true →
        ∀ r, ring = some r → (bareMap s).meets (r.1, 32 * r.2) = false := by
      intro apart r h
      refine ((regionsDisjoint_iff s).mp apart).2.2 r ?_
      simp [frame, waits, waitingRing, h]
    refine Moves.answer ?_ record .ok []
    exact ⟨s.replaceReportRing ring, .reportRing ring new, keeps_of_frame rfl, rfl⟩
  · exact moves_of_keeps (keeps_of_frame rfl) rfl

theorem moves_internalWriteLanded {s t : State} (h : exec .internalWriteLanded s = .next t) :
    Moves s t := by
  rw [← Host.Outcome.next.inj h]
  split
  · rename_i use u taken
    obtain ⟨rest, -, rfl⟩ := takeCompletion_eq_some taken
    refine Moves.then ?_ (keeps_resume _) (regions_eq_of_still (still_resume _))
    cases use with
    | replacement ring slot =>
      have same : regions (({ s with completions := rest } : State).replacementLanded ring slot) =
          regions { s with completions := rest } :=
        regions_eq_of_still (still_replacementLanded ..)
      exact moves_of_keeps (keeps_of_frame ((frame_replacementLanded ..).trans
        (frame_completions ..))) (same.trans rfl)
    | result => exact ⟨_, .landed, keeps_executing _ _ rfl, rfl⟩
    | record e => exact moves_recordLanded s rest e
  · exact moves_of_relaid .same

theorem changesLayout_of_isReset {c : Instr} (h : isReset c) : changesLayout c = true := by
  cases c
  case powerOn | warmReset | mainPowerLoss => rfl
  all_goals exact h.elim

/-- The regions move in the steps named alone. -/
theorem regions_of_stillStep {c : Instr} {s t : State} (h : StillStep c s.still t.still)
    (layout : changesLayout c = false) (landing : c ≠ .internalWriteLanded)
    (window : ∀ present base, c ≠ .setPhantom present base) : regions t = regions s := by
  have same : t.still.map = s.still.map ∧ t.still.phantom = s.still.phantom ∧
      t.still.reports.ring = s.still.reports.ring := by
    generalize t.still = y at h
    generalize s.still = x at h
    cases h with
    | reset a lines slots marker lost reports kind =>
      rw [changesLayout_of_isReset kind] at layout
      cases layout
    | result rest map kind => exact absurd kind landing
    | record rest e reports kind => exact absurd kind landing
    | ring reports base entries kind => rw [kind] at layout; cases layout
    | reports reports ring => exact ⟨rfl, rfl, ring⟩
    | phantom base kind =>
      obtain ⟨present, b, e⟩ := kind
      exact absurd e (window present b)
    | _ => exact ⟨rfl, rfl, rfl⟩
  obtain ⟨map, phantom, ring⟩ := same
  simp only [State.still] at map phantom ring
  simp only [regions, map, phantom, ring]

/-- Every step moves something of `Relaid` and keeps the rest. -/
theorem exec_moves {c : Instr} {s t : State} (h : exec c s = .next t) : Moves s t := by
  by_cases layout : changesLayout c = true
  · cases c
    case powerOn => exact moves_powerOn h
    case warmReset => exact moves_warmReset h
    case mainPowerLoss => exact moves_mainPowerLoss h
    case setGuard =>
      exact Host.Outcome.next.inj h ▸ moves_carryOut fun idle => moves_setGuard _ _ _ _ idle
    case setRing =>
      exact Host.Outcome.next.inj h ▸ moves_carryOut fun idle => moves_registerRing _ _ _ _ idle
    case clearRing =>
      exact Host.Outcome.next.inj h ▸ moves_carryOut fun idle => moves_removeRing _ _ idle
    case configMonitor =>
      exact Host.Outcome.next.inj h ▸ moves_carryOut fun _ => moves_configureMonitor ..
    case setReportRing => exact moves_setReportRing h
    all_goals cases layout
  · have other : changesLayout c = false := by simpa using layout
    by_cases landing : c = .internalWriteLanded
    · subst landing
      exact moves_internalWriteLanded h
    · by_cases window : ∃ present base, c = .setPhantom present base
      · obtain ⟨present, base, rfl⟩ := window
        exact Host.Outcome.next.inj h ▸ moves_carryOut fun idle => moves_placePhantom _ _ idle
      · exact moves_of_keeps (exec_keeps other h) (regions_of_stillStep (exec_stillStep h) other
          landing fun present base e => window ⟨present, base, e⟩)

/-! ### The invariants of every step -/

/-- A property of states that no move and no kept step breaks, and that does not see the queue of commands, is kept
by every step. -/
theorem step_keeps {P : State → Prop} (queue : ∀ (s : State) (rest : List Instr), P s →
      P { s with pending := rest })
    (moved : ∀ s u, Relaid s u → P s → P u)
    (kept : ∀ u t, Keeps u t → regions t = regions u → P u → P t) {s t : State}
    (h : step s = .next t) (before : P s) : P t := by
  obtain rfl | ⟨c, rest, -, run⟩ := step_cases h
  · exact before
  · obtain ⟨u, relaid, keeps, same⟩ := exec_moves run
    exact kept u t keeps same (moved _ u relaid (queue s rest before))

/-- Settles O58: the key unit fills a place of a link after vacating it. -/
theorem everyStepKeepsOneKeyPerStanding : Obligations.EveryStepKeepsOneKeyPerStanding := by
  intro s t h one
  rw [oneKeyPerStanding_iff] at one ⊢
  exact step_keeps (P := fun u => OneEach u.keys.table) (fun _ _ one => one)
    (fun _ _ => oneEach_of_relaid) (fun _ _ keeps _ => keeps.table) h one

/-- Settles O60: CONFIG_MONITOR refuses a 0, and nothing else writes T, I and R. -/
theorem everyStepKeepsTheMonitorLegal : Obligations.EveryStepKeepsTheMonitorLegal := by
  intro s t h legal
  exact step_keeps (P := MonitorLegal) (fun _ _ legal => legal) (fun _ _ => monitorLegal_of_relaid)
    (fun _ _ keeps _ => monitorLegal_of_keeps keeps) h legal

/-- Settles O57: a region is set only where the map without its predecessor lets it, and what waits to be set was
compared so. -/
theorem everyStepKeepsTheRegionsApart : Obligations.EveryStepKeepsTheRegionsApart := by
  intro s t h apart
  exact step_keeps (P := fun u => u.regionsDisjoint = true) (fun _ _ apart => apart)
    (fun _ _ => regionsDisjoint_of_relaid) (fun _ _ => regionsDisjoint_of_keeps) h apart

end Sys2Proof.Proofs.RegionsApart
end


section
/-! PROOFS. The commands that their owner answers in one step: NOP (R182), SET_GUARD and SET_PHANTOM (R20, R52),
SET_RING and CLEAR_RING (R21, R22), QUERY_LINK and RESET_FILTER (R27, R100), CONFIG_MONITOR and RELEASE_LINK
(R160, R165), CONFIG_CLOCK, MEASURE_CLOCK and SET_TIME (R139, R147, R149). -/

namespace Sys2Proof.Proofs.CommandAnswers
open Sys2Proof Sys2Proof.Machine

/-! ### A dispatched command and its answer (R179) -/

/-- A command whose step is its owner's answer has the answer that the owner's checks make. -/
theorem exec_of_answer {c : Instr} {f : State → Answer} {s : State} {r : List Byte} {stamp : Seq}
    {a : Answer} (runs : exec c s = .next (s.carryOut c f)) (offered : s.offered c = some (r, stamp))
    (answer : f s = a) : exec c s = .next (a.1.answer r a.2.1 a.2.2) := by
  rw [runs, carryOut_of_offered offered, answer]

theorem takeRequest_of_head {s : State} {q : StoreRequest} {rest : List StoreRequest}
    (head : s.store.requests = q :: rest) :
    s.takeRequest = some (q, { s with store := s.store.tookHead q rest }) := by
  simp only [State.takeRequest, head]

theorem carryOutAtStore_of_not_offered {s : State} {c : Instr} (f : State → Answer)
    (h : s.offered c = none) : s.carryOutAtStore c f = s := by
  unfold State.carryOutAtStore
  split
  · simp [h]
  · rfl

/-- What is not the dispatched command of the ring is not taken. -/
theorem exec_of_not_offered {c : Instr} {s : State} (ring : (encodeRecord c).isSome = true)
    (h : s.offered c = none) : exec c s = .next s := by
  cases c
  case nop | configLink | setGuard | setRing | clearRing | openLink | queryLink | setPhantom
      | resetFilter | setTime | setDrift | configClock | measureClock | configMonitor
      | releaseLink =>
    exact congrArg Host.Outcome.next (carryOut_of_not_offered h _)
  case loadKekPart1 | loadKekPart2 | eraseKek =>
    exact congrArg Host.Outcome.next (carryOutAtStore_of_not_offered _ h)
  case closeLink => simp only [exec, execCloseLink, h]
  case retireKey => simp [exec, execRetireKey, h]
  case setReportRing => simp only [exec, execSetReportRing, h]
  all_goals cases ring

/-- Settles O22: NOP's answer, and one case per kind of owner for a command that is not dispatched. -/
theorem nopAndUndispatchedCommands : Obligations.NopAndUndispatchedCommands :=
  ⟨fun s _ _ offered => exec_of_answer (f := State.accept) (s := s) rfl offered rfl,
    fun _ _ ring h => exec_of_not_offered ring h⟩

/-! ### SET_GUARD and SET_PHANTOM (R20, R52) -/

theorem guardLegal_iff (base size : Nat) : guardLegal base size = true ↔
    base % 4096 = 0 ∧ size % 4096 = 0 ∧ size ≤ 2 ^ 24 ∧ base + size ≤ 2 ^ 32 := by
  simp [guardLegal, and_assoc]

section
variable {s : State} {link direction : Byte} {base size : Nat} {l : LinkSlot} {inbound : Bool}

theorem setGuard_of_no_such_argument (h : 8 ≤ link.toNat ∨ 2 ≤ direction.toNat) :
    s.setGuard link direction base size = s.refuse .badArgument := by
  rcases h with badLink | badDirection
  · simp [State.setGuard, linkArg_eq_none badLink]
  · simp [State.setGuard, directionArg_eq_none badDirection]

variable (hl : linkArg link = some l) (hd : directionArg direction = some inbound)
include hl hd

theorem setGuard_of_not_closed (notClosed : (s.link l).state ≠ .closed) :
    s.setGuard link direction base size = s.refuse .wrongState := by
  simp [State.setGuard, hl, hd, notClosed]

theorem setGuard_of_zero (closed : (s.link l).state = .closed) :
    s.setGuard link direction base 0 =
      (s.setLink l ((s.link l).withGuard inbound none)).accept := by
  simp [State.setGuard, hl, hd, closed]

theorem setGuard_of_bad_region (closed : (s.link l).state = .closed) (nonzero : size ≠ 0)
    (bad : guardLegal base size = false) :
    s.setGuard link direction base size = s.refuse .badArgument := by
  simp [State.setGuard, hl, hd, closed, nonzero, bad]

theorem setGuard_of_overlap (closed : (s.link l).state = .closed) (nonzero : size ≠ 0)
    (good : guardLegal base size = true)
    (meets : (s.setLink l ((s.link l).withGuard inbound none)).ownMap.meets (base, size) = true) :
    s.setGuard link direction base size = s.refuse .overlap := by
  simp [State.setGuard, hl, hd, closed, nonzero, good, meets]

theorem setGuard_of_good_region (closed : (s.link l).state = .closed) (nonzero : size ≠ 0)
    (good : guardLegal base size = true)
    (free : (s.setLink l ((s.link l).withGuard inbound none)).ownMap.meets (base, size) = false) :
    s.setGuard link direction base size =
      (s.setLink l ((s.link l).withGuard inbound (some ⟨base, size⟩))).accept := by
  simp [State.setGuard, hl, hd, closed, nonzero, good, free]

end

theorem long_toNat_ne_zero {x : Long} (h : x ≠ 0) : x.toNat ≠ 0 :=
  fun e => h (BitVec.eq_of_toNat_eq (by simpa using e))

theorem mem_allLinks (l : LinkSlot) : l ∈ allLinks := by revert l; decide

theorem anyOpen_iff (s : State) : allLinks.any (fun l => (s.link l).state != .closed) = true ↔
    ∃ l, (s.link l).state ≠ .closed := by
  simp [mem_allLinks]

section
variable {s : State} {present : Byte} {base : Nat}

theorem placePhantom_of_open (h : ∃ l, (s.link l).state ≠ .closed) :
    s.placePhantom present base = s.refuse .wrongState := if_pos ((anyOpen_iff s).mpr h)

variable (closed : ∀ l, (s.link l).state = .closed)
include closed

theorem not_anyOpen : ¬allLinks.any (fun l => (s.link l).state != .closed) = true := by
  rw [anyOpen_iff]
  rintro ⟨l, opened⟩
  exact opened (closed l)

theorem placePhantom_of_absent :
    s.placePhantom 0 base = ({ s with phantom := none } : State).accept := by
  simp only [State.placePhantom, if_neg (not_anyOpen closed), if_true]

theorem placePhantom_of_bad (nonzero : present ≠ 0) (bad : present ≠ 1 ∨ base % 512 ≠ 0) :
    s.placePhantom present base = s.refuse .badArgument := by
  simp only [State.placePhantom, if_neg (not_anyOpen closed), if_neg nonzero, if_pos bad]

theorem placePhantom_of_good (aligned : base % 512 = 0) :
    s.placePhantom 1 base =
      if ({ s with phantom := none } : State).ownMap.meets (base, 512) then s.refuse .overlap
      else ({ s with phantom := some base } : State).accept := by
  have good : ¬((1 : Byte) ≠ 1 ∨ base % 512 ≠ 0) := by simp [aligned]
  simp only [State.placePhantom, if_neg (not_anyOpen closed), if_neg good]
  rfl

end

/-- Settles O24: one answer per check, in the orders of R20 and R52. -/
theorem guardAndPhantomCommands : Obligations.GuardAndPhantomCommands := by
  refine ⟨?guards, ?window⟩
  case guards =>
    intro s r stamp link direction base size c offered
    refine ⟨fun bad => exec_of_answer rfl offered (setGuard_of_no_such_argument bad), ?_⟩
    rintro l inbound names rfl
    have hl : linkArg link = some l := linkArg_eq_some names
    have hd := directionArg_directionByte inbound
    have runs {a : Answer}
        (answer : s.setGuard link (directionByte inbound) base.toNat size.toNat = a) :
        exec c s = .next (a.1.answer r a.2.1 a.2.2) := exec_of_answer rfl offered answer
    refine ⟨fun notClosed => runs (setGuard_of_not_closed hl hd notClosed), fun closed zero => ?_,
      fun closed nonzero bad => ?_, fun closed nonzero good meets => ?_,
      fun closed nonzero good free => ?_⟩
    · subst zero
      exact runs (setGuard_of_zero hl hd closed)
    · exact runs (setGuard_of_bad_region hl hd closed (long_toNat_ne_zero nonzero)
        (Bool.eq_false_iff.mpr (mt (guardLegal_iff _ _).mp bad)))
    · exact runs (setGuard_of_overlap hl hd closed (long_toNat_ne_zero nonzero)
        ((guardLegal_iff _ _).mpr good) meets)
    · exact runs (setGuard_of_good_region hl hd closed (long_toNat_ne_zero nonzero)
        ((guardLegal_iff _ _).mpr good) free)
  case window =>
    intro s r stamp present base c without offered
    have runs {a : Answer} (answer : s.placePhantom present base.toNat = a) :
        exec c s = .next (a.1.answer r a.2.1 a.2.2) := exec_of_answer rfl offered answer
    refine ⟨fun opened => runs (placePhantom_of_open opened), fun closed =>
      ⟨fun absent => ?_, fun nonzero bad => runs (placePhantom_of_bad closed nonzero bad), ?_, ?_⟩⟩
    · subst absent
      exact runs (placePhantom_of_absent closed)
    · rintro rfl aligned meets
      exact runs ((placePhantom_of_good closed aligned).trans (if_pos meets))
    · rintro rfl aligned free
      exact runs ((placePhantom_of_good closed aligned).trans
        (if_neg (Bool.eq_false_iff.mp free)))

/-! ### SET_RING and CLEAR_RING (R21, R22) -/

theorem ringLegal_iff (base slots : Nat) : ringLegal base slots = true ↔
    base % 16 = 0 ∧ 2 ≤ slots ∧ slots ≤ 256 ∧ base + 16 * slots ≤ 2 ^ 32 := by
  simp [ringLegal, and_assoc]

theorem freeRing_eq (s : State) (r : Option RingIndex) :
    s.freeRing r = match r with | some q => s.setRing q none | none => s := by
  cases r <;> rfl

/-- SET_RING rewrites the link's own ring record in place. -/
theorem ringFor_of_own {s : State} {l : LinkSlot} {inbound : Bool} {q : RingIndex}
    (own : (s.link l).ringOf inbound = some q) : s.ringFor l inbound = some q := by
  simp [State.ringFor, own]

theorem mem_allRings (q : RingIndex) : q ∈ allRings := by revert q; decide

theorem allRings_sorted : allRings.Pairwise (· < ·) := by decide

/-- The first element of a sorted list that passes a test is the one below which none passes. -/
theorem find?_of_first {n : Nat} {p : Fin n → Bool} {q : Fin n} : ∀ {xs : List (Fin n)},
    xs.Pairwise (· < ·) → q ∈ xs → p q = true → (∀ j, j < q → p j = false) → xs.find? p = some q
  | x :: xs, sorted, mem, passes, first => by
    rw [List.pairwise_cons] at sorted
    rcases List.mem_cons.mp mem with rfl | later
    · exact List.find?_cons_of_pos passes
    · rw [List.find?_cons_of_neg (by simp [first x (sorted.1 q later)])]
      exact find?_of_first sorted.2 later passes first

/-- A link without a ring takes the lowest-numbered free record. -/
theorem ringFor_of_first_free {s : State} {l : LinkSlot} {inbound : Bool} {q : RingIndex}
    (none_ : (s.link l).ringOf inbound = none) (free : s.ring q = none)
    (first : ∀ p, p < q → s.ring p ≠ none) : s.ringFor l inbound = some q := by
  have found : allRings.find? (fun r => (s.ring r).isNone) = some q :=
    find?_of_first allRings_sorted (mem_allRings q) (by simp [free])
      fun p below => by simpa [Option.isSome_iff_ne_none] using first p below
  simp [State.ringFor, none_, found]

section
variable {s : State} {link direction : Byte} {base slots : Nat} {l : LinkSlot} {inbound : Bool}

theorem registerRing_of_no_such_argument (h : 8 ≤ link.toNat ∨ 2 ≤ direction.toNat) :
    s.registerRing link direction base slots = s.refuse .badArgument := by
  rcases h with badLink | badDirection
  · simp [State.registerRing, linkArg_eq_none badLink]
  · simp [State.registerRing, directionArg_eq_none badDirection]

theorem removeRing_of_no_such_argument (h : 8 ≤ link.toNat ∨ 2 ≤ direction.toNat) :
    s.removeRing link direction = s.refuse .badArgument := by
  rcases h with badLink | badDirection
  · simp [State.removeRing, linkArg_eq_none badLink]
  · simp [State.removeRing, directionArg_eq_none badDirection]

variable (hl : linkArg link = some l) (hd : directionArg direction = some inbound)
include hl hd

theorem registerRing_of_not_closed (notClosed : (s.link l).state ≠ .closed) :
    s.registerRing link direction base slots = s.refuse .wrongState := by
  simp [State.registerRing, hl, hd, notClosed]

theorem registerRing_of_bad (closed : (s.link l).state = .closed)
    (bad : ringLegal base slots = false) :
    s.registerRing link direction base slots = s.refuse .badArgument := by
  simp [State.registerRing, hl, hd, closed, bad]

theorem registerRing_of_overlap (closed : (s.link l).state = .closed)
    (good : ringLegal base slots = true)
    (meets : (s.freeRing ((s.link l).ringOf inbound)).ownMap.meets (base, 16 * slots) = true) :
    s.registerRing link direction base slots = s.refuse .overlap := by
  simp [State.registerRing, hl, hd, closed, good, meets]

theorem registerRing_of_good {q : RingIndex} (closed : (s.link l).state = .closed)
    (good : ringLegal base slots = true)
    (free : (s.freeRing ((s.link l).ringOf inbound)).ownMap.meets (base, 16 * slots) = false)
    (record : s.ringFor l inbound = some q) :
    s.registerRing link direction base slots =
      ((s.setRing q (some ⟨l, !inbound, base, List.replicate slots SlotRecord.clear⟩)).setLink l
        ((s.link l).withRing inbound (some q))).accept := by
  simp [State.registerRing, hl, hd, closed, good, free, record]

theorem removeRing_of_not_closed (notClosed : (s.link l).state ≠ .closed) :
    s.removeRing link direction = s.refuse .wrongState := by
  simp [State.removeRing, hl, hd, notClosed]

theorem removeRing_of_closed (closed : (s.link l).state = .closed) :
    s.removeRing link direction = ((s.freeRing ((s.link l).ringOf inbound)).setLink l
      ((s.link l).withRing inbound none)).accept := by
  simp [State.removeRing, hl, hd, closed]

end

/-- A link record written over itself changes nothing. -/
theorem setLink_link_eq {s : State} {l : LinkSlot} {x : Link} (same : x = s.link l) :
    s.setLink l x = s := by
  subst same
  simp [State.setLink, State.link]

theorem withRing_none_of_none {x : Link} {inbound : Bool} (h : x.ringOf inbound = none) :
    x.withRing inbound none = x := by
  cases inbound <;> simp only [Link.ringOf, Link.withRing, if_true, Bool.false_eq_true, if_false]
    at h ⊢ <;> rw [← h]

theorem mapTable_set_get {α β : Type} {n : Nat} (v : Vector α n) (f : α → β) (i : Fin n) (x : α) :
    (mapTable (v.set i x) f)[i] = f x := by
  simp [mapTable]

/-- The map that comes into force with the result holds no area of a freed record. -/
theorem areas_resultLanded_setRing_none (s : State) (q : RingIndex) :
    (s.setRing q none).resultLanded.steering.map.areas[q] = none :=
  mapTable_set_get s.rings (fun r => r.map Ring.area) q none

/-- Settles O25: one answer per check, in the orders of R21 and R22. -/
theorem ringCommands : Obligations.RingCommands := by
  refine ⟨?register, ?remove⟩
  case register =>
    intro s r stamp link direction base slots c offered
    refine ⟨fun bad => exec_of_answer rfl offered (registerRing_of_no_such_argument bad), ?_⟩
    rintro l inbound names rfl
    have hl : linkArg link = some l := linkArg_eq_some names
    have hd := directionArg_directionByte inbound
    have runs {a : Answer}
        (answer : s.registerRing link (directionByte inbound) base.toNat slots.toNat = a) :
        exec c s = .next (a.1.answer r a.2.1 a.2.2) := exec_of_answer rfl offered answer
    intro own without legal taken
    have freed : without = s.freeRing ((s.link l).ringOf inbound) := (freeRing_eq s own).symm
    rw [freed]
    refine ⟨fun notClosed => runs (registerRing_of_not_closed hl hd notClosed),
      fun closed bad => ?_, fun closed good meets => ?_, fun closed good free => ⟨?_, ?_⟩⟩
    · exact runs (registerRing_of_bad hl hd closed
        (Bool.eq_false_iff.mpr (mt (ringLegal_iff _ _).mp bad)))
    · exact runs (registerRing_of_overlap hl hd closed ((ringLegal_iff _ _).mpr good) meets)
    · intro q own
      exact runs (registerRing_of_good hl hd closed ((ringLegal_iff _ _).mpr good) free
        (ringFor_of_own own))
    · intro q own unused first
      exact runs (registerRing_of_good hl hd closed ((ringLegal_iff _ _).mpr good) free
        (ringFor_of_first_free own unused first))
  case remove =>
    intro s r stamp link direction c offered
    refine ⟨fun bad => exec_of_answer rfl offered (removeRing_of_no_such_argument bad), ?_⟩
    rintro l inbound names rfl
    have hl : linkArg link = some l := linkArg_eq_some names
    have hd := directionArg_directionByte inbound
    have runs {a : Answer} (answer : s.removeRing link (directionByte inbound) = a) :
        exec c s = .next (a.1.answer r a.2.1 a.2.2) := exec_of_answer rfl offered answer
    refine ⟨fun notClosed => runs (removeRing_of_not_closed hl hd notClosed), fun closed own => ?_,
      fun closed q own => ⟨?_, areas_resultLanded_setRing_none s q⟩⟩
    · have own : (s.link l).ringOf inbound = none := own
      have same : s.freeRing ((s.link l).ringOf inbound) = s := by rw [own]; rfl
      have removed := removeRing_of_closed hl hd closed
      rw [same, withRing_none_of_none own, setLink_link_eq rfl] at removed
      exact runs removed
    · have own : (s.link l).ringOf inbound = some q := own
      have freed : s.freeRing ((s.link l).ringOf inbound) = s.setRing q none := by rw [own]; rfl
      have removed := removeRing_of_closed hl hd closed
      rw [freed] at removed
      exact runs removed

end Sys2Proof.Proofs.CommandAnswers
end


section
/-! PROOFS. Slot records and results: what a write of a slot record, a queued write and an answer change (R37, R47,
R180), the landings (R38, R171), and postings and fetches of the command ring (R177, R178). -/

namespace Sys2Proof.Proofs.SlotsAndResults
open Sys2Proof Sys2Proof.Machine

/-! ### Slot records -/

theorem slot_of_ring {s : State} {q : RingIndex} {ring : Ring} (h : s.ring q = some ring) (i : Nat) :
    s.slot q i = ring.slot i := by
  simp [State.slot, h]

theorem slot_of_no_ring {s : State} {q : RingIndex} (h : s.ring q = none) (i : Nat) :
    s.slot q i = SlotRecord.clear := by
  simp [State.slot, h]

/-- A slot record is read from the ring records alone. -/
theorem slot_eq_of_rings {s t : State} (h : t.rings = s.rings) (q : RingIndex) (i : Nat) :
    t.slot q i = s.slot q i := by
  simp only [State.slot, State.ring, h]

theorem slot_setSlot_ring (ring : Ring) {i j : Nat} (x : SlotRecord) (other : j ≠ i) :
    (ring.setSlot i x).slot j = ring.slot j := by
  simp [Ring.setSlot, Ring.slot, other.symm]

theorem slot_setSlot_self_ring (ring : Ring) {i : Nat} (x : SlotRecord)
    (within : i < ring.slots.length) : (ring.setSlot i x).slot i = x := by
  simp [Ring.setSlot, Ring.slot, within]

/-- Past the last slot a clear record is read, and a clear one written changes nothing. -/
theorem slot_setSlot_clear_ring (ring : Ring) (i : Nat) :
    (ring.setSlot i SlotRecord.clear).slot i = SlotRecord.clear := by
  by_cases within : i < ring.slots.length
  · exact slot_setSlot_self_ring ring _ within
  · simp [Ring.setSlot, Ring.slot, Nat.le_of_not_lt within]

theorem setSlot_of_ring {s : State} {q : RingIndex} {ring : Ring} (h : s.ring q = some ring)
    (i : Nat) (x : SlotRecord) : s.setSlot q i x = s.setRing q (some (ring.setSlot i x)) := by
  simp only [State.setSlot, h]

theorem setSlot_of_no_ring {s : State} {q : RingIndex} (h : s.ring q = none) (i : Nat)
    (x : SlotRecord) : s.setSlot q i x = s := by
  simp only [State.setSlot, h]

/-- A slot record written leaves every other one as it was. -/
theorem slot_setSlot_ne (s : State) {q p : RingIndex} {i j : Nat} (x : SlotRecord)
    (other : p ≠ q ∨ j ≠ i) : (s.setSlot q i x).slot p j = s.slot p j := by
  cases h : s.ring q with
  | none => rw [setSlot_of_no_ring h]
  | some ring =>
    rw [setSlot_of_ring h]
    by_cases same : p = q
    · subst same
      rw [slot_of_ring (State.setRing_ring_self ..), slot_of_ring h,
        slot_setSlot_ring _ _ (other.resolve_left (fun h => h rfl))]
    · simp only [State.slot, State.setRing_ring_ne _ _ (Ne.symm same)]

theorem slot_setSlot_self {s : State} {q : RingIndex} {ring : Ring} {i : Nat} (x : SlotRecord)
    (h : s.ring q = some ring) (within : i < ring.slots.length) : (s.setSlot q i x).slot q i = x := by
  rw [setSlot_of_ring h, slot_of_ring (State.setRing_ring_self ..),
    slot_setSlot_self_ring ring _ within]

theorem slot_setSlot_clear (s : State) (q : RingIndex) (i : Nat) :
    (s.setSlot q i SlotRecord.clear).slot q i = SlotRecord.clear := by
  cases h : s.ring q with
  | none => rw [setSlot_of_no_ring h, slot_of_no_ring h]
  | some ring =>
    rw [setSlot_of_ring h, slot_of_ring (State.setRing_ring_self ..), slot_setSlot_clear_ring]

/-- A slot record is a field of the ring records alone. -/
theorem setSlot_eq (s : State) (q : RingIndex) (i : Nat) (x : SlotRecord) :
    s.setSlot q i x = { s with rings := (s.setSlot q i x).rings } := by
  unfold State.setSlot
  split <;> rfl

theorem clearRing_eq (s : State) (r : Option RingIndex) :
    s.clearRing r = { s with rings := (s.clearRing r).rings } := by
  unfold State.clearRing
  split
  · rfl
  · split <;> rfl

theorem slot_cleared (ring : Ring) (i : Nat) : ring.cleared.slot i = SlotRecord.clear := by
  unfold Ring.slot Ring.cleared
  simp only [List.getD_eq_getElem?_getD, List.getElem?_map]
  cases ring.slots[i]? <;> rfl

/-- A ring cleared has every slot clear, and no other ring changes. -/
theorem slot_clearRing (s : State) (r : Option RingIndex) (q : RingIndex) (i : Nat) :
    (s.clearRing r).slot q i = if r = some q then SlotRecord.clear else s.slot q i := by
  cases r with
  | none => rfl
  | some p =>
    by_cases same : p = q
    · subst same
      rw [if_pos rfl]
      unfold State.clearRing
      cases h : s.ring p with
      | none => simp only [h, slot_of_no_ring]
      | some ring => simp only [h, slot_of_ring (State.setRing_ring_self ..), slot_cleared]
    · rw [if_neg (by simpa using same)]
      unfold State.clearRing
      cases h : s.ring p with
      | none => simp only [h]
      | some ring => simp only [h, State.slot, State.setRing_ring_ne _ _ same]

/-! ### Queued writes and answers (R47, R180) -/

theorem present_writes (m : InternalMaster) : m.present.writes = m.writes := by
  unfold InternalMaster.present
  (repeat' split) <;> rfl

theorem present_waitingWrites (m : InternalMaster) : m.present.waitingWrites = m.waitingWrites := by
  unfold InternalMaster.present
  (repeat' split) <;> rfl

theorem admitWrite_internal (s : State) (w : InternalWrite) : (s.admitWrite w).internal =
    ({ s.internal with writes := s.internal.writes ++ [w] } : InternalMaster).present := by
  unfold State.admitWrite
  dsimp only
  split <;> rfl

/-- A write queued is the last of those that have not been made. -/
theorem queueWrite_writes (s : State) (w : InternalWrite) :
    (s.queueWrite w).internal.writes ++ (s.queueWrite w).internal.waitingWrites =
      s.internal.writes ++ s.internal.waitingWrites ++ [w] := by
  unfold State.queueWrite
  split
  · rename_i room
    simp [admitWrite_internal, present_writes, present_waitingWrites, room.2]
  · simp

/-- A queued write changes the internal master, and posts what it announces. -/
theorem queueWrite_eq (s : State) (w : InternalWrite) : s.queueWrite w =
    { s with internal := (s.queueWrite w).internal, mail := (s.queueWrite w).mail } := by
  unfold State.queueWrite State.admitWrite
  dsimp only
  split
  · split <;> rfl
  · rfl

theorem queueWrite_mail_of_silent (s : State) {w : InternalWrite} (silent : w.announce = none) :
    (s.queueWrite w).mail = s.mail := by
  unfold State.queueWrite State.admitWrite
  simp only [silent]
  split <;> rfl

theorem answer_of_executing {s : State} {x : Executing} (executing : s.command.executing = some x)
    (r : List Byte) (code : ResultCode) (returned : List (Nat × List Byte)) :
    s.answer r code returned = ({ s with
      command := { s.command with executing := some { x with phase := .answered } } } :
        State).queueWrite ⟨s.entryAddress x.entry, resultEntry r code returned, .result x.entry,
          none⟩ := by
  simp only [State.answer, executing]

/-- An answer changes the command unit and the internal master alone. -/
theorem answer_eq (s : State) (r : List Byte) (code : ResultCode)
    (returned : List (Nat × List Byte)) : s.answer r code returned =
    { s with command := (s.answer r code returned).command
             internal := (s.answer r code returned).internal } := by
  cases h : s.command.executing with
  | none => simp only [State.answer, h]
  | some x =>
    rw [answer_of_executing h, queueWrite_eq, queueWrite_mail_of_silent _ rfl]

theorem byteAt_patch {bs new : List Byte} {at_ : Nat} (fits : at_ + new.length ≤ bs.length) (i : Nat) :
    byteAt (patch bs at_ new) i =
      if at_ ≤ i ∧ i < at_ + new.length then byteAt new (i - at_) else byteAt bs i := by
  unfold byteAt patch
  simp only [List.getD_eq_getElem?_getD, List.append_assoc, List.getElem?_append,
    List.length_take, List.getElem?_take, List.getElem?_drop]
  have takes : min at_ bs.length = at_ := by omega
  rw [takes]
  by_cases before : i < at_
  · rw [if_pos before, if_pos before, if_neg (by omega)]
  · by_cases within : i < at_ + new.length
    · rw [if_neg before, if_pos (by omega), if_pos (by omega)]
    · rw [if_neg before, if_neg (by omega), if_neg (by omega)]
      congr 2
      omega

theorem patch_length {bs new : List Byte} {at_ : Nat} (fits : at_ + new.length ≤ bs.length) :
    (patch bs at_ new).length = bs.length := by
  simp only [patch, List.length_append, List.length_take, List.length_drop]
  omega

/-- The returned bytes of a result stand where they fit, past its first three (R180). -/
def Fits (returned : List (Nat × List Byte)) : Prop :=
  returned = [] ∨ ∃ a bs, returned = [(a, bs)] ∧ 3 ≤ a ∧ a + bs.length ≤ 32

/-- A byte of the arguments in a result entry (R180). -/
def argumentByte (r : List Byte) (returned : List (Nat × List Byte)) (i : Nat) : Byte :=
  match returned with
  | (a, bs) :: _ => if a ≤ i ∧ i < a + bs.length then byteAt bs (i - a) else byteAt r i
  | [] => byteAt r i

/-- Nothing is returned in the first three bytes. -/
theorem argumentByte_head {r : List Byte} {returned : List (Nat × List Byte)} (fits : Fits returned)
    {i : Nat} (head : i < 3) : argumentByte r returned i = byteAt r i := by
  rcases fits with rfl | ⟨a, bs, rfl, from3, to32⟩
  · rfl
  · exact if_neg (by omega)

section
variable {r : List Byte} {returned : List (Nat × List Byte)} (code : ResultCode)
  (whole : r.length = 32) (fits : Fits returned)
include whole

/-- The three bytes before the arguments. -/
theorem byteAt_resultHead (i : Nat) : byteAt (patch (patch r 0 [0x03#8]) 2 [code.byte]) i =
    if i = 0 then 0x03#8 else if i = 2 then code.byte else byteAt r i := by
  have first : 0 + ([0x03#8] : List Byte).length ≤ r.length := by simp [whole]
  rw [byteAt_patch (by rw [patch_length first]; simp [whole]), byteAt_patch first]
  simp only [List.length_singleton]
  by_cases zero : i = 0
  · subst zero; rfl
  · by_cases two : i = 2
    · subst two; rfl
    · rw [if_neg (by omega), if_neg (by omega), if_neg zero, if_neg two]

theorem resultHead_length : (patch (patch r 0 [0x03#8]) 2 [code.byte]).length = 32 := by
  have first : 0 + ([0x03#8] : List Byte).length ≤ r.length := by simp [whole]
  rw [patch_length (by rw [patch_length first]; simp [whole]), patch_length first, whole]

include fits

theorem resultEntry_length : (resultEntry r code returned).length = 32 := by
  rcases fits with rfl | ⟨a, bs, rfl, from3, to32⟩
  · exact resultHead_length code whole
  · have head := resultHead_length code whole
    exact (patch_length (by rw [head]; exact to32)).trans head

/-- The result entry byte by byte (R180). -/
theorem byteAt_resultEntry (i : Nat) : byteAt (resultEntry r code returned) i =
    if i = 0 then 0x03#8 else if i = 2 then code.byte else argumentByte r returned i := by
  rcases fits with rfl | ⟨a, bs, rfl, from3, to32⟩
  · exact byteAt_resultHead code whole i
  · have head := resultHead_length code whole
    have bytes := byteAt_patch (bs := patch (patch r 0 [0x03#8]) 2 [code.byte]) (new := bs)
      (at_ := a) (by rw [head]; exact to32) i
    rw [byteAt_resultHead code whole] at bytes
    refine bytes.trans ?_
    unfold argumentByte
    dsimp only
    by_cases inside : a ≤ i ∧ i < a + bs.length
    · rw [if_pos inside, if_neg (by omega), if_neg (by omega), if_pos inside]
    · rw [if_neg inside, if_neg inside]

end

/-- Settles O21: the result entry byte by byte, and the write that carries it. -/
theorem resultEntryIsWritten : Obligations.ResultEntryIsWritten := by
  intro s x r code returned executing whole fits
  have byte := byteAt_resultEntry code whole fits
  refine ⟨resultEntry r code returned, resultEntry_length code whole fits, byte 0, ?_, byte 2,
    fun i from3 to32 => ?_, answer_of_executing executing r code returned⟩
  · exact (byte 1).trans (argumentByte_head fits (by decide))
  · rw [byte, if_neg (by omega), if_neg (by omega)]
    rfl

/-! ### Landings (R38, R48, R171) -/

theorem exec_internalWriteLanded {s : State} {use : WriteUse} {rest : List Completion}
    (h : s.completions = .landed use :: rest) : exec .internalWriteLanded s =
      .next (({ s with completions := rest } : State).landed use).resume := by
  simp only [exec, execInternalWriteLanded, State.takeCompletion, h]

theorem resultLanded_eq (s : State) (rest : List Completion) (e : EntryIndex) :
    ({ s with completions := rest } : State).landed (.result e) =
      { s with
        completions := rest
        command := ⟨s.command.queue.tail, none⟩
        steering := { s.steering with map := s.ownMap } } := rfl

/-- A record lands while no SET_REPORT_RING waits for it. -/
theorem finishReportRing_of_not_waiting {s : State}
    (h : ∀ entry record new, s.command.executing ≠ some ⟨entry, .replacingRing record new⟩) :
    s.finishReportRing = s := by
  unfold State.finishReportRing
  split
  · rename_i entry record ring e
    exact absurd e (h entry record ring)
  · rfl

/-- Settles O18: one case per use of a landed write. -/
theorem internalWritesLand : Obligations.InternalWritesLand := by
  intro s rest
  refine ⟨?replacement, ?result, ?record⟩
  case replacement =>
    intro q i lands
    have shape : ({ s with completions := rest } : State).replacementLanded q i =
        { ({ s with completions := rest } : State) with
          rings := (({ s with completions := rest } : State).replacementLanded q i).rings } :=
      setSlot_eq _ q i SlotRecord.clear
    refine ⟨_, exec_internalWriteLanded lands, slot_setSlot_clear _ q i,
      fun p j other => slot_setSlot_ne { s with completions := rest } SlotRecord.clear other, ?_⟩
    dsimp only [State.landed]
    rw [shape]
    exact ⟨rfl, rfl, rfl, rfl, rfl⟩
  case result =>
    intro e lands
    rw [exec_internalWriteLanded lands, resultLanded_eq]
  case record =>
    intro e ring lands present
    have entries : (s.reports.ring.map (·.entries)).getD 1 = ring.entries := by rw [present]; rfl
    rw [exec_internalWriteLanded lands]
    simp only [State.landed, State.recordLanded, entries]
    refine ⟨fun idle => ?_, fun entry record new waits => ?_⟩
    · rw [finishReportRing_of_not_waiting (by exact idle)]
    · simp only [State.finishReportRing, waits]
      rfl

/-! ### Postings and fetches (R176 to R178) -/

theorem exec_commandPosting {s : State} {e : EntryIndex} {v : Byte} {rest : List Completion}
    (h : s.completions = .commandWrite e v :: rest) : exec .commandPosting s =
      .next (({ s with completions := rest } : State).commandObserved e v) := by
  simp only [exec, execCommandPosting, State.takeCompletion, h]

/-- Settles O19: the observation by its value and the queue, the fetch by what executes. -/
theorem postingsAndFetches : Obligations.PostingsAndFetches := by
  refine ⟨fun s e v rest waits => ⟨?posts, ?ignored⟩, fun s => ⟨?fetches, ?idle⟩⟩
  case posts =>
    rintro posted new
    rw [exec_commandPosting waits]
    exact congrArg Host.Outcome.next (if_pos ⟨posted, new⟩)
  case ignored =>
    intro other
    rw [exec_commandPosting waits]
    refine congrArg Host.Outcome.next (if_neg ?_)
    rintro ⟨posted, new⟩
    exact other.elim (fun h => h posted) new
  case fetches =>
    intro e rest idle waiting
    simp only [exec, execCommandFetch, idle, waiting]
    rfl
  case idle =>
    intro h
    simp only [exec, execCommandFetch]
    split
    · rename_i idle waiting
      rw [idle, waiting] at h
      rcases h with h | h <;> cases h
    · rfl

end Sys2Proof.Proofs.SlotsAndResults
end


section
/-! PROOFS. A link opened, drained and closed (R23 to R25), its snapshot and its filter (R27, R100). -/

namespace Sys2Proof.Proofs.LinkSessions
open Sys2Proof Sys2Proof.Machine
open Sys2Proof.Proofs.CommandAnswers Sys2Proof.Proofs.SlotsAndResults

/-! ### OPEN_LINK (R23) -/

theorem configured_eq_false {x : Link} (h : x.wireId = none ∨ x.outRing = none ∨ x.inRing = none ∨
    x.transmit = none ∨ x.receive = none) : x.configured = false := by
  rcases h with h | h | h | h | h <;> simp [Link.configured, h]

section
variable {s : State} {link : Byte} {l : LinkSlot} (hl : linkArg link = some l)
include hl

theorem openLink_of_not_closed (notClosed : (s.link l).state ≠ .closed) :
    s.openLink link = s.refuse .wrongState := by
  simp [State.openLink, hl, notClosed]

theorem openLink_of_not_configured (closed : (s.link l).state = .closed)
    (lacks : (s.link l).configured = false) : s.openLink link = s.refuse .badArgument := by
  simp [State.openLink, hl, closed, lacks]

theorem openLink_of_configured (closed : (s.link l).state = .closed)
    (has : (s.link l).configured = true) : s.openLink link =
      (((s.setLink l ((s.link l).opened s.time.rawTick)).clearRing (s.link l).outRing).clearRing
        (s.link l).inRing).accept := by
  simp [State.openLink, hl, closed, has]

end

/-- Two rings cleared change the ring records alone. -/
theorem clearRing_clearRing_eq (s : State) (p q : Option RingIndex) :
    (s.clearRing p).clearRing q = { s with rings := ((s.clearRing p).clearRing q).rings } := by
  rw [clearRing_eq (s.clearRing p) q, clearRing_eq s p]

theorem slot_clearRing_clearRing (s : State) (p q : Option RingIndex) (o : RingIndex) (i : Nat) :
    ((s.clearRing p).clearRing q).slot o i =
      if q = some o ∨ p = some o then SlotRecord.clear else s.slot o i := by
  rw [slot_clearRing, slot_clearRing]
  by_cases hq : q = some o
  · rw [if_pos hq, if_pos (.inl hq)]
  · rw [if_neg hq]
    by_cases hp : p = some o
    · rw [if_pos hp, if_pos (.inr hp)]
    · rw [if_neg hp, if_neg (by tauto)]

/-- Settles O26: one answer per check, and the record as it opens. -/
theorem openLinkOpensTheLink : Obligations.OpenLinkOpensTheLink := by
  intro s r stamp link offered
  have runs {a : Answer} (answer : s.openLink link = a) :
      exec (.openLink link) s = .next (a.1.answer r a.2.1 a.2.2) :=
    exec_of_answer rfl offered answer
  refine ⟨fun bad => runs (by simp only [State.openLink, linkArg_eq_none bad]; rfl), fun l names => ?_⟩
  have hl : linkArg link = some l := linkArg_eq_some names
  refine ⟨fun notClosed => runs (openLink_of_not_closed hl notClosed), fun closed lacks =>
    runs (openLink_of_not_configured hl closed (configured_eq_false lacks)), ?_⟩
  intro p q closed wire outRing inRing transmit receive
  have has : (s.link l).configured = true := by
    simp [Link.configured, wire, outRing, inRing, transmit, receive]
  let opened := s.setLink l ((s.link l).opened s.time.rawTick)
  refine ⟨_, runs (openLink_of_configured hl closed has), ?_, ?_, ?_, ?_, ?_⟩
  · dsimp only [State.accept]
    rw [clearRing_clearRing_eq]
    exact State.setLink_link_self ..
  · intro m other
    dsimp only [State.accept]
    rw [clearRing_clearRing_eq]
    exact State.setLink_link_ne _ _ other.symm
  · intro i
    dsimp only [State.accept]
    simp only [slot_clearRing_clearRing, outRing, inRing, true_or, or_true, if_true, and_self]
  · intro o i notOut notIn
    dsimp only [State.accept]
    rw [slot_clearRing_clearRing, if_neg (by simp [outRing, inRing, notOut.symm, notIn.symm])]
    rfl
  · dsimp only [State.accept]
    rw [clearRing_clearRing_eq]
    exact ⟨rfl, rfl, rfl, rfl, rfl, rfl⟩

/-! ### CLOSE_LINK (R24) -/

/-- Settles O27: the refusals, and the drain that begins. -/
theorem closeLinkStartsTheDrain : Obligations.CloseLinkStartsTheDrain := by
  intro s r stamp link offered
  refine ⟨fun bad => ?_, fun l names => ⟨fun closed => ?_, fun x executing opened => ?_⟩⟩
  · simp only [exec, execCloseLink, offered, linkArg_eq_none bad]
  · simp only [exec, execCloseLink, offered, linkArg_eq_some names, closed]
  · have drains : s.startDrain l r stamp = { s.setLink l { s.link l with
        state := .closing, drainStart := some stamp } with
          command := { s.command with executing := some { x with phase := .closing r l } } } := by
      simp only [State.startDrain, State.setLink_command, executing]
    rcases opened with state | state | state <;>
      simp only [exec, execCloseLink, offered, linkArg_eq_some names, state, drains]

/-! ### The transition to CLOSED (R25) -/

theorem drained_iff (s : State) (l : LinkSlot) : s.drained l = true ↔
    (s.link l).state = .closing ∧ (s.link l).outContext = none ∧ (s.link l).inContext = none ∧
      s.pendingSlots (s.link l).outRing = 0 ∧ s.pendingSlots (s.link l).inRing = 0 ∧
      ∀ j ∈ s.keys.jobs, j.link ≠ l := by
  simp [State.drained, and_assoc]

/-- What the transition to CLOSED does before a waiting CLOSE_LINK is answered. -/
def closing (s : State) (l : LinkSlot) : State :=
  (((((s.emptyKeysOf l).setLink l (s.link l).closed).clearRing (s.link l).outRing).clearRing
    (s.link l).inRing).dropNotices l).post .linkUnit (some l) .linkClosed

theorem closeLink_eq (s : State) (l : LinkSlot) : s.closeLink l = (closing s l).answerClose l := rfl

/-- Its footprint: the keys, the links, the ring records and the hand-overs. -/
theorem closing_eq (s : State) (l : LinkSlot) : closing s l =
    { ((s.emptyKeysOf l).setLink l (s.link l).closed).dropNotices l with
      rings := (closing s l).rings
      mail := (closing s l).mail } := by
  unfold closing
  rw [clearRing_clearRing_eq]
  rfl

theorem closing_reports (s : State) (l : LinkSlot) : (closing s l).mail.reports =
    s.mail.reports ++ [(.linkUnit, ⟨.linkClosed, some l, 0⟩)] := by
  unfold closing
  rw [clearRing_clearRing_eq]
  rfl

theorem closing_slot (s : State) (l : LinkSlot) (q : RingIndex) (i : Nat) : (closing s l).slot q i =
    if (s.link l).inRing = some q ∨ (s.link l).outRing = some q then SlotRecord.clear
    else s.slot q i := by
  rw [← slot_eq_of_rings (s := s) (t := (s.emptyKeysOf l).setLink l (s.link l).closed) rfl q i,
    ← slot_clearRing_clearRing]
  rfl

/-- The answer to a CLOSE_LINK changes the command unit and the internal master alone. -/
theorem answerClose_eq (s : State) (l : LinkSlot) : s.answerClose l =
    { s with command := (s.answerClose l).command, internal := (s.answerClose l).internal } := by
  unfold State.answerClose
  split
  · split
    · exact answer_eq ..
    · rfl
  · rfl

theorem answerClose_of_waiting {s : State} {l : LinkSlot} {entry : EntryIndex} {record : List Byte}
    (waits : s.command.executing = some ⟨entry, .closing record l⟩) :
    s.answerClose l = s.answer record .ok [] := by
  simp only [State.answerClose, waits, if_true]

theorem answerClose_of_not_waiting {s : State} {l : LinkSlot}
    (idle : ∀ entry record, s.command.executing ≠ some ⟨entry, .closing record l⟩) :
    s.answerClose l = s := by
  unfold State.answerClose
  split
  · rename_i entry record m e
    refine if_neg fun same => ?_
    subst same
    exact idle entry record e
  · rfl

/-- The result entry of a command that returns nothing. -/
theorem drop_resultEntry {r : List Byte} (code : ResultCode) (whole : r.length = 32) :
    (resultEntry r code []).drop 3 = r.drop 3 := by
  have fits : Fits [] := .inl rfl
  have same : (resultEntry r code []).length = r.length := by
    rw [resultEntry_length code whole fits, whole]
  refine List.ext_getElem (by simp [same]) fun i h h' => ?_
  have byte := byteAt_resultEntry code whole fits (3 + i)
  rw [if_neg (by omega), if_neg (by omega)] at byte
  simp only [List.length_drop] at h h'
  simpa [byteAt, argumentByte, List.getElem?_eq_getElem (show 3 + i < r.length by omega),
    List.getElem?_eq_getElem (show 3 + i < (resultEntry r code []).length by omega)] using byte

/-- Settles O28: the test, the footprint of the transition, and the answer that it may give. -/
theorem drainedLinksClose : Obligations.DrainedLinksClose := by
  intro s l
  refine ⟨fun not => if_neg (by simp [not]), drained_iff s l, fun drained => ?_⟩
  have closes : s.closeIfDrained l = (closing s l).answerClose l := if_pos drained
  rw [closes]
  have command : (closing s l).command = s.command := 
    (congrArg State.command (closing_eq s l)).trans rfl
  have internal : (closing s l).internal = s.internal := 
    (congrArg State.internal (closing_eq s l)).trans rfl
  have steering : (closing s l).steering = s.steering := 
    (congrArg State.steering (closing_eq s l)).trans rfl
  have links (m : LinkSlot) : ((closing s l).answerClose l).link m =
      ((s.emptyKeysOf l).setLink l (s.link l).closed).link m := by
    rw [answerClose_eq, closing_eq]
    rfl
  have slots (q : RingIndex) (i : Nat) :
      ((closing s l).answerClose l).slot q i = (closing s l).slot q i :=
    slot_eq_of_rings (congrArg State.rings (answerClose_eq (closing s l) l)) q i
  refine ⟨?link, ?others, ?keys, ?cleared, ?kept, ?reports, ?answered, ?silent, ?still⟩
  case link => exact (links l).trans (State.setLink_link_self ..)
  case others => exact fun m other => (links m).trans (State.setLink_link_ne _ _ other.symm)
  case keys =>
    intro k
    rw [answerClose_eq, closing_eq]
    exact State.mapKeys_key s _ k
  case cleared =>
    intro q i own
    rw [slots, closing_slot, if_pos own.symm]
  case kept =>
    intro q i notOut notIn
    rw [slots, closing_slot, if_neg (by tauto)]
  case reports =>
    rw [answerClose_eq]
    exact closing_reports s l
  case answered =>
    intro entry record waits whole
    have fits : Fits [] := .inl rfl
    have waits' : (closing s l).command.executing = some ⟨entry, .closing record l⟩ := by
      rw [command, waits]
    have byte := byteAt_resultEntry ResultCode.ok whole fits
    rw [answerClose_of_waiting waits', answer_of_executing waits']
    refine ⟨?_, resultEntry record .ok [], ?_, resultEntry_length _ whole fits, byte 0,
      (byte 1).trans rfl, byte 2, drop_resultEntry _ whole⟩
    · rw [queueWrite_eq]
      dsimp only
      rw [command]
    · refine (queueWrite_writes _ _).trans ?_
      simp only [internal, State.entryAddress, steering]
  case silent =>
    intro idle
    rw [answerClose_of_not_waiting (by rw [command]; exact idle)]
    exact ⟨command, internal⟩
  case still => rw [← closes, still_closeIfDrained]

/-! ### QUERY_LINK and RESET_FILTER (R27, R100) -/

/-- The five flags of the snapshot, bit by bit (12.4). -/
theorem queryFlags_bits (s : State) (l : LinkSlot) :
    (s.queryFlags l).getLsbD 0 = (s.currentKey l).any (fun k => (s.key k).state == .overdue) ∧
      (s.queryFlags l).getLsbD 1 = (s.link l).health.silent ∧
      (s.queryFlags l).getLsbD 2 = (s.link l).outContext.isSome ∧
      (s.queryFlags l).getLsbD 3 = (s.link l).inContext.isSome ∧
      (s.queryFlags l).getLsbD 4 = (s.link l).kek.isSome := by
  unfold State.queryFlags
  dsimp only
  generalize (s.currentKey l).any (fun k => (s.key k).state == .overdue) = b0
  generalize (s.link l).health.silent = b1
  generalize (s.link l).outContext.isSome = b2
  generalize (s.link l).inContext.isSome = b3
  generalize (s.link l).kek.isSome = b4
  revert b0 b1 b2 b3 b4
  decide

theorem leBytes_epochOf (s : State) (k : Option KeyIndex) : leBytes 2 (s.epochOf k) =
    match k with | some k => leBytes 2 (s.key k).epoch.toNat | none => [0x00#8, 0x00#8] := by
  cases k with
  | none => simp [State.epochOf, leBytes]
  | some k => rfl

/-- Settles O30: QUERY_LINK by the bytes of its snapshot, RESET_FILTER by its check. -/
theorem queryAndFilterCommands : Obligations.QueryAndFilterCommands := by
  refine ⟨?query, ?filter⟩
  case query =>
    intro s r stamp link offered
    have runs {a : Answer} (answer : s.queryLink link = a) :
        exec (.queryLink link) s = .next (a.1.answer r a.2.1 a.2.2) :=
      exec_of_answer rfl offered answer
    refine ⟨fun bad => runs (by simp only [State.queryLink, linkArg_eq_none bad]; rfl),
      fun l names => ?_⟩
    have answer : s.queryLink link = (s, .ok, [(4, s.snapshot l)]) := by
      simp only [State.queryLink, linkArg_eq_some names]
    obtain ⟨bit0, bit1, bit2, bit3, bit4⟩ := queryFlags_bits s l
    refine ⟨s.snapshot l, runs answer, rfl, rfl, rfl, leBytes_epochOf s _, ?_, bit1, bit2, bit3,
      bit4, leBytes_epochOf s _, leBytes_epochOf s _, rfl, rfl, rfl, rfl, rfl⟩
    refine (Bool.eq_iff_iff.mp bit0).trans ?_
    simp [Option.any_eq_true]
  case filter =>
    intro s r stamp link offered
    have runs {a : Answer} (answer : s.resetFilter link = a) :
        exec (.resetFilter link) s = .next (a.1.answer r a.2.1 a.2.2) :=
      exec_of_answer rfl offered answer
    refine ⟨fun bad => runs (by simp only [State.resetFilter, linkArg_eq_none bad]; rfl),
      fun l names => runs (by simp only [State.resetFilter, linkArg_eq_some names]; rfl)⟩

end Sys2Proof.Proofs.LinkSessions
end


section
/-! PROOFS. The time base's commands, beacons and ticks (R134, R139, R140, R144 to R149, R155), and the monitor's
commands and hand-overs (R154, R158, R160, R162, R164, R165). -/

namespace Sys2Proof.Proofs.ClockAndMonitor
open Sys2Proof Sys2Proof.Machine
open Sys2Proof.Proofs.CommandAnswers Sys2Proof.Proofs.OscillatorDiscipline
open Sys2Proof.Proofs.HealthMonitor

/-! ### CONFIG_CLOCK and MEASURE_CLOCK (R139, R149) -/

theorem measure_of_idle {s : State} (idle : s.time.measurement = none) : s.measure =
    ({ s with time := { s.time with
      measurement := some ⟨s.time.fRef, s.time.k, false, false, 0, 0⟩ } } : State).accept := by
  simp only [State.measure, TimeBase.startMeasurement, idle]

theorem measure_of_measuring {s : State} (running : s.time.measurement.isSome = true) :
    s.measure = s.refuse .busy := by
  obtain ⟨m, running⟩ := Option.isSome_iff_exists.mp running
  simp only [State.measure, running]

/-- Settles O42: the two commands by their checks, the window's first tick, and automatic starts. -/
theorem clockCommandsConfigureAndMeasure : Obligations.ClockCommandsConfigureAndMeasure := by
  refine ⟨?config, ?measure, ?opens, ?dropped, ?off⟩
  case config =>
    intro s r stamp fRef k period c offered
    have runs {a : Answer} (answer : s.configureClock fRef.toNat k period = a) :
        exec c s = .next (a.1.answer r a.2.1 a.2.2) := exec_of_answer rfl offered answer
    exact ⟨fun bad => runs (if_pos bad), fun low high kLow kHigh => runs (if_neg (by omega))⟩
  case measure =>
    intro s r stamp offered
    have runs {a : Answer} (answer : s.measure = a) :
        exec .measureClock s = .next (a.1.answer r a.2.1 a.2.2) := exec_of_answer rfl offered answer
    exact ⟨fun idle => runs (measure_of_idle idle), fun running => runs (measure_of_measuring running)⟩
  case opens => exact fun m closed => if_neg (by simp [closed])
  case dropped =>
    intro s running on reached
    obtain ⟨m, running⟩ := Option.isSome_iff_exists.mp running
    refine congrArg (fun t => Host.Outcome.next { s with time := t }) ?_
    rw [autoStart_of_due on reached, startMeasurement_eq]
    simp only [running]
  case off =>
    intro t off
    rw [countAuto_of_off off, autoStart_of_not_due (.inl off)]

/-! ### SET_TIME and the beacons (R144 to R147) -/

theorem delta_eq (t : TimeBase) (seconds : Long) (fraction : Half) : t.delta seconds fraction =
    ((seconds.toNat : Int) * 32768 + (fraction.toNat / 2 : Nat)) -
      ((t.seconds.toNat : Int) * 32768 + t.ticks) := by
  simp [TimeBase.delta]

theorem stepTime_eq (s : State) (seconds : Long) (fraction : Half) (byCommand : Bool) :
    s.stepTime seconds fraction byCommand = { s with
      time := s.time.stepTo seconds fraction
      mail := { s.mail with reports := s.mail.reports ++ [(.timeBase,
        ⟨.timeStepped (saturate32 (s.time.delta seconds fraction)) seconds byCommand s.time.valid,
          none, 0⟩)] } } := rfl

theorem exec_beaconAbsorb_of_waiting {s : State} {l : LinkSlot} {p : List Byte}
    {before rest : List (LinkSlot × List Byte)} (waiting : s.mail.beacons = before ++ (l, p) :: rest)
    (first : ∀ b ∈ before, b.1 ≠ l) : exec (.beaconAbsorb l) s = .next
      (({ s with mail := { s.mail with beacons := before ++ rest } } : State).absorbBeacon p) := by
  have taken : takeFirst (fun b => b.1 == l) s.mail.beacons = some ((l, p), before ++ rest) := by
    rw [waiting]
    exact takeFirst_append (by simpa using first) (by simp)
  simp only [exec, execBeaconAbsorb, taken]

/-- Settles O43: SET_TIME steps, a beacon steps or slews by R145's test. -/
theorem timeStepsAndSlews : Obligations.TimeStepsAndSlews := by
  unfold Obligations.TimeStepsAndSlews
  intro delta held stepped
  have deltas (t : TimeBase) (seconds : Long) (fraction : Half) :
      delta t seconds.toNat fraction.toNat = t.delta seconds fraction :=
    (delta_eq t seconds fraction).symm
  refine ⟨?command, ?beacon⟩
  case command =>
    intro s r stamp seconds fraction offered
    simp only [stepped, deltas]
    exact exec_of_answer (f := fun s => s.applyTime seconds fraction) rfl offered rfl
  case beacon =>
    intro s l p before rest waiting first t seconds fraction d
    have moved : d = t.time.delta seconds fraction := deltas s.time seconds fraction
    rw [exec_beaconAbsorb_of_waiting waiting first]
    refine ⟨fun valid noStep near => ?_, fun steps => ?_⟩
    · refine congrArg Host.Outcome.next ?_
      rw [moved] at near ⊢
      refine if_neg ?_
      rintro (invalid | step | far)
      · exact Bool.false_ne_true (invalid.symm.trans valid)
      · exact Bool.false_ne_true (noStep.symm.trans step)
      · exact absurd far (Nat.not_lt.mpr near)
    · refine congrArg Host.Outcome.next ?_
      rw [moved] at steps
      refine (if_pos steps).trans ((stepTime_eq t seconds fraction false).trans ?_)
      simp only [stepped, deltas]
      rfl

/-! ### CONFIG_MONITOR and RELEASE_LINK (R160, R165) -/

section
variable {s : State} {link : Byte} {t d u : Half} {i m n options : Byte} {l : LinkSlot}

theorem configureMonitor_of_bad (bad : 8 ≤ link.toNat ∨ t = 0 ∨ i = 0 ∨ n = 0) :
    s.configureMonitor link t d u i m n options = s.refuse .badArgument := by
  unfold State.configureMonitor
  split
  · rfl
  · rename_i isLink
    refine if_pos (bad.resolve_left fun high => ?_)
    rw [linkArg_eq_none high] at isLink
    cases isLink

theorem configureMonitor_of_good (hl : linkArg link = some l) (ht : t ≠ 0) (hi : i ≠ 0)
    (hn : n ≠ 0) : s.configureMonitor link t d u i m n options =
      (s.setLink l { s.link l with health := { (s.link l).health with
        t := t.toNat, d := d.toNat, u := u.toNat, i := i.toNat, m := m.toNat, r := n.toNat,
        noBuffer := options.getLsbD 0 } }).accept := by
  unfold State.configureMonitor
  rw [hl]
  exact if_neg (not_or.mpr ⟨ht, not_or.mpr ⟨hi, hn⟩⟩)

theorem releaseLink_of_not_quarantined (hl : linkArg link = some l)
    (other : (s.link l).state ≠ .quarantined) : s.releaseLink link = s.refuse .wrongState := by
  unfold State.releaseLink
  rw [hl]
  exact if_pos other

theorem releaseLink_of_quarantined (hl : linkArg link = some l)
    (quarantined : (s.link l).state = .quarantined) : s.releaseLink link =
      ((s.setLink l { s.link l with
        state := .keyed, health := { (s.link l).health with e := 0, a := 0 } }).post
          .healthMonitor (some l) (.linkReleased .command (s.link l).health.e
            (s.link l).health.a)).accept := by
  unfold State.releaseLink
  rw [hl]
  exact if_neg (fun other => other quarantined)

end

/-- Settles O47: the two commands by their checks. -/
theorem monitorCommands : Obligations.MonitorCommands := by
  refine ⟨?config, ?release⟩
  case config =>
    intro s r stamp link t d u i m n options c offered
    have runs {a : Answer} (answer : s.configureMonitor link t d u i m n options = a) :
        exec c s = .next (a.1.answer r a.2.1 a.2.2) := exec_of_answer rfl offered answer
    exact ⟨fun bad => runs (configureMonitor_of_bad bad), fun l names ht hi hn =>
      runs (configureMonitor_of_good (linkArg_eq_some names) ht hi hn)⟩
  case release =>
    intro s r stamp link offered
    have runs {a : Answer} (answer : s.releaseLink link = a) :
        exec (.releaseLink link) s = .next (a.1.answer r a.2.1 a.2.2) :=
      exec_of_answer rfl offered answer
    refine ⟨fun bad => runs (by simp only [State.releaseLink, linkArg_eq_none bad]; rfl),
      fun l names => ⟨fun other => runs (releaseLink_of_not_quarantined (linkArg_eq_some names)
        other), fun quarantined => runs (releaseLink_of_quarantined (linkArg_eq_some names)
          quarantined)⟩⟩

/-! ### Silence, arrivals, no-buffer events and quarantine (R154, R158, R162, R164) -/

theorem isOpen_iff (x : LinkState) : x.isOpen = true ↔ x ≠ .closed := by cases x <;> simp [LinkState.isOpen]

section
variable {s : State} {l : LinkSlot}

theorem exec_verifiedArrival_of_waiting {before rest : List LinkSlot}
    (waiting : s.mail.arrivals = before ++ l :: rest) (first : l ∉ before) :
    exec (.verifiedArrival l) s = .next
      (({ s with mail := { s.mail with arrivals := before ++ rest } } : State).takeArrival l) := by
  have taken : takeFirst (· == l) s.mail.arrivals = some (l, before ++ rest) := by
    rw [waiting]
    exact takeFirst_append (fun x h => beq_eq_false_iff_ne.mpr (ne_of_mem_of_not_mem h first)) (by simp)
  simp only [exec, execVerifiedArrival, taken]

theorem exec_noBufferEvent_of_waiting {before rest : List LinkSlot}
    (waiting : s.mail.noBuffers = before ++ l :: rest) (first : l ∉ before) :
    exec (.noBufferEvent l) s = .next
      (({ s with mail := { s.mail with noBuffers := before ++ rest } } : State).takeNoBuffer l) := by
  have taken : takeFirst (· == l) s.mail.noBuffers = some (l, before ++ rest) := by
    rw [waiting]
    exact takeFirst_append (fun x h => beq_eq_false_iff_ne.mpr (ne_of_mem_of_not_mem h first)) (by simp)
  simp only [exec, execNoBufferEvent, taken]

theorem exec_quarantineRequest_of_waiting {a : Nat} {before rest : List (LinkSlot × Nat)}
    (waiting : s.mail.quarantines = before ++ (l, a) :: rest) (first : ∀ q ∈ before, q.1 ≠ l) :
    exec (.quarantineRequest l) s = .next
      (({ s with mail := { s.mail with quarantines := before ++ rest } } : State).quarantine l a) := by
  have taken : takeFirst (fun q => q.1 == l) s.mail.quarantines = some ((l, a), before ++ rest) := by
    rw [waiting]
    exact takeFirst_append (by simpa using first) (by simp)
  simp only [exec, execQuarantineRequest, taken]

end

/-- Settles O49: each of the monitor's four hand-overs by its test. -/
theorem silenceArrivalsAndQuarantine : Obligations.SilenceArrivalsAndQuarantine := by
  intro s l h posted
  refine ⟨?enters, ?stays, ?arrivals, ?noBuffers, ?quarantines⟩
  case enters =>
    intro opened period reached heard
    refine congrArg Host.Outcome.next (if_pos ?_)
    exact ⟨(isOpen_iff _).mpr opened, period, reached, heard⟩
  case stays =>
    intro early
    refine congrArg Host.Outcome.next (if_neg ?_)
    rw [isOpen_iff]
    rintro ⟨opened, period, reached, -⟩
    rcases early with closed | off | short
    · exact opened closed
    · exact period off
    · exact absurd reached (Nat.not_le.mpr short)
  case arrivals =>
    intro before rest waiting first t heard
    rw [exec_verifiedArrival_of_waiting waiting first]
    refine ⟨fun closed => ?_, fun opened open_ => ?_, fun opened silent => ?_⟩
    · exact congrArg Host.Outcome.next (if_pos closed)
    · exact congrArg Host.Outcome.next ((if_neg opened).trans (if_neg (Bool.eq_false_iff.mp open_)))
    · exact congrArg Host.Outcome.next ((if_neg opened).trans (if_pos silent))
  case noBuffers =>
    intro before rest waiting first t
    rw [exec_noBufferEvent_of_waiting waiting first]
    refine ⟨fun opened on => ?_, fun off => ?_⟩
    · exact congrArg Host.Outcome.next (if_pos ⟨(isOpen_iff _).mpr opened, on⟩)
    · refine congrArg Host.Outcome.next (if_neg ?_)
      rintro ⟨opened, on⟩
      rcases off with closed | off
      · exact (isOpen_iff _).mp opened closed
      · exact Bool.false_ne_true (off.symm.trans on)
  case quarantines =>
    intro a before rest waiting first t
    rw [exec_quarantineRequest_of_waiting waiting first]
    exact ⟨fun keyed => congrArg Host.Outcome.next (if_pos keyed),
      fun other => congrArg Host.Outcome.next (if_neg other)⟩

/-! ### Ticks and edges (R134, R136, R140, R155) -/

theorem countTick_of_last {s : State} (last : s.time.rawTick = BitVec.allOnes 48) :
    s.countTick = { s with
      time := { s.time with rawTick := Config.rawTickAfterWrap s.freeCount }
      freeCount := s.freeCount + 1 } := if_pos last

theorem countTick_of_not_last {s : State} (more : s.time.rawTick ≠ BitVec.allOnes 48) :
    s.countTick = { s with time := { s.time with rawTick := s.time.rawTick + 1 } } := if_neg more

/-- The counter's step changes the counter, and counts a free value where it takes one. -/
theorem countTick_eq (s : State) : s.countTick = { s with
    time := { s.time with rawTick := s.countTick.time.rawTick }
    freeCount := s.countTick.freeCount } := by
  unfold State.countTick
  split <;> rfl

theorem tick_link (s : State) (l : LinkSlot) : s.tick.link l = (s.link l).tick := by
  have links : s.countTick.links = s.links := (congrArg State.links (countTick_eq s)).trans rfl
  unfold State.tick State.link
  dsimp only
  rw [links]
  exact mapTable_get ..

/-- A tick's footprint: the time base, the health records and the free values. -/
theorem tick_eq (s : State) : s.tick =
    { s with time := s.tick.time, links := s.tick.links, freeCount := s.tick.freeCount } := by
  unfold State.tick
  dsimp only
  rw [countTick_eq]

theorem tick_time (s : State) : s.tick.time = { s.time with
    rawTick := s.countTick.time.rawTick
    ticks := s.time.ticks + 1
    measurement := s.time.measurement.map Measurement.tick } := by
  unfold State.tick TimeBase.tick
  dsimp only
  rw [countTick_eq]

theorem edge_of_counting {m : Measurement} (opened : m.windowOpen = true) (early : m.count < 2 ^ m.k) :
    m.edge = { m with edges := min (m.edges + 1) (2 ^ 32 - 1) } := if_pos ⟨opened, early⟩

theorem edge_of_not_counting {m : Measurement} (h : m.windowOpen = false ∨ 2 ^ m.k ≤ m.count) :
    m.edge = m := by
  refine if_neg ?_
  rintro ⟨opened, early⟩
  rcases h with closed | full
  · exact Bool.false_ne_true (closed.symm.trans opened)
  · omega

/-- Settles O45: the tick by its footprint, and the edges by the window. -/
theorem rawTicksAndReferenceEdges : Obligations.RawTicksAndReferenceEdges := by
  refine ⟨?tick, ?noTick, ?counts, ?ignored⟩
  case tick =>
    intro s running free
    refine ⟨s.tick, congrArg Host.Outcome.next (if_pos ⟨running, free⟩), ?_⟩
    refine ⟨?ticks, ?counter, ?wraps, ?measures, ?idle, ?opened, ?closed, tick_eq s, ?time⟩
    case ticks => rw [tick_time]
    case counter =>
      intro more
      rw [tick_time]
      refine ⟨?_, ?_⟩
      · rw [countTick_of_not_last more]
      · unfold State.tick
        dsimp only
        rw [countTick_of_not_last more]
    case wraps =>
      intro last
      rw [tick_time]
      refine ⟨?_, ?_⟩
      · rw [countTick_of_last last]
      · unfold State.tick
        dsimp only
        rw [countTick_of_last last]
    case measures =>
      intro m measuring
      rw [tick_time, measuring]
      rfl
    case idle =>
      intro none_
      rw [tick_time, none_]
      rfl
    case opened =>
      intro l opened
      rw [tick_link]
      exact if_pos ((isOpen_iff _).mpr opened)
    case closed =>
      intro l closed
      rw [tick_link]
      exact if_neg (by simp [closed, LinkState.isOpen])
    case time => rw [tick_time]
  case noTick =>
    intro s h
    refine congrArg Host.Outcome.next (if_neg ?_)
    rintro ⟨running, free⟩
    rcases h with stopped | waits
    · exact Bool.false_ne_true (stopped.symm.trans running)
    · exact Bool.false_ne_true (free.symm.trans waits)
  case counts =>
    intro s m measuring opened early
    simp only [exec, execRefclkRisingEdge, measuring, Option.map_some, edge_of_counting opened early]
  case ignored =>
    intro s h
    simp only [exec, execRefclkRisingEdge]
    have same : s.time.measurement.map Measurement.edge = s.time.measurement := by
      cases measuring : s.time.measurement with
      | none => rfl
      | some m => exact congrArg some (edge_of_not_counting (h m measuring))
    rw [same]

end Sys2Proof.Proofs.ClockAndMonitor
end


section
/-! PROOFS. The report unit: postings, the writer and clearing observations (R168, R170, R172, R174), and
SET_REPORT_RING (R169). -/

namespace Sys2Proof.Proofs.ReportUnitSteps
open Sys2Proof Sys2Proof.Machine
open Sys2Proof.Proofs.StillRecords

/-! ### Postings (R168) -/

theorem matches_iff (w p : Report) : w.matches p = true ↔
    p.detail.coalesces = true ∧ w.detail.kind = p.detail.kind ∧ w.link = p.link := by
  simp [Report.matches, and_assoc]

/-- The first waiting report that matches takes the posting in, in its place. -/
theorem mergeInto_of_first {p w : Report} : ∀ {front back : List Report}, w.matches p = true →
    (∀ v ∈ front, v.matches p = false) →
    mergeInto p (front ++ w :: back) = some (front ++ w.merge p :: back)
  | [], back, found, _ => if_pos found
  | v :: front, back, found, first => by
    have not : ¬v.matches p = true := by simp [first v (by simp)]
    have rest := mergeInto_of_first (front := front) (back := back) found (fun u h => first u (by simp [h]))
    rw [List.cons_append, mergeInto, if_neg not, rest]
    rfl

theorem mergeInto_of_none {p : Report} : ∀ {queue : List Report},
    (∀ w ∈ queue, w.matches p = false) → mergeInto p queue = none
  | [], _ => rfl
  | v :: queue, none_ => by
    have not : ¬v.matches p = true := by simp [none_ v (by simp)]
    rw [mergeInto, if_neg not, mergeInto_of_none (fun u h => none_ u (by simp [h]))]
    rfl

section
variable {u : ReportUnit} {p : Report}

theorem take_of_first {w : Report} {front back : List Report} (queue : u.queue = front ++ w :: back)
    (found : w.matches p = true) (first : ∀ v ∈ front, v.matches p = false) :
    u.take p = { u with queue := front ++ w.merge p :: back } := by
  simp only [ReportUnit.take, queue, mergeInto_of_first found first]

theorem take_of_none (none_ : ∀ w ∈ u.queue, w.matches p = false) : u.take p =
    if u.queue.length < 8 then { u with queue := u.queue ++ [{ p with repeats := 0 }] }
    else { u with lost := satAdd 65535 u.lost 1 } := by
  simp only [ReportUnit.take, mergeInto_of_none none_]

end

theorem exec_reportPosting_of_own {s : State} {b : ReportSource} {p : Report}
    {rest : List (ReportSource × Report)} (posted : s.mail.reports = (b, p) :: rest) :
    exec (.reportPosting b) s = .next
      { s with mail := { s.mail with reports := rest }, reports := s.reports.take p } := by
  simp only [exec, execReportPosting, posted, if_true]

/-! ### The writer (R169, R170) -/

theorem ringWaits_iff (s : State) : s.ringWaits = true ↔
    (∃ entry record new, s.command.executing = some ⟨entry, .replacingRing record new⟩) ∨
      ∃ entry record stamp, s.command.executing = some ⟨entry, .dispatched record stamp⟩ ∧
        byteAt record 1 = 0x14#8 := by
  unfold State.ringWaits
  split
  · rename_i entry record ring e
    simp [e]
  · rename_i entry record stamp e
    simp [e]
  · rename_i h h'
    simp only [Bool.false_eq_true, false_iff, not_or, not_exists, not_and]
    exact ⟨h, fun entry record stamp e => absurd e (h' entry record stamp)⟩

theorem writable_of_ready {s : State} {ring : ReportRing} {p : Report} {rest : List Report}
    (present : s.reports.ring = some ring) (queue : s.reports.queue = p :: rest)
    (idle : s.reports.inFlight = none) (free : s.ringWaits = false) : s.writable =
      if s.reports.flag s.reports.writeIndex = false then some (ring, p, rest) else none := by
  simp only [State.writable, present, queue, idle, free, true_and]

theorem writable_eq_none {s : State} (h : s.reports.ring = none ∨ s.reports.queue = [] ∨
    s.reports.inFlight.isSome = true ∨ s.ringWaits = true) : s.writable = none := by
  unfold State.writable
  split
  · rename_i ring p rest present queue
    refine if_neg ?_
    rintro ⟨idle, free, -⟩
    rcases h with absent | empty | busy | waits
    · exact Option.some_ne_none _ (present.symm.trans absent)
    · exact List.cons_ne_nil _ _ (queue.symm.trans empty)
    · simp [idle] at busy
    · exact Bool.false_ne_true (free.symm.trans waits)
  · rfl

theorem exec_reportWriterTake_of_none {s : State} (h : s.writable = none) :
    exec .reportWriterTake s = .next s := by
  simp only [exec, execReportWriterTake, h]

/-! ### Clearing observations (R172) -/

theorem exec_reportClearObserved {s : State} {number entry : Nat} {v : Byte} {rest : List Completion}
    (waits : s.completions = .reportWrite number entry v :: rest) : exec .reportClearObserved s =
      .next (({ s with completions := rest } : State).clearObserved number entry v) := by
  simp only [exec, execReportClearObserved, State.takeCompletion, waits]

theorem getLsbD_clearFlag (valid : BitVec 1024) (entry e : Nat) :
    (clearFlag valid entry).getLsbD e = (valid.getLsbD e && e != entry) := by
  unfold clearFlag
  by_cases within : e < 1024
  · by_cases same : e = entry
    · subst same
      simp [within]
    · have apart : e - entry ≠ 0 ∨ e < entry := by omega
      rcases apart with above | below
      · simp [within, same, above]
      · simp [within, same, below]
  · have high : valid.getLsbD e = false := BitVec.getLsbD_of_ge _ _ (by omega)
    simp [high]

/-- Settles O51: the posting by what matches in the queue, the writer by its test, the observation by the ring and
its value. -/
theorem reportsAreQueuedWrittenAndCleared : Obligations.ReportsAreQueuedWrittenAndCleared := by
  refine ⟨?posting, ?noPosting, ?writes, ?noWrite, ?clears⟩
  case posting =>
    intro s b p rest posted t same
    have same_iff (w : Report) : w.matches p = true ↔ same w := matches_iff w p
    have not_same {w : Report} (h : ¬same w) : w.matches p = false :=
      Bool.eq_false_iff.mpr (mt (same_iff w).mp h)
    refine ⟨?merges, ?joins, ?drops, ?other⟩
    case merges =>
      intro front w back queue found first
      rw [exec_reportPosting_of_own posted, take_of_first queue ((same_iff w).mpr found)
        (fun v h => not_same (first v h))]
      rfl
    case joins =>
      intro none_ room
      rw [exec_reportPosting_of_own posted, take_of_none (fun w h => not_same (none_ w h)),
        if_pos room]
    case drops =>
      intro none_ full
      rw [exec_reportPosting_of_own posted, take_of_none (fun w h => not_same (none_ w h)),
        if_neg (by omega)]
      rfl
    case other =>
      intro other different
      simp only [exec, execReportPosting, posted, if_neg different.symm]
  case noPosting =>
    intro s b empty
    simp only [exec, execReportPosting, empty]
  case writes =>
    intro s ring p rest present queue idle notReplacing notDispatched
    have free : s.ringWaits = false := by
      rw [← Bool.not_eq_true, ringWaits_iff]
      rintro (⟨entry, record, new, e⟩ | ⟨entry, record, stamp, e, code⟩)
      · exact notReplacing entry record new e
      · exact notDispatched entry record stamp e code
    have writable := writable_of_ready present queue idle free
    refine ⟨fun clear => ?_, fun set => exec_reportWriterTake_of_none ?_⟩
    · rw [if_pos clear] at writable
      simp only [exec, execReportWriterTake, writable]
    · rw [writable, if_neg (by simp [set])]
  case noWrite =>
    intro s h
    rw [← ringWaits_iff] at h
    exact exec_reportWriterTake_of_none (writable_eq_none h)
  case clears =>
    intro s number entry v rest waits t
    rw [exec_reportClearObserved waits]
    refine ⟨fun present clear => ?_, fun h => ?_⟩
    · have own : t.reports.ring.any (fun r => r.number == number) = true := by
        obtain ⟨ring, present, its⟩ := present
        simp [t, present, its]
      refine ⟨_, congrArg Host.Outcome.next (if_pos ⟨own, clear⟩), rfl, rfl, fun e => ?_⟩
      exact getLsbD_clearFlag s.reports.valid entry e
    · refine congrArg Host.Outcome.next (if_neg ?_)
      rintro ⟨own, clear⟩
      rcases h with other | set
      · obtain ⟨ring, present, its⟩ := Option.any_eq_true _ _ |>.mp own
        exact other ring present (by simpa using its)
      · exact Bool.false_ne_true (clear.symm.trans set)

/-! ### SET_REPORT_RING (R169) -/

theorem reportRingLegal_iff (base entries : Nat) : reportRingLegal base entries = true ↔
    base % 32 = 0 ∧ 16 ≤ entries ∧ entries ≤ 1024 ∧ base + 32 * entries ≤ 2 ^ 32 := by
  simp [reportRingLegal, and_assoc]

section
variable {s : State} {r : List Byte} {stamp : Seq} {base : Long} {entries : Half}
  (offered : s.offered (.setReportRing base entries) = some (r, stamp))
include offered

theorem exec_setReportRing_of_refused {code : ResultCode}
    (check : s.checkReportRing base.toNat entries.toNat = .inl code) :
    exec (.setReportRing base entries) s = .next (s.answer r code []) := by
  simp only [exec, execSetReportRing, offered, check]

theorem exec_setReportRing_of_legal {ring : Option (Nat × Nat)}
    (check : s.checkReportRing base.toNat entries.toNat = .inr ring) :
    exec (.setReportRing base entries) s = .next (s.setReportRing r ring) := by
  simp only [exec, execSetReportRing, offered, check]

end

section
variable {s : State} {base entries : Nat}

theorem checkReportRing_of_illegal (nonzero : entries ≠ 0)
    (bad : reportRingLegal base entries = false) :
    s.checkReportRing base entries = .inl .badArgument := by
  simp [State.checkReportRing, nonzero, bad]

theorem checkReportRing_of_legal (nonzero : entries ≠ 0)
    (good : reportRingLegal base entries = true) : s.checkReportRing base entries =
      if ({ s with reports := { s.reports with ring := none } } : State).ownMap.meets
        (base, 32 * entries) then .inl .overlap else .inr (some (base, entries)) := by
  simp [State.checkReportRing, nonzero, good]

end

theorem setReportRing_of_idle {s : State} (idle : s.reports.inFlight = none) (r : List Byte)
    (ring : Option (Nat × Nat)) : s.setReportRing r ring =
      (s.replaceReportRing ring).answer r .ok [] := by
  simp only [State.setReportRing, idle]

theorem setReportRing_of_flight {s : State} {x : Executing} (busy : s.reports.inFlight.isSome = true)
    (executing : s.command.executing = some x) (r : List Byte) (ring : Option (Nat × Nat)) :
    s.setReportRing r ring = { s with command := { s.command with
      executing := some { x with phase := .replacingRing r ring } } } := by
  obtain ⟨e, busy⟩ := Option.isSome_iff_exists.mp busy
  simp only [State.setReportRing, busy, executing]

/-- Settles O52: the checks in R169's order, and the effect by what is in flight. -/
theorem setReportRingReplacesTheRing : Obligations.SetReportRingReplacesTheRing := by
  intro s r stamp base entries c offered legal others takesEffect
  have takes {ring : Option (Nat × Nat)}
      (check : s.checkReportRing base.toNat entries.toNat = .inr ring) : takesEffect ring := by
    refine ⟨fun idle => ?_, fun x busy executing => ?_⟩
    · rw [exec_setReportRing_of_legal offered check, setReportRing_of_idle idle]
      rfl
    · rw [exec_setReportRing_of_legal offered check, setReportRing_of_flight busy executing]
  have nonzero_toNat (h : entries ≠ 0) : entries.toNat ≠ 0 := fun e =>
    h (BitVec.eq_of_toNat_eq (by simpa using e))
  have isLegal (h : legal) : reportRingLegal base.toNat entries.toNat = true :=
    (reportRingLegal_iff _ _).mpr h
  refine ⟨fun zero => takes (by subst zero; rfl), fun nonzero bad => ?_,
    fun nonzero good meets => ?_, fun nonzero good free => ?_⟩
  · exact exec_setReportRing_of_refused offered (checkReportRing_of_illegal (nonzero_toNat nonzero)
      (Bool.eq_false_iff.mpr (mt (reportRingLegal_iff _ _).mp bad)))
  · exact exec_setReportRing_of_refused offered
      ((checkReportRing_of_legal (nonzero_toNat nonzero) (isLegal good)).trans (if_pos meets))
  · exact takes ((checkReportRing_of_legal (nonzero_toNat nonzero) (isLegal good)).trans
      (if_neg (Bool.eq_false_iff.mp free)))

end Sys2Proof.Proofs.ReportUnitSteps
end


section
/-! PROOFS. The reset values (R17, R42, R54, R104, R126, R151), what RESET, main power and the supply of the retained
cells do (R54, R124 to R126, R130), and the invariants at reset. -/

namespace Sys2Proof.Proofs.ResetAndPower
open Sys2Proof Sys2Proof.Machine
open Sys2Proof.Proofs.StillRecords Sys2Proof.Proofs.Frames

/-! ### The values of a reset -/

theorem replicate_get {α : Type} {n : Nat} (x : α) (i : Fin n) : (Vector.replicate n x)[i] = x := by
  simp

/-- Settles O6: every table of the reset state is uniform. -/
theorem resetValues : Obligations.ResetValues := by
  refine ⟨fun l => replicate_get _ l, fun r => replicate_get _ r, rfl, by decide, rfl, rfl, ?_, rfl,
    rfl, rfl, fun i => replicate_get _ i, rfl, rfl, fun k => replicate_get _ k, rfl, rfl, rfl,
    fun k => replicate_get _ k, rfl, rfl, rfl, rfl, rfl, rfl, rfl, bne_self_eq_false 0#1024, rfl, rfl, rfl, rfl⟩
  intro onL
  cases onL <;> rfl

/-- Settles O55: each invariant evaluated at the reset state. -/
theorem invariantsHoldAtReset : Obligations.InvariantsHoldAtReset :=
  ⟨by decide, by decide, by decide, by decide⟩

/-! ### RESET and its release (R54) -/

theorem mapPorts_port (s : State) (f : Port → Port) (onL : Bool) :
    (s.mapPorts f).port onL = f (s.port onL) := by
  cases onL <;> rfl

theorem answerReset_presented (x : Port) : x.answerReset.presented = x.presented ∧
    x.answerReset.current = none ∧ x.answerReset.accesses = [] := by
  unfold Port.answerReset
  split
  · rename_i idle
    exact ⟨rfl, idle, rfl⟩
  · exact ⟨rfl, rfl, rfl⟩

theorem answerReset_answered (x : Port) : x.answerReset.answered =
    match x.current with
    | none => x.answered
    | some t => if t.request.isRead then
        some (.data (t.returned ++ zeroes (8 * t.request.beats - t.returned.length)))
      else some .acknowledged := by
  unfold Port.answerReset
  cases x.current with
  | none => rfl
  | some t => cases read : t.request.isRead <;> simp [read]

theorem runBoth_of_quiet {s : State} (quiet : ∀ onL, (s.port onL).quiet = true)
    (none_ : ∀ l, s.drained l = false) : s.runBoth = s := by
  rw [State.runBoth, run_of_quiet (quiet false), run_of_quiet (quiet true),
    closeDrained_of_none none_]

/-- Settles O7: the reset with main power and without it, and the release. -/
theorem resetLineResetsAndReleases : Obligations.ResetLineResetsAndReleases := by
  refine ⟨?reset, ?unpowered, ?release⟩
  case reset =>
    intro straps s powered
    refine ⟨_, congrArg Host.Outcome.next (if_pos powered), rfl, rfl, rfl, rfl, rfl,
      fun l => replicate_get _ l, fun r => replicate_get _ r, rfl, rfl, rfl, rfl, rfl, rfl, rfl, rfl,
      rfl, rfl, ?_, rfl, rfl, rfl, rfl, fun onL => ?_⟩
    · exact bne_self_eq_false 0#1024
    · rw [mapPorts_port]
      obtain ⟨presented, current, accesses⟩ := answerReset_presented (s.port onL)
      cases onL
      · exact ⟨presented, current, accesses, answerReset_answered s.steering.p⟩
      · exact ⟨presented, current, accesses, answerReset_answered s.steering.l⟩
  case unpowered =>
    intro straps s unpowered
    exact congrArg Host.Outcome.next (if_neg (by simp [unpowered]))
  case release =>
    refine ⟨fun s => ⟨_, rfl, rfl⟩, fun s quiet none_ => ?_⟩
    exact congrArg Host.Outcome.next
      (runBoth_of_quiet (s := { s with lines := { s.lines with resetAsserted := false } }) quiet
        none_)

/-! ### The power-on check (R126, R174) -/

/-- The check's effect on the store and on an empty queue of reports. -/
theorem checkStore_eq (s : State) (empty : s.reports.queue = []) : s.checkStore =
    { s with
      store := { s.store with
        slots := mapTable s.store.slots s.store.checkSlot
        marker := markerOf s.lines.retain
        cellsLost := false }
      reports := { s.reports with
        queue := s.store.checkReport.toList.map (fun d => ⟨d, none, 0⟩) } } := by
  unfold State.checkStore
  dsimp only
  cases s.store.checkReport with
  | none => simp [← empty]
  | some d => simp [ReportUnit.take, empty, mergeInto]

theorem toList_eq_map_finRange {α : Type} {n : Nat} (v : Vector α n) :
    v.toList = (List.finRange n).map (fun i => v[i]) := by
  apply List.ext_getElem <;> simp

/-- The state that POWER_ON leaves before the ports run. -/
def poweredOn (straps : Byte) (s : State) : State :=
  (({ s with lines := { s.lines with powered := true, vstby := true } }).resetBlocks
    (anchorOf straps)).checkStore

theorem poweredOn_eq (straps : Byte) (s : State) : poweredOn straps s =
    { ({ s with lines := { s.lines with powered := true, vstby := true } } : State).resetBlocks
        (anchorOf straps) with
      store := { s.store with
        requests := [], waiting := [], staging := none
        slots := mapTable s.store.slots s.store.checkSlot
        marker := markerOf s.lines.retain
        cellsLost := false }
      reports := { ReportUnit.reset with
        queue := s.store.checkReport.toList.map (fun d => ⟨d, none, 0⟩) } } :=
  checkStore_eq _ rfl

theorem poweredOn_kek (straps : Byte) (s : State) (k : KekIndex) :
    (poweredOn straps s).kek k = s.store.checkSlot (s.kek k) := by
  rw [poweredOn_eq]
  exact mapTable_get ..

theorem poweredOn_queue (straps : Byte) (s : State) : (poweredOn straps s).reports.queue =
    s.store.checkReport.toList.map (fun d => ⟨d, none, 0⟩) := by
  rw [poweredOn_eq]

section
variable {x : RetainedStore}

theorem check_of_lost (lost : x.cellsLost = true) :
    (∀ k, x.checkSlot k = KekSlot.blank .invalid) ∧
      x.checkReport = some (.storeInvalid true [true, true, true, true]) := by
  simp [RetainedStore.checkSlot, RetainedStore.checkReport, RetainedStore.invalidated, lost]

theorem check_of_parked (held : x.cellsLost = false) (parked : x.marker = .parked) :
    (∀ k, x.checkSlot k = k) ∧ x.checkReport = none := by
  simp [RetainedStore.checkSlot, RetainedStore.checkReport, held, parked]

theorem check_of_live (held : x.cellsLost = false) (live : x.marker = .live) :
    (∀ k, x.checkSlot k = if k.state = .loaded then KekSlot.blank .invalid else k) ∧
      x.checkReport = some (.storeInvalid false
        ((List.finRange 4).map (fun k => x.slots[k].state == .loaded))) := by
  simp [RetainedStore.checkSlot, RetainedStore.checkReport, RetainedStore.invalidated, held, live,
    toList_eq_map_finRange, Function.comp_def]

end

/-- Settles O8: the check by what the cells and the marker hold. -/
theorem powerOnChecksTheStore : Obligations.PowerOnChecksTheStore := by
  intro straps s unpowered
  have runs : exec (.powerOn straps) s = .next (poweredOn straps s).runBoth :=
    congrArg Host.Outcome.next (if_neg (by simp [unpowered]))
  refine ⟨poweredOn straps s, runs, ?_⟩
  have keks (k : KekIndex) := poweredOn_kek straps s k
  have queue := poweredOn_queue straps s
  refine ⟨?_, ?_, ?_, ?_, ?_, ?_, ?_, ?_, ?_, ?_, ?_, ?_, ?_, ?_, ?_, ?_, ?_, ?_, ?_, ?_,
    fun lost => ?_, fun held parked => ?_, fun held live => ?_⟩
  case refine_21 =>
    obtain ⟨slots, report⟩ := check_of_lost lost
    exact ⟨fun k => (keks k).trans (slots _), by rw [queue, report]; rfl⟩
  case refine_22 =>
    obtain ⟨slots, report⟩ := check_of_parked held parked
    exact ⟨fun k => (keks k).trans (slots _), by rw [queue, report]; rfl⟩
  case refine_23 =>
    obtain ⟨slots, report⟩ := check_of_live held live
    exact ⟨fun k => (keks k).trans (slots _), by rw [queue, report]; rfl⟩
  all_goals rw [poweredOn_eq]
  case refine_3 => exact fun l => replicate_get _ l
  case refine_4 => exact fun r => replicate_get _ r
  all_goals rfl

/-! ### The RETAIN line and the supplies (R124 to R126, R130) -/

/-- What a torn write leaves: the same records but for one KEK slot and the count of free values. -/
theorem tear_eq (s : State) : s.tear = { s with
    store := { s.store with slots := s.tear.store.slots }, freeCount := s.tear.freeCount } := by
  unfold State.tear
  split
  · rfl
  · split
    · split <;> rfl
    · split <;> rfl
    · split <;> rfl
    all_goals rfl

theorem tear_of_parked {s : State} (parked : s.store.marker = .parked) : s.tear = s := if_pos parked

theorem tear_of_no_request {s : State} (none_ : s.store.requests = []) : s.tear = s := by
  unfold State.tear
  rw [none_]
  split <;> rfl

theorem tear_of_transmitCommit {s : State} {l : LinkSlot} {ident : Nat} {k : KekIndex}
    {rest : List StoreRequest} (live : s.store.marker = .live)
    (head : s.store.requests = .transmitCommit l ident k :: rest)
    (loaded : (s.kek k).state = .loaded) (more : (s.kek k).transmit ≠ BitVec.allOnes 48) :
    s.tear = (s.setKek k { s.kek k with transmit := Config.tornCounter s.freeCount }).useFree := by
  unfold State.tear
  rw [if_neg (by simp [live]), head]
  exact if_pos ⟨loaded, more⟩

theorem tornSlot_state (n : Nat) : (tornSlot n).state = .loaded ∨
    tornSlot n = KekSlot.blank (tornSlot n).state := by
  unfold tornSlot
  split
  · exact .inr rfl
  · exact .inl rfl
  · exact .inr rfl

/-- A torn write keeps the state of the slot it reaches, unless it writes the slot whole; and a slot written whole is
LOADED or blank. -/
theorem tear_kek (s : State) (k : KekIndex) : s.tear.kek k = s.kek k ∨
    ((s.tear.kek k).state = .loaded ∧ (s.kek k).state = .loaded) ∨
    (((s.tear.kek k).state = .loaded ∨ s.tear.kek k = KekSlot.blank (s.tear.kek k).state) ∧
      ∃ rest, s.store.requests = .command :: rest ∧ s.store.marker = .live) := by
  have written (j : KekIndex) (x : KekSlot) : ((s.setKek j x).useFree).kek k = s.kek k ∨
      (j = k ∧ ((s.setKek j x).useFree).kek k = x) := by
    by_cases same : j = k
    · subst same
      exact .inr ⟨rfl, State.setKek_kek_self ..⟩
    · exact .inl (State.setKek_kek_ne _ _ same)
  unfold State.tear
  split
  · exact .inl rfl
  · rename_i notParked
    have live : s.store.marker = .live := by
      cases h : s.store.marker
      · rfl
      · exact absurd h notParked
    split
    · split
      · rename_i j _ _ loaded
        rcases written j { s.kek j with transmit := Config.tornCounter s.freeCount } with e | ⟨rfl, e⟩
        · exact .inl e
        · exact .inr (.inl ⟨by rw [e]; exact loaded.1, loaded.1⟩)
      · exact .inl rfl
    · split
      · rename_i j _ _ _ _ loaded
        rcases written j { s.kek j with highWater := Config.tornCounter s.freeCount } with e | ⟨rfl, e⟩
        · exact .inl e
        · exact .inr (.inl ⟨by rw [e]; exact loaded.1, loaded.1⟩)
      · exact .inl rfl
    · rename_i rest head
      split
      · rename_i j _
        rcases written j (tornSlot s.freeCount) with e | ⟨rfl, e⟩
        · exact .inl e
        · exact .inr (.inr ⟨by rw [e]; exact tornSlot_state _, rest, head, live⟩)
      · exact .inl rfl
    all_goals exact .inl rfl

/-- The state that MAIN_POWER_LOSS leaves. -/
def powerLost (s : State) : State :=
  { s.resetBlocks s.steering.map.anchor with
    lines := { s.lines with powered := false }
    steering := ⟨RegionMap.reset s.steering.map.anchor, s.steering.p.powerLost,
      s.steering.l.powerLost⟩
    store := { s.store with
      slots := s.tear.store.slots, requests := [], waiting := [], staging := none
      cellsLost := s.store.cellsLost || !s.lines.vstby }
    freeCount := s.tear.freeCount }

theorem exec_mainPowerLoss_of_powered {s : State} (powered : s.lines.powered = true) :
    exec .mainPowerLoss s = .next (powerLost s) := by
  refine congrArg Host.Outcome.next ((if_pos powered).trans ?_)
  rw [tear_eq]
  rfl

/-- Settles O9: the lines by the marker, the loss of main power by what it tears, the loss of VSTBY by main power. -/
theorem retainAndSupplyLines : Obligations.RetainAndSupplyLines := by
  refine ⟨?retain, ?loss, ?torn, ?vstby⟩
  case retain =>
    intro s powered
    refine ⟨fun live => ?_, fun parked => ?_, fun parked => ?_, fun live => ?_⟩
    · exact congrArg Host.Outcome.next (if_pos ⟨powered, live⟩)
    · exact congrArg Host.Outcome.next (if_pos powered)
    · exact congrArg Host.Outcome.next (if_neg (by simp [parked]))
    · refine congrArg Host.Outcome.next ((if_pos powered).trans ?_)
      rw [← live]
  case loss =>
    intro s powered
    have keks (k : KekIndex) := tear_kek s k
    refine ⟨powerLost s, exec_mainPowerLoss_of_powered powered, rfl, rfl, rfl, rfl, rfl,
      fun l => replicate_get _ l, rfl, rfl, rfl, rfl, fun r => replicate_get _ r, rfl, rfl, rfl, rfl,
      rfl, rfl, rfl, fun onL => ?_, fun kept => ?_, rfl, rfl, fun k notLoaded => ?_,
      fun k moved => ?_⟩
    · cases onL <;> exact ⟨rfl, rfl, rfl⟩
    · show s.tear.store.slots = _
      rcases kept with parked | none_
      · rw [tear_of_parked parked]
      · rw [tear_of_no_request none_]
    · rcases keks k with same | ⟨loaded, -⟩ | ⟨loaded | blank, -⟩
      · exact .inl same
      · exact absurd loaded notLoaded
      · exact absurd loaded notLoaded
      · exact .inr blank
    · rcases keks k with same | ⟨loaded, was⟩ | ⟨-, waits⟩
      · exact absurd (congrArg KekSlot.state same) moved
      · exact absurd (loaded.trans was.symm) moved
      · exact waits
  case torn =>
    intro s l ident k rest powered live head loaded more
    have torn := tear_of_transmitCommit live head loaded more
    have keks (j : KekIndex) : (powerLost s).kek j = s.tear.kek j := rfl
    refine ⟨powerLost s, exec_mainPowerLoss_of_powered powered, ?_, fun j other => ?_, ?_⟩
    · rw [keks, torn]
      exact State.setKek_kek_self ..
    · rw [keks, torn]
      exact State.setKek_kek_ne _ _ other.symm
    · show s.tear.freeCount = _
      rw [torn]
      rfl
  case vstby =>
    intro s
    refine ⟨fun unpowered => ?_, fun powered => ?_⟩
    · simp [exec, execVstbyLoss, State.feedCells, unpowered]
    · simp [exec, execVstbyLoss, State.feedCells, powered]

end Sys2Proof.Proofs.ResetAndPower
end


section
/-! PROOFS. Records: what a posted command record decodes to and what decodes (12.4), and the layout of a report
record (12.5, R185). -/

namespace Sys2Proof.Proofs.Records
open Sys2Proof Sys2Proof.Machine

/-! ### Fields of byte strings -/

/-- A value's little-endian bytes read back as the value. -/
theorem leNat_leBytes_toNat {w : Nat} (n : Nat) (v : BitVec w) (h : 2 ^ w = 256 ^ n) :
    BitVec.ofNat w (leNat (leBytes n v.toNat)) = v := by
  rw [leNat_leBytes, Nat.mod_eq_of_lt (h ▸ v.isLt)]
  exact BitVec.eq_of_toNat_eq (by simp)

theorem half_leBytes (v : Half) : BitVec.ofNat 16 (leNat (leBytes 2 v.toNat)) = v :=
  leNat_leBytes_toNat 2 v (by decide)

theorem long_leBytes (v : Long) : BitVec.ofNat 32 (leNat (leBytes 4 v.toNat)) = v :=
  leNat_leBytes_toNat 4 v (by decide)

theorem seq_leBytes (v : Seq) : BitVec.ofNat 48 (leNat (leBytes 6 v.toNat)) = v :=
  leNat_leBytes_toNat 6 v (by decide)

/-- The bytes that stand between two others. -/
theorem slice_middle (front middle back : List Byte) :
    slice (front ++ (middle ++ back)) front.length middle.length = middle := by
  simp [slice]

/-- A slice past the first bytes. -/
theorem slice_after (front back : List Byte) (n len : Nat) :
    slice (front ++ back) (front.length + n) len = slice back n len := by
  simp [slice]

/-! ### Command records (12.4) -/

theorem record_length {code : Byte} {arguments : List Byte} (fits : arguments.length ≤ 29) :
    (record code arguments).length = 32 := by
  simp only [record, List.length_append, List.length_cons, List.length_nil, zeroes_length]
  omega

theorem byteAt_record (code : Byte) (arguments : List Byte) :
    byteAt (record code arguments) 0 = 0x01#8 ∧ byteAt (record code arguments) 1 = code ∧
      byteAt (record code arguments) 2 = 0x00#8 := ⟨rfl, rfl, rfl⟩

/-- The configuration record holds the mask in its bytes 12 to 19. -/
theorem decode_configLink (link : Byte) (wire maxPayload : Half) (period : Byte) (grace : Half)
    (binding : Byte) {mask : List Byte} (whole : mask.length = 8) :
    decodeRecord (record 0x02 ([link] ++ leBytes 2 wire.toNat ++ leBytes 2 maxPayload.toNat ++
      [period] ++ leBytes 2 grace.toNat ++ [binding] ++ mask)) =
      some (.configLink link wire maxPayload period grace binding mask) := by
  set arguments := [link] ++ leBytes 2 wire.toNat ++ leBytes 2 maxPayload.toNat ++ [period] ++
    leBytes 2 grace.toNat ++ [binding] with harguments
  have stands : slice (record 0x02 (arguments ++ mask)) 12 8 = mask := by
    have middle := slice_middle ([0x01#8, 0x02#8, 0x00#8] ++ arguments) mask
      (zeroes (32 - ([0x01#8, 0x02#8, 0x00#8] ++ (arguments ++ mask)).length))
    rw [whole] at middle
    exact middle
  show some (Instr.configLink link (BitVec.ofNat 16 (leNat (leBytes 2 wire.toNat)))
    (BitVec.ofNat 16 (leNat (leBytes 2 maxPayload.toNat))) period
    (BitVec.ofNat 16 (leNat (leBytes 2 grace.toNat))) binding
    (slice (record 0x02 (arguments ++ mask)) 12 8)) = _
  rw [half_leBytes, half_leBytes, half_leBytes, stands]

section
variable (part slot : Byte) {half : List Byte} (counter : Seq) (whole : half.length = 16)
include whole

/-- A LOAD_KEK record holds its half in bytes 5 to 20 and its counter in bytes 21 to 26. -/
theorem loadKek_fields :
    let r := record 0x0C ([part, slot] ++ half ++ leBytes 6 counter.toNat)
    slice r 5 16 = half ∧ BitVec.ofNat 48 (fieldAt r 21 6) = counter := by
  intro r
  set rest := leBytes 6 counter.toNat ++
    zeroes (32 - ([0x01#8, 0x0C#8, 0x00#8] ++
      ([part, slot] ++ half ++ leBytes 6 counter.toNat)).length) with hrest
  have shape : r = [0x01#8, 0x0C#8, 0x00#8, part, slot] ++ (half ++ rest) := by
    simp [r, record, hrest]
  refine ⟨?_, ?_⟩
  · have middle := slice_middle [0x01#8, 0x0C#8, 0x00#8, part, slot] half rest
    rw [whole, ← shape] at middle
    exact middle
  · have after := slice_after ([0x01#8, 0x0C#8, 0x00#8, part, slot] ++ half) rest 0 6
    rw [List.append_assoc, ← shape] at after
    simp only [List.length_append, List.length_cons, List.length_nil, whole] at after
    rw [fieldAt, after]
    exact seq_leBytes counter

theorem decode_loadKek :
    decodeRecord (record 0x0C ([part, slot] ++ half ++ leBytes 6 counter.toNat)) =
      if part = 2 then some (.loadKekPart2 slot half counter)
      else some (.loadKekPart1 part slot half counter) := by
  obtain ⟨stands, count⟩ := loadKek_fields part slot counter whole
  show (if part = 2 then some (Instr.loadKekPart2 slot _ _)
    else some (Instr.loadKekPart1 part slot _ _)) = _
  rw [stands, count]

end

/-- Settles O3: one record per command, its fields read back. -/
theorem commandRecordsDecodeToTheirCommand : Obligations.CommandRecordsDecodeToTheirCommand := by
  intro c r wellFormed encoded
  have posted {code : Byte} {arguments : List Byte} (fits : arguments.length ≤ 29)
      (decodes : decodeRecord (record code arguments) = some c) :
      (record code arguments).length = 32 ∧ byteAt (record code arguments) 0 = 0x01#8 ∧
        byteAt (record code arguments) 2 = 0x00#8 ∧ decodeRecord (record code arguments) = some c :=
    ⟨record_length fits, rfl, rfl, decodes⟩
  cases c
  case configLink link wire maxPayload period grace binding mask =>
    have whole : mask.length = 8 := by simpa [Instr.wellFormed] using wellFormed
    cases encoded
    exact posted (by simp [whole]) (decode_configLink _ _ _ _ _ _ whole)
  case loadKekPart1 part slot half counter =>
    have whole : part ≠ 2 ∧ half.length = 16 := by simpa [Instr.wellFormed] using wellFormed
    cases encoded
    exact posted (by simp [whole.2])
      ((decode_loadKek part slot counter whole.2).trans (if_neg whole.1))
  case loadKekPart2 slot half counter =>
    have whole : half.length = 16 := by simpa [Instr.wellFormed] using wellFormed
    cases encoded
    exact posted (by simp [whole]) (decode_loadKek 2 slot counter whole)
  case setGuard link direction base size =>
    cases encoded
    refine posted (by simp) ?_
    show some (Instr.setGuard link direction (BitVec.ofNat 32 (leNat (leBytes 4 base.toNat)))
      (BitVec.ofNat 32 (leNat (leBytes 4 size.toNat)))) = _
    rw [long_leBytes, long_leBytes]
  case setRing link direction base slots =>
    cases encoded
    refine posted (by simp) ?_
    show some (Instr.setRing link direction (BitVec.ofNat 32 (leNat (leBytes 4 base.toNat)))
      (BitVec.ofNat 16 (leNat (leBytes 2 slots.toNat)))) = _
    rw [long_leBytes, half_leBytes]
  case setPhantom present base =>
    cases encoded
    refine posted (by simp) ?_
    show some (Instr.setPhantom present (BitVec.ofNat 32 (leNat (leBytes 4 base.toNat)))) = _
    rw [long_leBytes]
  case setTime seconds fraction =>
    cases encoded
    refine posted (by simp) ?_
    show some (Instr.setTime (BitVec.ofNat 32 (leNat (leBytes 4 seconds.toNat)))
      (BitVec.ofNat 16 (leNat (leBytes 2 fraction.toNat)))) = _
    rw [long_leBytes, half_leBytes]
  case setDrift value =>
    cases encoded
    refine posted (by simp) ?_
    show some (Instr.setDrift (BitVec.ofNat 16 (leNat (leBytes 2 value.toNat)))) = _
    rw [half_leBytes]
  case configClock fRef k period =>
    cases encoded
    refine posted (by simp) ?_
    show some (Instr.configClock (BitVec.ofNat 32 (leNat (leBytes 4 fRef.toNat))) k period) = _
    rw [long_leBytes]
  case configMonitor link t d u i m n options =>
    cases encoded
    refine posted (by simp) ?_
    show some (Instr.configMonitor link (BitVec.ofNat 16 (leNat (leBytes 2 t.toNat)))
      (BitVec.ofNat 16 (leNat (leBytes 2 d.toNat))) (BitVec.ofNat 16 (leNat (leBytes 2 u.toNat)))
      i m n options) = _
    rw [half_leBytes, half_leBytes, half_leBytes]
  case setReportRing base entries =>
    cases encoded
    refine posted (by simp) ?_
    show some (Instr.setReportRing (BitVec.ofNat 32 (leNat (leBytes 4 base.toNat)))
      (BitVec.ofNat 16 (leNat (leBytes 2 entries.toNat)))) = _
    rw [long_leBytes, half_leBytes]
  case nop | clearRing | openLink | closeLink | queryLink | resetFilter | retireKey | eraseKek
      | measureClock | releaseLink =>
    cases encoded
    exact posted (by simp) rfl
  all_goals cases encoded

theorem slice_length {bs : List Byte} {at_ len : Nat} (fits : at_ + len ≤ bs.length) :
    (slice bs at_ len).length = len := by
  simp only [slice, List.length_take, List.length_drop]
  omega

/-- The codes that name a command are 0x01 to 0x14 (12.4). -/
theorem decodeRecord_isSome (r : List Byte) : (decodeRecord r).isSome = true ↔
    1 ≤ (byteAt r 1).toNat ∧ (byteAt r 1).toNat ≤ 0x14 := by
  unfold decodeRecord
  dsimp only
  generalize (byteAt r 1).toNat = code
  by_cases named : 1 ≤ code ∧ code ≤ 0x14
  · obtain ⟨low, high⟩ := named
    interval_cases code
    pick_goal 12
    · show (ite _ _ _ : Option Instr).isSome = true ↔ _
      split <;> exact iff_of_true rfl ⟨low, high⟩
    all_goals exact iff_of_true rfl ⟨low, high⟩
  · refine iff_of_false ?_ named
    split <;> simp_all

/-- What decodes is a well-formed command of the ring. -/
theorem decodeRecord_wellFormed {r : List Byte} (whole : r.length = 32) {c : Instr}
    (h : decodeRecord r = some c) : c.wellFormed = true ∧ (encodeRecord c).isSome = true := by
  have fits {at_ len : Nat} (f : at_ + len ≤ 32) : (slice r at_ len).length = len :=
    slice_length (by omega)
  unfold decodeRecord at h
  dsimp only at h
  split at h
  case h_12 =>
    split at h
    · cases h
      exact ⟨by simp [Instr.wellFormed, fits], rfl⟩
    · rename_i part
      cases h
      exact ⟨by simpa [Instr.wellFormed, fits] using part, rfl⟩
  case h_2 =>
    cases h
    exact ⟨by simp [Instr.wellFormed, fits], rfl⟩
  all_goals cases h
  all_goals exact ⟨rfl, rfl⟩

/-- Settles O4: the decoder by its code, and four entries evaluated. -/
theorem entriesDecodeToWellFormedCommands : Obligations.EntriesDecodeToWellFormedCommands :=
  ⟨fun r whole => ⟨decodeRecord_isSome r, fun _ h => decodeRecord_wellFormed whole h⟩,
    by decide, by decide, by decide, by decide⟩

/-! ### Report records (12.5) -/

/-- The details of every kind fit behind the twelve bytes of the head. -/
theorem bytes_length_le (d : ReportDetail)
    (installed : ∀ epoch check activation, d = .keyInstalled epoch check activation →
      check.length = 8)
    (replaced : ∀ epoch check, d = .keyReplaced epoch check → check.length = 8) :
    d.bytes.length ≤ 20 := by
  cases d
  case keyInstalled epoch check activation =>
    simp [ReportDetail.bytes, installed epoch check activation rfl]
  case keyReplaced epoch check => simp [ReportDetail.bytes, replaced epoch check rfl]
  all_goals simp [ReportDetail.bytes]

/-- The twelve bytes before a record's details. -/
def recordHead (r : Report) (lost : Nat) (valid : Bool) (seconds : Long) : List Byte :=
  [0x01#8, r.detail.kind, (r.link.map (fun l => BitVec.ofNat 8 l.val)).getD 0xFF#8,
    BitVec.ofNat 8 r.repeats] ++ leBytes 2 lost ++ [flagByte valid, 0x00#8] ++
    leBytes 4 seconds.toNat

theorem recordHead_length (r : Report) (lost : Nat) (valid : Bool) (seconds : Long) :
    (recordHead r lost valid seconds).length = 12 := by
  simp [recordHead]

theorem recordBytes_eq (r : Report) (lost : Nat) (valid : Bool) (seconds : Long) :
    recordBytes r lost valid seconds = recordHead r lost valid seconds ++
      (r.detail.bytes ++ zeroes (20 - r.detail.bytes.length)) := by
  show (recordHead r lost valid seconds ++ r.detail.bytes) ++
    zeroes (32 - (recordHead r lost valid seconds ++ r.detail.bytes).length) = _
  rw [List.append_assoc, List.length_append, recordHead_length]
  congr 3
  omega

/-- Settles O5: the head byte by byte, the details after it, and the kinds' records evaluated. -/
theorem reportRecordLayout : Obligations.ReportRecordLayout := by
  refine ⟨fun r lost valid seconds installed replaced => ?layout, ?kinds⟩
  case layout =>
    intro b
    have short := bytes_length_le r.detail installed replaced
    have shape : b = recordHead r lost valid seconds ++
        (r.detail.bytes ++ zeroes (20 - r.detail.bytes.length)) := recordBytes_eq ..
    refine ⟨?_, rfl, rfl, ?_, rfl, rfl, ?_, rfl, rfl, ?_⟩
    · rw [shape]
      simp only [List.length_append, recordHead_length, zeroes_length]
      omega
    · show (r.link.map (fun l => BitVec.ofNat 8 l.val)).getD 0xFF#8 = _
      cases r.link <;> rfl
    · show flagByte valid = _
      cases valid <;> rfl
    · have middle := slice_middle (recordHead r lost valid seconds)
        (r.detail.bytes ++ zeroes (20 - r.detail.bytes.length)) []
      rw [List.append_nil, ← shape, recordHead_length, List.length_append, zeroes_length,
        Nat.add_sub_cancel' short] at middle
      exact middle
  case kinds =>
    intro written
    refine ⟨?_, ?_, ?_, ?_, ?_, ?_, ?_, ?_, ?_, ?_, ?_, ?_, ?_, ?_, ?_, ?_, ?_, ?_, ?_, ?_, ?_, ?_,
      ?_⟩
    all_goals
      show recordBytes _ _ _ _ = _
      decide

end Sys2Proof.Proofs.Records
end


section
/-! PROOFS. Port M and the transactions that go to memory unchanged (R40, R43 to R48). -/

namespace Sys2Proof.Proofs.MemoryPort
open Sys2Proof Sys2Proof.Machine
open Sys2Proof.Proofs.StillRecords

/-! ### Ports -/

@[simp] theorem port_setPort_self (s : State) (onL : Bool) (x : Port) :
    (s.setPort onL x).port onL = x := by
  cases onL <;> rfl

@[simp] theorem port_setPort_not (s : State) (onL : Bool) (x : Port) :
    (s.setPort onL x).port (!onL) = s.port (!onL) := by
  cases onL <;> rfl

@[simp] theorem setPort_setPort (s : State) (onL : Bool) (x y : Port) :
    (s.setPort onL x).setPort onL y = s.setPort onL y := by
  cases onL <;> rfl

/-- A port's write changes the steering unit alone. -/
theorem setPort_eq (s : State) (onL : Bool) (x : Port) : s.setPort onL x =
    { s with steering := (s.setPort onL x).steering } := by
  cases onL <;> rfl

theorem map_setPort (s : State) (onL : Bool) (x : Port) :
    (s.setPort onL x).steering.map = s.steering.map := by
  cases onL <;> rfl

theorem port_of_quiet {x : Port} (quiet : x.quiet = true) : x = ⟨none, [], [], x.answered⟩ := by
  obtain ⟨current, presented, accesses, answered⟩ := x
  simp only [Port.quiet, Bool.and_eq_true, Option.isNone_iff_eq_none, List.isEmpty_iff] at quiet
  obtain ⟨⟨rfl, rfl⟩, rfl⟩ := quiet
  rfl

/-- A transaction inside a port is handled; where none is presented behind it the port then rests. -/
theorem runPort_of_inside {s : State} {onL : Bool} {t : Transaction} (n : Nat)
    (inside : (s.port onL).current = some t) (last : ((s.handle onL).port onL).presented = []) :
    State.runPort onL (n + 1) s = s.handle onL := by
  simp only [State.runPort, inside]
  split
  · rename_i finished
    exact runPort_of_idle n (Option.isNone_iff_eq_none.mp finished) last
  · rfl

/-! ### A transaction of one portion -/

section
variable {s : State} {onL : Bool} {t : Transaction} {p : Portion}

/-- A port after its transaction of one portion went as far as it could. -/
def settledPort (x : Port) (t : Transaction) (p : Portion) : Port :=
  if p.done then { x with
    current := none
    answered := some (if t.request.isRead then .data (readyBytes [p]) else .acknowledged) }
  else { x with current := some { t with
    portions := [p], returned := if t.request.isRead then readyBytes [p] else [] } }

theorem handle_of_one (inside : (s.port onL).current = some t) (one : t.portions = [p]) :
    s.handle onL =
      let r := s.advance onL t.request.isRead true true 0 t.returned.length p
      r.1.setPort onL (settledPort (r.1.port onL) t r.2) := by
  simp only [State.handle, inside, State.advanceTransaction, one, State.advanceAll, Nat.sub_zero,
    Transaction.complete, Transaction.answer, List.all_cons, List.all_nil, Bool.and_true, settledPort]
  cases t.request.isRead <;> split <;> rfl

theorem settledPort_presented (x : Port) (t : Transaction) (p : Portion) :
    (settledPort x t p).presented = x.presented := by
  unfold settledPort
  split <;> rfl

/-- The port runs its one portion. -/
theorem run_of_one {onward : State} {q : Portion} (n : Nat)
    (inside : (s.port onL).current = some t) (one : t.portions = [p])
    (step : s.advance onL t.request.isRead true true 0 t.returned.length p = (onward, q))
    (last : (onward.port onL).presented = []) :
    State.runPort onL (n + 1) s = onward.setPort onL (settledPort (onward.port onL) t q) := by
  have handled : s.handle onL = onward.setPort onL (settledPort (onward.port onL) t q) := by
    rw [handle_of_one inside one, step]
  rw [runPort_of_inside n inside (by rw [handled, port_setPort_self, settledPort_presented, last]),
    handled]

end

/-! ### Cutting a transaction that lies in one place (R43) -/

theorem cutBeats_of_place {m : RegionMap} {q : BusRequest} {pl : Place} :
    ∀ (n from_ : Nat), (∀ i, i < n + 1 → m.place (from_ + 8 * i) = pl) → q.start ≤ from_ →
      (q.bytes = [] ∨ from_ + 8 * (n + 1) - q.start ≤ q.bytes.length) →
      cutBeats m q ((List.range (n + 1)).map (fun i => from_ + 8 * i)) =
        [{ place := pl, start := from_, beats := n + 1,
           bytes := (q.bytes.drop (from_ - q.start)).take (8 * (n + 1)) }]
  | 0, from_, places, _, _ => by
    have first := places 0 (by omega)
    simp only [Nat.mul_zero, Nat.add_zero] at first
    simp [List.range_one, cutBeats, beatPortion, first]
  | n + 1, from_, places, later, fits => by
    have first := places 0 (by omega)
    simp only [Nat.mul_zero, Nat.add_zero] at first
    have rest := cutBeats_of_place n (from_ + 8)
      (fun i h => by rw [show from_ + 8 + 8 * i = from_ + 8 * (i + 1) by omega]
                     exact places (i + 1) (by omega)) (by omega)
      (fits.imp_right (by omega))
    have shifted : (List.range (n + 1 + 1)).map (fun i => from_ + 8 * i) =
        from_ :: (List.range (n + 1)).map (fun i => from_ + 8 + 8 * i) := by
      rw [List.range_succ_eq_map, List.map_cons, List.map_map]
      refine congrArg₂ _ (by omega) (List.map_congr_left fun i _ => ?_)
      simp only [Function.comp_apply]
      omega
    have bytes : (q.bytes.drop (from_ - q.start)).take 8 ++
        (q.bytes.drop (from_ + 8 - q.start)).take (8 * (n + 1)) =
        (q.bytes.drop (from_ - q.start)).take (8 * (n + 1 + 1)) := by
      rw [show from_ + 8 - q.start = (from_ - q.start) + 8 by omega, ← List.drop_drop,
        show 8 * (n + 1 + 1) = 8 + 8 * (n + 1) by omega, List.take_add]
    rw [shifted, cutBeats, rest]
    simp only [beatPortion, first, if_true, bytes]

/-- A transaction whose beats lie in one place is one portion. -/
theorem cutRequest_of_place {m : RegionMap} {q : BusRequest} {pl : Place} (some_ : 1 ≤ q.beats)
    (places : ∀ i, i < q.beats → m.place (q.start + 8 * i) = pl)
    (whole : q.bytes = [] ∨ q.bytes.length = 8 * q.beats) :
    cutRequest m q = ⟨q, [{ place := pl, start := q.start, beats := q.beats, bytes := q.bytes }], []⟩ := by
  obtain ⟨n, hn⟩ : ∃ n, q.beats = n + 1 := ⟨q.beats - 1, by omega⟩
  have cut := cutBeats_of_place (m := m) (q := q) n q.start (fun i h => places i (by omega))
    (le_refl _) (whole.imp_right (by omega))
  have bytes : (q.bytes.drop (q.start - q.start)).take (8 * (n + 1)) = q.bytes := by
    rw [Nat.sub_self, List.drop_zero, List.take_of_length_le]
    rcases whole with none_ | all
    · simp [none_]
    · omega
  rw [cutRequest, hn, cut, bytes]

theorem beatsIn_iff (s : State) (start : Long) (beats : Nat) (pl : Place) :
    s.beatsIn start beats pl = true ↔
      ∀ i, i < beats → s.steering.map.place (firstBeat start + 8 * i) = pl := by
  simp [State.beatsIn]

/-! ### Presenting a transaction to a quiet port (R40, R41) -/

section
variable {s : State} {onL : Bool} {pl : Place} {q : BusRequest}

/-- The transaction that lies inside a port, of one portion and not yet begun. -/
def accepted (s : State) (onL : Bool) (q : BusRequest) (pl : Place) : State :=
  s.setPort onL ⟨some ⟨q, [{ place := pl, start := q.start, beats := q.beats, bytes := q.bytes }], []⟩,
    [], [], (s.port onL).answered⟩

/-- A transaction presented to a quiet port that accepts is cut and handled at once. -/
theorem present_of_one {onward : State} {p : Portion} (accepts : s.accepts = true)
    (quiet : (s.port onL).quiet = true) (some_ : 1 ≤ q.beats)
    (places : ∀ i, i < q.beats → s.steering.map.place (q.start + 8 * i) = pl)
    (whole : q.bytes = [] ∨ q.bytes.length = 8 * q.beats)
    (step : (accepted s onL q pl).advance onL q.isRead true true 0 0
      { place := pl, start := q.start, beats := q.beats, bytes := q.bytes } = (onward, p))
    (last : (onward.port onL).presented = []) :
    s.present onL q = (onward.setPort onL (settledPort (onward.port onL)
      ⟨q, [{ place := pl, start := q.start, beats := q.beats, bytes := q.bytes }], []⟩ p)).closeDrained := by
  have inside : ((accepted s onL q pl).port onL).current =
      some ⟨q, [{ place := pl, start := q.start, beats := q.beats, bytes := q.bytes }], []⟩ := by
    rw [accepted, port_setPort_self]
  have handled := run_of_one 2 inside rfl step last
  have rests := port_of_quiet quiet
  have waiting : (s.setPort onL { s.port onL with presented := [q] }).port onL =
      ⟨none, [q], [], (s.port onL).answered⟩ := by
    rw [port_setPort_self]
    exact congrArg (fun x : Port => { x with presented := [q] }) rests
  have accepts' : (s.setPort onL { s.port onL with presented := [q] }).accepts = true := by
    rw [setPort_eq]
    exact accepts
  have joins : (s.port onL).presented ++ [q] = [q] := by rw [rests]; rfl
  rw [← handled]
  unfold State.present State.run
  dsimp only
  rw [joins, waiting]
  show State.closeDrained (State.runPort onL (3 + 1) _) = _
  rw [State.runPort]
  simp only [waiting, accepts', if_true, setPort_setPort, map_setPort,
    cutRequest_of_place some_ places whole]
  rfl

theorem exec_read_of_legal (onL : Bool) (s : State) {start : Long} {beats : Nat} (low : 1 ≤ beats)
    (high : beats ≤ 8) (space : start.toNat / 8 * 8 + 8 * beats ≤ 2 ^ 32) :
    exec (if onL then .portLRead start beats else .portPRead start beats) s =
      .next (s.present onL ⟨true, start.toNat / 8 * 8, beats, []⟩) := by
  have legal : beatCountLegal beats = true := by simp [beatCountLegal, low, high]
  have inSpace : beatsInSpace start beats = true := decide_eq_true space
  have runs : s.presentRequestRead onL start beats =
      .next (s.present onL ⟨true, start.toNat / 8 * 8, beats, []⟩) := by
    simp [State.presentRequestRead, legal, inSpace, firstBeat]
  cases onL <;> exact runs

theorem exec_write_of_legal (onL : Bool) (s : State) {start : Long} {bytes : List (Option Byte)}
    (whole : bytes.length % 8 = 0) (some_ : bytes.length ≠ 0) (high : bytes.length ≤ 64)
    (space : start.toNat / 8 * 8 + bytes.length ≤ 2 ^ 32) :
    exec (if onL then .portLWrite start bytes else .portPWrite start bytes) s =
      .next (s.present onL ⟨false, start.toNat / 8 * 8, bytes.length / 8, bytes⟩) := by
  have legal : writeLegal bytes = true := by
    simp only [writeLegal, beatCountLegal, Bool.and_eq_true, beq_iff_eq, decide_eq_true_eq]
    omega
  have inSpace : beatsInSpace start (bytes.length / 8) = true :=
    decide_eq_true (show start.toNat / 8 * 8 + 8 * (bytes.length / 8) ≤ 2 ^ 32 by omega)
  have runs : s.presentRequestWrite onL start bytes =
      .next (s.present onL ⟨false, start.toNat / 8 * 8, bytes.length / 8, bytes⟩) := by
    simp [State.presentRequestWrite, legal, inSpace, firstBeat]
  cases onL <;> exact runs

end

/-! ### Portions that go to memory unchanged (R44) -/

theorem isPlain_place (onL isRead : Bool) (p : Portion) :
    p.isPlain onL isRead = p.place.isPlain onL isRead := by
  unfold Portion.isPlain Place.isPlain
  cases p.place <;> rfl

/-- A plain portion is passed to memory. -/
theorem advance_of_plain {s : State} {onL isRead : Bool} {p : Portion}
    (plain : p.place.isPlain onL isRead = true) (new : p.done = false ∧ p.started = false) (n : Nat) :
    s.advance onL isRead true true 0 n p = s.passPortion onL isRead 0 p := by
  obtain ⟨notDone, notStarted⟩ := new
  have waits : (p.done || p.atMemory onL isRead) = false := by
    simp [notDone, Portion.atMemory, notStarted]
  unfold State.advance
  rw [waits, isPlain_place, plain]
  simp only [Bool.false_eq_true, if_false, if_true, Bool.true_eq_false]
  cases h : p.place <;> cases onL <;> cases isRead <;> rw [h] at plain <;>
    simp_all [State.advanceP, State.advanceReadL, State.advanceWriteL, Place.isPlain]

/-- A plain transaction waits at port M as one access (R44). -/
theorem present_of_plain {s : State} {onL : Bool} {q : BusRequest} {pl : Place}
    (accepts : s.accepts = true) (quiet : (s.port onL).quiet = true) (some_ : 1 ≤ q.beats)
    (places : ∀ i, i < q.beats → s.steering.map.place (q.start + 8 * i) = pl)
    (whole : q.bytes = [] ∨ q.bytes.length = 8 * q.beats)
    (plain : pl.isPlain onL q.isRead = true) :
    ∃ t, s.present onL q = (s.setPort onL ⟨some t, [],
      [⟨0, .plain, q.start, q.beats, if q.isRead then none else some q.bytes⟩],
      (s.port onL).answered⟩).closeDrained := by
  have step := advance_of_plain (s := accepted s onL q pl) (onL := onL) (isRead := q.isRead)
    (p := { place := pl, start := q.start, beats := q.beats, bytes := q.bytes }) plain ⟨rfl, rfl⟩ 0
  have onward := present_of_one accepts quiet some_ places whole step (by
    simp [State.issue, accepted])
  exact ⟨_, by simpa [State.passPortion, State.issue, accepted, settledPort] using onward⟩

/-! ### Places (R42, R43) -/

theorem inRange_iff (r : Nat × Nat) (a : Nat) : inRange r a = true ↔ r.1 ≤ a ∧ a < r.1 + r.2 := by
  simp [inRange]

section
variable {α : Type} {n : Nat}

theorem mem_reduceOption_of_get {v : Vector (Option α) n} {i : Fin n} {a : α} (h : v[i] = some a) :
    a ∈ v.toList.reduceOption := by
  rw [List.reduceOption_mem_iff, ← h]
  exact Vector.mem_toList_iff.mpr (Vector.getElem_mem i.isLt)

end

/-- An address in no watched region is unwatched (R43). -/
theorem place_of_unwatched {m : RegionMap} {a : Nat} (h : ∀ r ∈ m.ranges, inRange r a = false) :
    m.place a = .unwatched := by
  simp only [RegionMap.ranges, List.mem_append, or_imp, forall_and, List.mem_map,
    forall_exists_index, and_imp, forall_apply_eq_imp_iff₂, Option.mem_toList, List.mem_singleton,
    forall_eq] at h
  obtain ⟨⟨⟨⟨⟨anchor, report⟩, areas⟩, transmit⟩, receive⟩, phantom⟩ := h
  have noReport : m.report.filter (fun r => inRange (r.base, 32 * r.entries) a) = none := by
    rw [Option.filter_eq_none_iff]
    exact fun r hr => by simp [report r hr]
  have noArea : allRings.findSome? (fun i => (m.areas[i].filter
      (fun r => inRange (r.base, 16 * r.count) a)).map (fun r => Place.descriptors i r)) = none := by
    rw [List.findSome?_eq_none_iff]
    intro i _
    rw [Option.map_eq_none_iff, Option.filter_eq_none_iff]
    exact fun r hr => by simp [areas r (mem_reduceOption_of_get hr)]
  have noGuard (v : Vector (Option Region) 8)
      (out : ∀ g ∈ v.toList.reduceOption, inRange (g.base, g.size) a = false) :
      allLinks.find? (fun l => v[l].any (fun g => inRange (g.base, g.size) a)) = none := by
    rw [List.find?_eq_none]
    intro l _
    rw [Option.any_eq_true]
    rintro ⟨g, hg, inside⟩
    exact Bool.false_ne_true ((out g (mem_reduceOption_of_get hg)).symm.trans inside)
  have noWindow : m.phantom.filter (fun b => inRange (b, 512) a) = none := by
    rw [Option.filter_eq_none_iff]
    exact fun b hb => by simp [phantom b hb]
  simp only [RegionMap.place, anchor, noReport, noArea, noGuard _ transmit, noGuard _ receive,
    noWindow, Bool.false_eq_true, if_false]

/-- An address in a descriptor area lies among the area's slots (R28). -/
theorem area_of_place {m : RegionMap} {a : Nat} {r : RingIndex} {area : Area}
    (h : m.place a = .descriptors r area) :
    m.areas[r] = some area ∧ area.base ≤ a ∧ a < area.base + 16 * area.count := by
  unfold RegionMap.place at h
  split at h
  · cases h
  · split at h
    · cases h
    · split at h
      · rename_i found
        subst h
        obtain ⟨i, -, inside⟩ := List.exists_of_findSome?_eq_some found
        obtain ⟨x, filtered, e⟩ := Option.map_eq_some_iff.mp inside
        cases e
        obtain ⟨is, within⟩ := Option.filter_eq_some_iff.mp filtered
        exact ⟨is, (inRange_iff _ _).mp within⟩
      · (repeat' split at h) <;> cases h

/-- Settles O10: the one access of a plain transaction, and the places of a map. -/
theorem plainTransactionsWaitAtPortM : Obligations.PlainTransactionsWaitAtPortM := by
  refine ⟨fun onL start pl s accepts quiet => ⟨?reads, ?writes⟩, fun m a => place_of_unwatched,
    fun m a r area => area_of_place⟩
  case reads =>
    intro beats low high space places plain
    rw [beatsIn_iff] at places
    obtain ⟨t, presents⟩ := present_of_plain (q := ⟨true, start.toNat / 8 * 8, beats, []⟩) accepts
      quiet low places (.inl rfl) plain
    refine ⟨_, (exec_read_of_legal onL s low high space).trans (congrArg _ presents), ?_⟩
    rw [port_setPort_self, port_setPort_not, still_setPort, setPort_eq]
    exact ⟨rfl, rfl, rfl, rfl, rfl, rfl, rfl⟩
  case writes =>
    intro bytes whole some_ high space places plain
    rw [beatsIn_iff] at places
    obtain ⟨t, presents⟩ := present_of_plain
      (q := ⟨false, start.toNat / 8 * 8, bytes.length / 8, bytes⟩) accepts quiet
      (show 1 ≤ bytes.length / 8 by omega) places
      (.inr (show bytes.length = 8 * (bytes.length / 8) by omega)) plain
    refine ⟨_, (exec_write_of_legal onL s whole some_ high space).trans (congrArg _ presents), ?_⟩
    rw [port_setPort_self, port_setPort_not, still_setPort, setPort_eq]
    exact ⟨rfl, rfl, rfl, rfl, rfl, rfl, rfl⟩

end Sys2Proof.Proofs.MemoryPort
end


section
/-! PROOFS. Grants of port M (R46 to R48) and the observations of a write (R45). -/

namespace Sys2Proof.Proofs.Grants
open Sys2Proof Sys2Proof.Machine
open Sys2Proof.Proofs.StillRecords Sys2Proof.Proofs.SlotsAndResults Sys2Proof.Proofs.MemoryPort

/-! ### Who is granted (R46, R180) -/

theorem resultUntaken_iff (s : State) :
    s.resultUntaken = true ↔ ∃ e, .landed (.result e) ∈ s.completions := by
  rw [State.resultUntaken, List.any_eq_true]
  refine ⟨fun ⟨c, mem, is⟩ => ?_, fun ⟨e, mem⟩ => ⟨_, mem, rfl⟩⟩
  split at is
  · exact ⟨_, mem⟩
  · cases is

theorem granted_of_taken {s : State} (taken : ∀ e, .landed (.result e) ∉ s.completions) :
    s.granted = s.arbiter.after.find? s.waits := by
  refine if_neg ?_
  rw [resultUntaken_iff]
  rintro ⟨e, mem⟩
  exact taken e mem

theorem find?_three {α : Type} (p : α → Bool) (a b c : α) : [a, b, c].find? p =
    if p a then some a else if p b then some b else if p c then some c else none := by
  simp only [List.find?_cons, List.find?_nil]
  cases p a <;> cases p b <;> cases p c <;> rfl

theorem grant_of_none {s : State} (none_ : s.granted = none) : s.grant = s := by
  simp only [State.grant, none_]

theorem arbiter_grantPort (s : State) (onL : Bool) : (s.grantPort onL).arbiter = s.arbiter := by
  obtain ⟨completions, memory, e⟩ := still_grantPort s onL
  exact congrArg Still.arbiter e

theorem arbiter_grantInternal (s : State) : s.grantInternal.arbiter = s.arbiter := by
  obtain ⟨completions, memory, e⟩ := still_grantInternal s
  exact congrArg Still.arbiter e

/-- The pointer moves to the requester that is granted. -/
theorem arbiter_grant (s : State) : s.grant.arbiter = s.granted.getD s.arbiter := by
  unfold State.grant
  cases s.granted with
  | none => rfl
  | some r =>
    cases r with
    | p => exact arbiter_grantPort ..
    | l => exact arbiter_grantPort ..
    | internal => exact arbiter_grantInternal _

/-- Settles O11: the cyclic order from each place of the pointer. -/
theorem portMGrantIsRoundRobin : Obligations.PortMGrantIsRoundRobin := by
  refine ⟨fun s taken => ?_, fun s e untaken => ?_, fun s => ?_⟩
  · rw [granted_of_taken taken]
    refine ⟨fun at_ => ?_, fun at_ => ?_, fun at_ => ?_⟩
    all_goals rw [at_]; exact find?_three s.waits ..
  · exact if_pos ((resultUntaken_iff s).mpr ⟨e, untaken⟩)
  · exact ⟨s.grant, rfl, arbiter_grant s, grant_of_none⟩

/-! ### An access of a port (R45, R46) -/

section
variable {s : State} {onL : Bool} {x : Transaction} {p : Portion} {a : Access}
  {answered : Option BusAnswer}

theorem grant_of_port (granted : s.granted = some (if onL then .l else .p)) :
    s.grant = ({ s with arbiter := if onL then .l else .p } : State).grantPort onL := by
  simp only [State.grant, granted]
  cases onL <;> rfl

theorem grantPort_of_one (port : s.port onL = ⟨some x, [], [a], answered⟩) : s.grantPort onL =
    ((s.setPort onL ⟨some x, [], [], answered⟩).performAccess onL a).run onL := by
  simp only [State.grantPort, port]

theorem serve_of_one {accesses : List Access} (port : s.port onL = ⟨some x, [], accesses, answered⟩)
    (one : x.portions = [p]) (f : Portion → Portion) : s.serve onL 0 f =
      s.setPort onL ⟨some { x with portions := [f p] }, [], accesses, answered⟩ := by
  simp only [State.serve, port, one]
  rfl

/-- A transaction whose one portion is done is answered, and the port rests. -/
theorem run_of_done (port : s.port onL = ⟨some x, [], [], answered⟩) (one : x.portions = [p])
    (done : p.done = true) : s.run onL = s.setPort onL ⟨none, [], [],
      some (if x.request.isRead then .data (readyBytes [p]) else .acknowledged)⟩ := by
  have inside : (s.port onL).current = some x := by rw [port]
  have step : s.advance onL x.request.isRead true true 0 x.returned.length p = (s, p) := by
    simp [State.advance, done]
  have steps : (s.port onL).steps = 2 := by rw [port]; rfl
  rw [State.run, steps, run_of_one 1 inside one step (by rw [port])]
  simp only [settledPort, done, if_true, port]

theorem performAccess_of_write {bytes : List (Option Byte)} (write : a.write = some bytes) :
    s.performAccess onL a = ({ s with
      memory := memWriteBytes s.memory a.address bytes
      completions := s.completions ++ (if onL then []
        else ((s.placeOf onL a.portion).map observations).getD []) } : State).serve onL a.portion
          (fun p => p.served a.use a.address []) := by
  simp only [State.performAccess, write]

theorem performAccess_of_plain_read (read : a.write = none) (plain : a.use = .plain) :
    s.performAccess onL a = s.serve onL a.portion
      (fun p => p.served .plain a.address (memReadBytes s.memory a.address (8 * a.beats))) := by
  simp only [State.performAccess, read, plain]

end

/-- The bytes of a portion that is answered whole. -/
theorem readyBytes_of_whole {p : Portion} (whole : p.answer.length = 8 * p.beats) :
    readyBytes [p] = p.answer := by
  simp [readyBytes, whole]

theorem port_arbiter (s : State) (onL : Bool) (m : MemoryRequester) :
    ({ s with arbiter := m } : State).port onL = s.port onL := by
  cases onL <;> rfl

/-- What a port's write leaves alone. -/
theorem setPort_others (s : State) (onL : Bool) (x : Port) :
    (s.setPort onL x).links = s.links ∧ (s.setPort onL x).mail = s.mail ∧
      (s.setPort onL x).memory = s.memory ∧ (s.setPort onL x).completions = s.completions := by
  cases onL <;> exact ⟨rfl, rfl, rfl, rfl⟩

section
variable {s : State} {onL : Bool} {x : Transaction} {p : Portion} {a : Access}
  {answered : Option BusAnswer} (port : s.port onL = ⟨some x, [], [a], answered⟩)
  (one : x.portions = [p]) (first : a.portion = 0) (plain : a.use = .plain)
include port one first plain

/-- A plain read answers its master with memory's bytes (R46). -/
theorem grantPort_of_plain_read (isRead : x.request.isRead = true) (read : a.write = none)
    (beats : p.beats = a.beats) : s.grantPort onL = s.setPort onL
      ⟨none, [], [], some (.data (memReadBytes s.memory a.address (8 * a.beats)))⟩ := by
  obtain ⟨-, -, memory, -⟩ := setPort_others s onL ⟨some x, [], [], answered⟩
  have whole : (p.served .plain a.address
      (memReadBytes s.memory a.address (8 * a.beats))).answer.length = 8 * p.beats :=
    (memReadBytes_length ..).trans (congrArg (8 * ·) beats.symm)
  rw [grantPort_of_one port, performAccess_of_plain_read read plain, first, memory,
    serve_of_one (port_setPort_self ..) one, setPort_setPort, run_of_done (port_setPort_self ..) rfl rfl,
    setPort_setPort, if_pos isRead, readyBytes_of_whole whole]
  rfl

/-- A plain write goes to memory, is observed on port P, and is acknowledged (R45, R46). -/
theorem grantPort_of_plain_write {bytes : List (Option Byte)} (isWrite : x.request.isRead = false)
    (write : a.write = some bytes) : s.grantPort onL = ({ s with
      memory := memWriteBytes s.memory a.address bytes
      completions := s.completions ++ (if onL then [] else observations p) } : State).setPort onL
        ⟨none, [], [], some .acknowledged⟩ := by
  obtain ⟨-, -, memory, completions⟩ := setPort_others s onL ⟨some x, [], [], answered⟩
  have place : (s.setPort onL ⟨some x, [], [], answered⟩).placeOf onL 0 = some p := by
    rw [State.placeOf, port_setPort_self]
    simp [one]
  have stored (m : List Host.Cell) (c : List Completion) :
      ({ s.setPort onL ⟨some x, [], [], answered⟩ with memory := m, completions := c } : State) =
        ({ s with memory := m, completions := c } : State).setPort onL ⟨some x, [], [], answered⟩ := by
    cases onL <;> rfl
  rw [grantPort_of_one port, performAccess_of_write write, first, memory, completions, place, stored,
    serve_of_one (port_setPort_self ..) one, setPort_setPort, plain,
    run_of_done (port_setPort_self ..) rfl rfl, setPort_setPort]
  simp only [isWrite, Bool.false_eq_true, if_false, Option.map_some, Option.getD_some]

end

/-- Settles O12: the access performed, the portion served, and the transaction answered. -/
theorem grantedPlainAccess : Obligations.GrantedPlainAccess := by
  intro onL s x p a answered port granted one started notDone place beats first use
  let t : State := { s with arbiter := if onL then .l else .p }
  have inside : t.port onL = ⟨some x, [], [a], answered⟩ := (port_arbiter ..).trans port
  refine ⟨fun read noWrite => ⟨s.grant, rfl, ?_⟩, fun bytes write stores wf => ⟨s.grant, rfl, ?_⟩⟩
  · rw [grant_of_port granted, grantPort_of_plain_read inside one first use read noWrite beats,
      port_setPort_self, port_setPort_not, still_setPort]
    obtain ⟨links, mail, -, -⟩ := setPort_others t onL
      ⟨none, [], [], some (.data (memReadBytes t.memory a.address (8 * a.beats)))⟩
    exact ⟨rfl, rfl, links, mail, port_arbiter ..⟩
  · rw [grant_of_port granted, grantPort_of_plain_write inside one first use write stores,
      port_setPort_self, port_setPort_not, still_setPort]
    obtain ⟨links, mail, memory, completions⟩ := setPort_others ({ t with
      memory := memWriteBytes t.memory a.address bytes
      completions := t.completions ++ (if onL then [] else observations p) } : State) onL
        ⟨none, [], [], some .acknowledged⟩
    refine ⟨rfl, fun b => ?_, completions, ?_, links, mail, ?_⟩
    · rw [memory]
      exact memRead_memWriteBytes b bytes a.address wf
    · rw [memory, completions]
      rfl
    · cases onL <;> rfl

/-! ### The internal master (R46 to R48) -/

theorem present_of_idle {m : InternalMaster} (idle : m.presenting = none) : m.present =
    { m with presenting := if m.reads ≠ [] then some .reads
      else if m.writes ≠ [] then some .writes else none } := by
  unfold InternalMaster.present
  rw [idle]
  dsimp only
  split
  · rfl
  · split
    · rfl
    · rw [← idle]

theorem present_present (m : InternalMaster) : m.present.present = m.present := by
  cases h : m.presenting with
  | some side =>
    have same : m.present = m := by simp only [InternalMaster.present, h]
    rw [same, same]
  | none =>
    rw [present_of_idle h]
    unfold InternalMaster.present
    by_cases reads : m.reads = []
    · by_cases writes : m.writes = []
      · simp [reads, writes]
      · simp [reads, writes]
    · simp [reads]

/-- A queued write's announcement, posted when it enters the queue (R37, R47). -/
def announced (s : State) (w : InternalWrite) : List (ReportSource × Report) :=
  s.mail.reports ++ (w.announce.map (fun r => (.linkUnit, { r with repeats := 0 }))).toList

theorem admitWrite_eq (s : State) (w : InternalWrite) : s.admitWrite w = { s with
    internal := ({ s.internal with writes := s.internal.writes ++ [w] } : InternalMaster).present
    mail := { s.mail with reports := announced s w } } := by
  unfold State.admitWrite announced
  dsimp only
  cases w.announce with
  | none => simp
  | some r => rfl

theorem admitWaitingWrite_of_none {s : State} (none_ : s.internal.waitingWrites = []) :
    s.admitWaitingWrite = s := by
  simp only [State.admitWaitingWrite, none_]

theorem admitWaitingWrite_of_some {s : State} {w : InternalWrite} {rest : List InternalWrite}
    (some_ : s.internal.waitingWrites = w :: rest) : s.admitWaitingWrite = { s with
      internal := ({ s.internal with
        writes := s.internal.writes ++ [w], waitingWrites := rest } : InternalMaster).present
      mail := { s.mail with reports := announced s w } } := by
  simp only [State.admitWaitingWrite, some_, admitWrite_eq]
  rfl

theorem admitWaitingRead_of_none {s : State} (none_ : s.internal.waitingReads = []) :
    s.admitWaitingRead = s := by
  simp only [State.admitWaitingRead, none_]

theorem admitWaitingRead_of_some {s : State} {r : InternalRead} {rest : List InternalRead}
    (some_ : s.internal.waitingReads = r :: rest) : s.admitWaitingRead = { s with
      internal := ({ s.internal with
        reads := s.internal.reads ++ [r], waitingReads := rest } : InternalMaster).present } := by
  simp only [State.admitWaitingRead, some_, State.admitRead]

theorem admitWaitingWrite_eq (s : State) : s.admitWaitingWrite = { s with
    internal := s.admitWaitingWrite.internal, mail := s.admitWaitingWrite.mail } := by
  cases h : s.internal.waitingWrites with
  | nil => rw [admitWaitingWrite_of_none h]
  | cons w rest => rw [admitWaitingWrite_of_some h]

theorem admitWaitingRead_eq (s : State) :
    s.admitWaitingRead = { s with internal := s.admitWaitingRead.internal } := by
  cases h : s.internal.waitingReads with
  | nil => rw [admitWaitingRead_of_none h]
  | cons r rest => rw [admitWaitingRead_of_some h]

theorem present_reads (m : InternalMaster) : m.present.reads = m.reads := by
  unfold InternalMaster.present
  (repeat' split) <;> rfl

theorem present_waitingReads (m : InternalMaster) : m.present.waitingReads = m.waitingReads := by
  unfold InternalMaster.present
  (repeat' split) <;> rfl

section
variable {s : State}

theorem grant_of_internal (granted : s.granted = some .internal) :
    s.grant = ({ s with arbiter := .internal } : State).grantInternal := by
  simp only [State.grant, granted]

/-- The write that the internal master performs, before the queue's next move. -/
def written (s : State) (w : InternalWrite) (rest : List InternalWrite) : State :=
  { s with
    internal := { s.internal with writes := rest, presenting := none }
    memory := memWriteBytes s.memory w.address (w.bytes.map some)
    completions := s.completions ++ [Completion.landed w.use] }

theorem grantInternal_of_write {w : InternalWrite} {rest : List InternalWrite}
    (side : s.internal.presenting = some .writes) (head : s.internal.writes = w :: rest) :
    s.grantInternal = { (written s w rest).admitWaitingWrite with
      internal := (written s w rest).admitWaitingWrite.internal.present } := by
  simp only [State.grantInternal, side, head]
  rfl

/-- The read that the internal master performs, before the queue's next move. -/
def readMade (s : State) (r : InternalRead) (rest : List InternalRead) : State :=
  { s with
    internal := { s.internal with reads := rest, presenting := none }
    completions := s.completions ++
      [Completion.data r.use (memReadBytes s.memory r.address (8 * r.beats))] }

theorem grantInternal_of_read {r : InternalRead} {rest : List InternalRead}
    (side : s.internal.presenting = some .reads) (head : s.internal.reads = r :: rest) :
    s.grantInternal = { (readMade s r rest).admitWaitingRead with
      internal := (readMade s r rest).admitWaitingRead.internal.present } := by
  simp only [State.grantInternal, side, head]
  rfl

end

/-- Settles O13: a write and a read performed, each with a request that waits for the place or without one, and a
request that finds a place or waits. -/
theorem internalMasterRequests : Obligations.InternalMasterRequests := by
  unfold Obligations.InternalMasterRequests
  intro announces
  refine ⟨fun s granted => ⟨?writes, ?reads⟩, fun s => ⟨?queued, ?waits, ?readQueued, ?readWaits⟩⟩
  case writes =>
    intro w rest side head wf
    have made : s.grant = _ := (grant_of_internal granted).trans
      (grantInternal_of_write (s := { s with arbiter := .internal }) side head)
    refine ⟨s.grant, rfl, ?_⟩
    rw [made]
    set u := written { s with arbiter := .internal } w rest with hu
    have others := admitWaitingWrite_eq u
    refine ⟨fun b => ?_, ?_, fun none_ => ?_, fun v more waits => ?_, ?_, ?_, ?_⟩
    · dsimp only
      rw [others]
      exact memRead_memWriteBytes b (w.bytes.map some) w.address wf
    · dsimp only
      rw [others]
      rfl
    · dsimp only
      rw [admitWaitingWrite_of_none (s := u) none_]
      exact ⟨rfl, present_of_idle rfl⟩
    · dsimp only
      rw [admitWaitingWrite_of_some (s := u) waits, present_present, present_of_idle rfl]
      refine ⟨rfl, ?_⟩
      simp [hu, written]
    · dsimp only
      rw [others]
      rfl
    · dsimp only
      rw [others]
      rfl
    · dsimp only
      rw [others]
      rfl
  case reads =>
    intro r rest side head
    have made : s.grant = _ := (grant_of_internal granted).trans
      (grantInternal_of_read (s := { s with arbiter := .internal }) side head)
    refine ⟨s.grant, rfl, ?_⟩
    rw [made]
    set u := readMade { s with arbiter := .internal } r rest with hu
    have others := admitWaitingRead_eq u
    refine ⟨?_, fun none_ => ?_, fun v more waits => ?_, ?_, ?_, ?_, ?_⟩
    · dsimp only
      rw [others]
      rfl
    · dsimp only
      rw [admitWaitingRead_of_none (s := u) none_]
      exact present_of_idle rfl
    · dsimp only
      rw [admitWaitingRead_of_some (s := u) waits, present_present, present_of_idle rfl]
      simp [hu, readMade]
    all_goals
      dsimp only
      rw [others]
      rfl
  case queued =>
    intro w room none_
    have enters : s.queueWrite w = s.admitWrite w := if_pos ⟨room, none_⟩
    rw [enters, admitWrite_eq]
    exact ⟨present_writes _, (present_waitingWrites _).trans none_, rfl, rfl⟩
  case waits =>
    intro w h
    refine if_neg ?_
    rintro ⟨room, none_⟩
    exact h.elim (Nat.not_le.mpr room) (fun waits => waits none_)
  case readQueued =>
    intro r room none_
    have enters : s.queueRead r = s.admitRead r := if_pos ⟨room, none_⟩
    rw [enters]
    exact ⟨present_reads _, (present_waitingReads _).trans none_, rfl, rfl⟩
  case readWaits =>
    intro r h
    refine if_neg ?_
    rintro ⟨room, none_⟩
    exact h.elim (Nat.not_le.mpr room) (fun waits => waits none_)

/-! ### Observations of a write (R45) -/

/-- What the enabled bytes at the first byte of an entry make. -/
def observed (bytes : List (Option Byte)) (offset : Nat → Nat) (make : Nat → Byte → Completion) :
    List Completion :=
  bytes.zipIdx.filterMap (fun b =>
    if offset b.2 % 32 = 0 then b.1.map (fun v => make (offset b.2 / 32) v) else none)

section
variable {bytes : List (Option Byte)} {offset : Nat → Nat} {make : Nat → Byte → Completion}

theorem mem_observed (c : Completion) : c ∈ observed bytes offset make ↔
    ∃ j v, bytes[j]? = some (some v) ∧ offset j % 32 = 0 ∧ c = make (offset j / 32) v := by
  simp only [observed, List.mem_filterMap, Prod.exists, List.mem_zipIdx_iff_getElem?]
  constructor
  · rintro ⟨b, j, at_, h⟩
    split at h
    · rename_i first
      obtain ⟨v, rfl, rfl⟩ := Option.map_eq_some_iff.mp h
      exact ⟨j, v, at_, first, rfl⟩
    · cases h
  · rintro ⟨j, v, at_, first, rfl⟩
    exact ⟨some v, j, at_, by rw [if_pos first]; rfl⟩

theorem zipIdx_pairwise {α : Type} (xs : List α) : xs.zipIdx.Pairwise (fun a b => a.2 < b.2) := by
  rw [List.pairwise_iff_getElem]
  intro i j hi hj below
  simpa using below

/-- The observations come in the order of their bytes. -/
theorem observed_pairwise : (observed bytes offset make).Pairwise (fun a b =>
    ∃ i j v w, i < j ∧ j < bytes.length ∧ offset i % 32 = 0 ∧ offset j % 32 = 0 ∧
      a = make (offset i / 32) v ∧ b = make (offset j / 32) w) := by
  rw [observed, List.pairwise_filterMap]
  refine (zipIdx_pairwise bytes).imp_of_mem fun {a b} _ hb below x hx y hy => ?_
  split at hx
  · rename_i first
    split at hy
    · rename_i second
      obtain ⟨v, -, rfl⟩ := Option.map_eq_some_iff.mp hx
      obtain ⟨w, -, rfl⟩ := Option.map_eq_some_iff.mp hy
      have at_ := List.mem_zipIdx_iff_getElem?.mp hb
      exact ⟨_, _, v, w, below, (List.getElem?_eq_some_iff.mp at_).1, first, second, rfl, rfl⟩
    · cases hy
  · cases hx

end

/-- Settles O14: the two rings by their entries, and no other place. -/
theorem observationsOfAWrite : Obligations.ObservationsOfAWrite := by
  refine ⟨fun p place within => ?command, fun p number base place from_ => ?report,
    fun p notCommand notReport => ?other⟩
  case command =>
    have is : observations p = observed p.bytes (fun i => p.start + i - p.start / 1024 * 1024)
        (fun e v => .commandWrite (Fin.ofNat 32 e) v) := by
      simp only [observations, place]
      rfl
    have inside {j : Nat} {v : Byte} (h : p.bytes[j]? = some (some v)) : j < p.bytes.length :=
      (List.getElem?_eq_some_iff.mp h).1
    rw [is]
    refine ⟨fun e v => (mem_observed _).trans ⟨?_, ?_⟩, ?_⟩
    · rintro ⟨j, w, at_, first, same⟩
      obtain ⟨rfl, rfl⟩ := Completion.commandWrite.inj same
      have := inside at_
      refine ⟨j, at_, ?_⟩
      simp only [Fin.val_ofNat]
      omega
    · rintro ⟨j, at_, first⟩
      refine ⟨j, v, at_, by omega, ?_⟩
      congr 1
      apply Fin.ext
      simp only [Fin.val_ofNat]
      omega
    · refine observed_pairwise.imp fun {a b} => ?_
      rintro ⟨i, j, v, w, below, last, first, second, rfl, rfl⟩
      refine ⟨_, v, _, w, rfl, rfl, ?_⟩
      rw [Fin.lt_def, Fin.val_ofNat, Fin.val_ofNat]
      omega
  case report =>
    have is : observations p = observed p.bytes (fun i => p.start + i - base)
        (fun e v => .reportWrite number e v) := by
      simp only [observations, place]
      rfl
    rw [is]
    refine ⟨fun m e v => (mem_observed _).trans ⟨?_, ?_⟩, ?_⟩
    · rintro ⟨j, w, at_, first, same⟩
      obtain ⟨rfl, rfl, rfl⟩ := Completion.reportWrite.inj same
      exact ⟨rfl, j, at_, by omega⟩
    · rintro ⟨rfl, j, at_, first⟩
      refine ⟨j, v, at_, by omega, ?_⟩
      congr 1
      omega
    · refine observed_pairwise.imp fun {a b} => ?_
      rintro ⟨i, j, v, w, below, last, first, second, rfl, rfl⟩
      exact ⟨_, v, _, w, rfl, rfl, by omega⟩
  case other =>
    unfold observations
    cases h : p.place
    case commandRing => exact absurd h notCommand
    case reportRing number base => exact absurd h (notReport number base)
    all_goals rfl

end Sys2Proof.Proofs.Grants
end


section
/-! PROOFS. The replay window accepts no sequence twice (R87, R95). -/

namespace Sys2Proof.Proofs.ReplayWindows
open Sys2Proof Sys2Proof.Machine

section
variable {w : ReplayWindow} {h q p : Seq}

theorem passes_of_fresh (fresh : w.highest = none) : w.passes q = true ↔ 1 ≤ q.toNat := by
  simp [ReplayWindow.passes, fresh]

theorem passes_of_highest (highest : w.highest = some h) : w.passes q = true ↔
    h.toNat < q.toNat ∨
      (1 ≤ q.toNat ∧ h.toNat < q.toNat + 64 ∧ w.marks.getLsbD (h.toNat - q.toNat) = false) := by
  simp [ReplayWindow.passes, highest, and_assoc]

theorem mark_of_fresh (fresh : w.highest = none) : w.mark q = ⟨some q, 1#64⟩ := by
  simp only [ReplayWindow.mark, fresh]

theorem mark_of_above (highest : w.highest = some h) (above : h.toNat < q.toNat) :
    w.mark q = ⟨some q, (w.marks <<< (q.toNat - h.toNat)) ||| 1#64⟩ := by
  simp only [ReplayWindow.mark, highest, if_pos above]

theorem mark_of_within (highest : w.highest = some h) (within : q.toNat ≤ h.toNat) :
    w.mark q = ⟨some h, w.marks ||| (1#64 <<< (h.toNat - q.toNat))⟩ := by
  simp only [ReplayWindow.mark, highest, if_neg (Nat.not_lt.mpr within)]

theorem not_passes_zero (w : ReplayWindow) : w.passes 0 = false := by
  rw [← Bool.not_eq_true]
  cases highest : w.highest with
  | none => simp [passes_of_fresh highest]
  | some h => simp [passes_of_highest highest]

/-- The highest marked, and its own mark. -/
theorem not_passes_highest {x : ReplayWindow} (highest : x.highest = some q)
    (marked : x.marks.getLsbD 0 = true) : x.passes q = false := by
  rw [← Bool.not_eq_true, passes_of_highest highest, Nat.sub_self, marked]
  simp

/-- A sequence that is marked fails its check. -/
theorem not_passes_mark_self (passed : w.passes q = true) : (w.mark q).passes q = false := by
  cases highest : w.highest with
  | none =>
    rw [mark_of_fresh highest]
    exact not_passes_highest rfl (show (1#64).getLsbD 0 = true by decide)
  | some h =>
    by_cases above : h.toNat < q.toNat
    · rw [mark_of_above highest above]
      exact not_passes_highest rfl (by simp)
    · have within := Nat.not_lt.mp above
      obtain ⟨-, near, -⟩ := ((passes_of_highest highest).mp passed).resolve_left above
      have inside : h.toNat - q.toNat < 64 := by omega
      rw [mark_of_within highest within, ← Bool.not_eq_true, passes_of_highest rfl]
      simp [inside]
      omega

/-- What a lower mark has in the window stays there when the window moves up. -/
theorem getLsbD_moved {marks : BitVec 64} (up : h.toNat < p.toNat) (below : q.toNat ≤ h.toNat)
    (near : p.toNat < q.toNat + 64) (marked : marks.getLsbD (h.toNat - q.toNat) = true) :
    ((marks <<< (p.toNat - h.toNat)) ||| 1#64).getLsbD (p.toNat - q.toNat) = true := by
  have inside : p.toNat - q.toNat < 64 := by omega
  have notBelow : ¬p.toNat - q.toNat < p.toNat - h.toNat := by omega
  have same : p.toNat - q.toNat - (p.toNat - h.toNat) = h.toNat - q.toNat := by omega
  simp [inside, notBelow, same, marked]

/-- What fails its check once fails it after every later mark. -/
theorem not_passes_mark (failed : w.passes q = false) : (w.mark p).passes q = false := by
  rw [← Bool.not_eq_true] at failed ⊢
  cases highest : w.highest with
  | none =>
    rw [passes_of_fresh highest] at failed
    have zero : q = 0 := BitVec.eq_of_toNat_eq (by simp; omega)
    rw [zero, not_passes_zero]
    exact Bool.false_ne_true
  | some h =>
    rw [passes_of_highest highest] at failed
    by_cases above : h.toNat < p.toNat
    · rw [mark_of_above highest above, passes_of_highest rfl]
      rintro (higher | ⟨one, near, unmarked⟩)
      · exact failed (.inl (by omega))
      · by_cases up : h.toNat < q.toNat
        · exact failed (.inl up)
        · refine failed (.inr ⟨one, by omega, Bool.eq_false_iff.mpr fun marked => ?_⟩)
          exact Bool.false_ne_true
            (unmarked.symm.trans (getLsbD_moved above (Nat.not_lt.mp up) near marked))
    · rw [mark_of_within highest (Nat.not_lt.mp above), passes_of_highest rfl]
      rintro (higher | ⟨one, near, unmarked⟩)
      · exact failed (.inl higher)
      · rw [BitVec.getLsbD_or, Bool.or_eq_false_iff] at unmarked
        exact failed (.inr ⟨one, near, unmarked.1⟩)

/-- The highest accepted never falls. -/
theorem highest_mark (highest : w.highest = some h) :
    ∃ h', (w.mark p).highest = some h' ∧ h.toNat ≤ h'.toNat := by
  by_cases above : h.toNat < p.toNat
  · exact ⟨p, by rw [mark_of_above highest above], above.le⟩
  · exact ⟨h, by rw [mark_of_within highest (Nat.not_lt.mp above)], le_refl _⟩

end

/-- Settles O38: the window by its highest number and its marks. -/
theorem replayWindowAcceptsNothingTwice : Obligations.ReplayWindowAcceptsNothingTwice :=
  fun w _ _ => ⟨not_passes_mark_self, not_passes_mark, not_passes_zero w, fun _ => highest_mark,
    fun fresh => by rw [mark_of_fresh fresh],
    fun _ highest above => (passes_of_highest highest).mpr (.inl above)⟩

end Sys2Proof.Proofs.ReplayWindows
end


section
/-! PROOFS. The KEK commands of the retained store: LOAD_KEK in its two parts, ERASE_KEK (R131 to R133). -/

namespace Sys2Proof.Proofs.KekCommands
open Sys2Proof Sys2Proof.Machine
open Sys2Proof.Proofs.CommandAnswers

/-! ### A command at the head of the store's queue (R127, R181) -/

/-- A dispatched command that the store finds at the head of its queue has the answer of its checks. -/
theorem exec_of_store_answer {c : Instr} {f : State → Answer} {s : State} {r : List Byte} {stamp : Seq}
    {rest : List StoreRequest} {a : Answer} (runs : exec c s = .next (s.carryOutAtStore c f))
    (head : s.store.requests = .command :: rest) (offered : s.offered c = some (r, stamp))
    (answer : f { s with store := s.store.tookHead .command rest } = a) :
    exec c s = .next (a.1.answer r a.2.1 a.2.2) := by
  have offeredThere : ({ s with store := s.store.tookHead .command rest } : State).offered c =
      some (r, stamp) := offered
  simp only [runs, State.carryOutAtStore, takeRequest_of_head head, offered, Option.isSome_some,
    if_true, carryOut_of_offered offeredThere, answer]

theorem live_ne_parked {m : Marker} (live : m = .live) : m ≠ .parked := by
  rw [live]
  decide

/-! ### LOAD_KEK, part 1 (R131) -/

section
variable {s : State} {part slot : Byte} {half : List Byte} {counter : Seq}

theorem loadPart1_of_bad_argument (bad : 4 ≤ slot.toNat ∨ part ≠ 1) :
    s.loadPart1 part slot half counter = (s, .badArgument, keyScrub) := by
  unfold State.loadPart1
  rcases bad with badSlot | badPart
  · rw [kekArg_eq_none badSlot]
  · cases kekArg slot with
    | none => rfl
    | some k => exact if_pos badPart

variable {k : KekIndex} (named : kekArg slot = some k)
include named

theorem loadPart1_of_parked (parked : s.store.marker = .parked) :
    s.loadPart1 1 slot half counter = (s, .storeParked, keyScrub) := by
  simp [State.loadPart1, named, parked]

variable (live : s.store.marker = .live)
include live

theorem loadPart1_of_loaded (loaded : (s.kek k).state = .loaded) :
    s.loadPart1 1 slot half counter = (s, .wrongState, keyScrub) := by
  simp [State.loadPart1, named, live, loaded]

theorem loadPart1_of_free (free : (s.kek k).state ≠ .loaded) :
    s.loadPart1 1 slot half counter =
      ({ s with store := { s.store with staging := some ⟨k, half, counter⟩ } }, .ok, keyScrub) := by
  simp [State.loadPart1, named, live, free]

end

/-! ### LOAD_KEK, part 2 (R132) -/

section
variable {s : State} {slot : Byte} {half : List Byte} {counter : Seq}

theorem loadPart2_of_bad_argument (bad : 4 ≤ slot.toNat) :
    s.loadPart2 slot half counter = (s, .badArgument, keyScrub) := by
  simp only [State.loadPart2, kekArg_eq_none bad]

variable {k : KekIndex} (named : kekArg slot = some k)
include named

theorem loadPart2_of_parked (parked : s.store.marker = .parked) :
    s.loadPart2 slot half counter = (s, .storeParked, keyScrub) := by
  simp [State.loadPart2, named, parked]

variable (live : s.store.marker = .live)
include live

theorem loadPart2_of_other_staging (other : ∀ st, s.store.staging = some st → st.slot ≠ k) :
    s.loadPart2 slot half counter = (s, .wrongState, keyScrub) := by
  have unstaged : s.store.staging.filter (fun st => st.slot == k) = none := by
    simpa [Option.filter_eq_none_iff] using other
  simp [State.loadPart2, named, live, unstaged]

theorem loadPart2_of_loaded (loaded : (s.kek k).state = .loaded) :
    s.loadPart2 slot half counter = (s, .wrongState, keyScrub) := by
  simp only [State.loadPart2, named, if_neg (live_ne_parked live), loaded, if_true]
  split <;> rfl

theorem loadPart2_of_staged {st : Staging} (staged : s.store.staging = some st)
    (same : st.slot = k) (free : (s.kek k).state ≠ .loaded) :
    s.loadPart2 slot half counter =
      ({ s with store := { s.store with
        slots := s.store.slots.set k ⟨.loaded, st.half ++ half, st.counter, counter⟩
        staging := none } }, .ok, keyScrub) := by
  have taken : s.store.staging.filter (fun st => st.slot == k) = some st := by simp [staged, same]
  simp [State.loadPart2, named, live, taken, free, State.setKek]

end

/-! ### ERASE_KEK (R133) -/

/-- The cipher engine after an erase of a KEK slot: it keeps the KEK that it is still fetching (R133). -/
def keptEngine (s : State) (k : KekIndex) : Engine :=
  match s.cipher.engine with
  | .fetching q none =>
    if q.key = .held (.kek k (s.erasures k)) ∧ (s.kek k).state = .loaded then
      .fetching q (some (s.kek k).key)
    else .fetching q none
  | other => other

theorem keepFetched_eq {s : State} {k : KekIndex} (live : s.store.marker = .live) :
    s.keepFetched k = s.setEngine (keptEngine s k) := by
  have same (e : Engine) (h : s.cipher.engine = e) : s.setEngine e = s := by
    subst h
    rfl
  unfold State.keepFetched keptEngine
  cases engine : s.cipher.engine with
  | free => exact (same _ engine).symm
  | busy q out => exact (same _ engine).symm
  | fetching q kept =>
    cases kept with
    | some key => exact (same _ engine).symm
    | none =>
      by_cases ref : q.key = .held (s.kekRef k)
      · by_cases loaded : (s.kek k).state = .loaded
        · simp only [State.kekRef] at ref
          simp [ref, loaded, live, State.kekRef, State.usableKek, State.kekUsable]
        · simp only [State.kekRef] at ref
          simp [ref, loaded, State.kekRef, State.usableKek, State.kekUsable]
      · have other : ¬(q.key = .held (.kek k (s.erasures k)) ∧ (s.kek k).state = .loaded) :=
          fun h => ref h.1
        simp only [if_neg ref, if_neg other]
        exact (same _ engine).symm

section
variable {s : State} {slot : Byte}

theorem eraseSlot_of_bad_argument (bad : 4 ≤ slot.toNat) :
    s.eraseSlot slot = s.refuse .badArgument := by
  simp only [State.eraseSlot, kekArg_eq_none bad]

variable {k : KekIndex} (named : kekArg slot = some k)
include named

theorem eraseSlot_of_parked (parked : s.store.marker = .parked) :
    s.eraseSlot slot = s.refuse .storeParked := by
  simp [State.eraseSlot, named, parked]

theorem eraseSlot_of_live (live : s.store.marker = .live) :
    s.eraseSlot slot = ((s.setEngine (keptEngine s k)).eraseKek k).accept := by
  simp only [State.eraseSlot, named, if_neg (live_ne_parked live), keepFetched_eq live]

end

/-- Settles O32: the store takes its request, and the answer is that of one check after the other. -/
theorem kekCommands : Obligations.KekCommands := by
  refine ⟨?load, ?erase⟩
  case load =>
    intro s r stamp rest slot half counter head t
    refine ⟨?part1, ?part2⟩
    case part1 =>
      intro part offered c
      have runs {a : Answer} (answer : t.loadPart1 part slot half counter = a) :
          exec c s = .next (a.1.answer r a.2.1 a.2.2) := exec_of_store_answer rfl head offered answer
      refine ⟨fun bad => runs (loadPart1_of_bad_argument bad), ?_⟩
      rintro k names rfl
      have named := kekArg_eq_some names
      exact ⟨fun parked => runs (loadPart1_of_parked named parked),
        fun live loaded => runs (loadPart1_of_loaded named live loaded),
        fun live free => runs (loadPart1_of_free named live free)⟩
    case part2 =>
      intro offered c
      have runs {a : Answer} (answer : t.loadPart2 slot half counter = a) :
          exec c s = .next (a.1.answer r a.2.1 a.2.2) := exec_of_store_answer rfl head offered answer
      refine ⟨fun bad => runs (loadPart2_of_bad_argument bad), ?_⟩
      intro k names
      have named := kekArg_eq_some names
      refine ⟨fun parked => runs (loadPart2_of_parked named parked), ?_, ?_⟩
      · rintro live (other | loaded)
        · exact runs (loadPart2_of_other_staging named live other)
        · exact runs (loadPart2_of_loaded named live loaded)
      · intro st live staged same free
        exact runs (loadPart2_of_staged (s := t) named live staged same free)
  case erase =>
    intro s r stamp rest slot head offered t
    have runs {a : Answer} (answer : t.eraseSlot slot = a) :
        exec (.eraseKek slot) s = .next (a.1.answer r a.2.1 a.2.2) :=
      exec_of_store_answer rfl head offered answer
    refine ⟨fun bad => runs (eraseSlot_of_bad_argument bad), ?_⟩
    intro k names
    have named := kekArg_eq_some names
    exact ⟨fun parked => runs (eraseSlot_of_parked named parked),
      fun live => runs (eraseSlot_of_live named live)⟩

end Sys2Proof.Proofs.KekCommands
end


section
/-! PROOFS. The cipher unit's windows and the loss of a context, as the contexts see them (R15, R61, R68, R90,
R93), and the engine's choice among the requesters (R15, R16). -/

namespace Sys2Proof.Proofs.CipherTaking
open Sys2Proof Sys2Proof.Machine
open Sys2Proof.Proofs.StillRecords

/-! ### A context replaced -/

@[simp] theorem setOut_outContext (s : State) (l : LinkSlot) (x : Option OutContext) :
    ((s.setOut l x).link l).outContext = x := by
  simp [State.setOut]

@[simp] theorem setIn_inContext (s : State) (l : LinkSlot) (x : Option InContext) :
    ((s.setIn l x).link l).inContext = x := by
  simp [State.setIn]

@[simp] theorem setOut_inContext (s : State) (l : LinkSlot) (x : Option OutContext) :
    ((s.setOut l x).link l).inContext = (s.link l).inContext := by
  simp [State.setOut]

@[simp] theorem setIn_outContext (s : State) (l : LinkSlot) (x : Option InContext) :
    ((s.setIn l x).link l).outContext = (s.link l).outContext := by
  simp [State.setIn]

/-! ### Feeding the queues: the engine is not touched (R15, R61, R90) -/

@[simp] theorem setQueue_engine (c : CipherUnit) (r : Requester) (q : List CipherRequest) :
    (c.setQueue r q).engine = c.engine := rfl

@[simp] theorem put_engine (c : CipherUnit) (q : CipherRequest) : (c.put q).engine = c.engine := rfl

@[simp] theorem withdraw_engine (c : CipherUnit) (r : Requester) (i : Nat) :
    (c.withdraw r i).engine = c.engine := rfl

@[simp] theorem feed_engine (make : Nat → CipherRequest) (bs : List Nat) :
    ∀ c : CipherUnit, (c.feed make bs).1.engine = c.engine := by
  induction bs with
  | nil => exact fun _ => rfl
  | cons b bs ih =>
    intro c
    unfold CipherUnit.feed
    split
    · exact ih _
    · rfl

@[simp] theorem feedOut_engine (s : State) (l : LinkSlot) :
    (s.feedOut l).cipher.engine = s.cipher.engine := by
  unfold State.feedOut
  (repeat' split) <;> simp

@[simp] theorem feedIn_engine (s : State) (l : LinkSlot) :
    (s.feedIn l).cipher.engine = s.cipher.engine := by
  unfold State.feedIn
  (repeat' split) <;> simp

/-- Feeding changes what an outbound context still wants, and nothing else of it. -/
theorem feedOut_outContext {s : State} {l : LinkSlot} {c : OutContext}
    (hc : (s.link l).outContext = some c) :
    ∃ wanted, ((s.feedOut l).link l).outContext =
      some { c with keystream := { c.keystream with wanted } } := by
  unfold State.feedOut
  simp only [hc]
  split
  · exact ⟨c.keystream.wanted, hc⟩
  · exact ⟨_, setOut_outContext _ l _⟩

theorem feedIn_inContext {s : State} {l : LinkSlot} {c : InContext}
    (hc : (s.link l).inContext = some c) :
    ∃ wanted, ((s.feedIn l).link l).inContext =
      some { c with keystream := { c.keystream with wanted } } := by
  unfold State.feedIn
  rw [hc]
  dsimp only
  split
  · exact ⟨_, setIn_inContext _ l _⟩
  · exact ⟨c.keystream.wanted, hc⟩

/-! ### The loss of a context (R68, R93) -/

@[simp] theorem loseOut_engine (s : State) (l : LinkSlot) (code : PartCode) :
    (s.loseOut l code).cipher.engine = s.cipher.engine := by
  unfold State.loseOut
  (repeat' split) <;> simp

@[simp] theorem loseIn_engine (s : State) (l : LinkSlot) (code : PartCode) :
    (s.loseIn l code).cipher.engine = s.cipher.engine := by
  unfold State.loseIn
  (repeat' split) <;> simp

theorem loseOut_outContext {s : State} {l : LinkSlot} {c : OutContext}
    (hc : (s.link l).outContext = some c) (kept : c.lost = none) (code : PartCode) :
    ((s.loseOut l code).link l).outContext =
      some { c with lost := some code, fill := none, keystream := c.keystream.drop } := by
  simp [State.loseOut, hc, kept]

theorem loseIn_inContext {s : State} {l : LinkSlot} {c : InContext}
    (hc : (s.link l).inContext = some c) (kept : c.lost = none) (early : c.early ≠ some .replay)
    (receiving : c.phase = .receiving) (code : PartCode) :
    ((s.loseIn l code).link l).inContext =
      some { c with lost := some code, keystream := c.keystream.drop } := by
  simp [State.loseIn, hc, kept, early, receiving]

/-! ### A key-gone result (R16) -/

theorem outKeyGone_engine (s : State) (l : LinkSlot) (i : Nat) (ref : KeyRef) :
    (s.outKeyGone l i ref).cipher.engine = s.cipher.engine := by
  unfold State.outKeyGone
  (repeat' split) <;> simp

theorem inKeyGone_engine (s : State) (l : LinkSlot) (i : Nat) (ref : KeyRef) :
    (s.inKeyGone l i ref).cipher.engine = s.cipher.engine := by
  unfold State.inKeyGone
  (repeat' split) <;> simp

/-- A key-gone result loses the outbound frame that asked, with the code of its key. -/
theorem outKeyGone_outContext {s : State} {l : LinkSlot} {c : OutContext} {i : Nat} {ref : KeyRef}
    (hc : (s.link l).outContext = some c) (same : c.ident = i) (kept : c.lost = none) :
    ∃ c', ((s.outKeyGone l i ref).link l).outContext = some c' ∧ c'.lost = some ref.lostCode := by
  obtain ⟨_, fed⟩ := feedOut_outContext (loseOut_outContext hc kept ref.lostCode)
  have gone : s.outKeyGone l i ref = (s.loseOut l ref.lostCode).feedOut l := by
    simp only [State.outKeyGone, hc, if_pos same]
  exact ⟨_, gone ▸ fed, rfl⟩

theorem inKeyGone_inContext {s : State} {l : LinkSlot} {c : InContext} {i : Nat} {ref : KeyRef}
    (hc : (s.link l).inContext = some c) (same : c.ident = i) (kept : c.lost = none)
    (early : c.early ≠ some .replay) (receiving : c.phase = .receiving) :
    ∃ c', ((s.inKeyGone l i ref).link l).inContext = some c' ∧ c'.lost = some ref.lostCode := by
  obtain ⟨_, fed⟩ := feedIn_inContext (loseIn_inContext hc kept early receiving ref.lostCode)
  have gone : s.inKeyGone l i ref = (s.loseIn l ref.lostCode).feedIn l := by
    simp only [State.inKeyGone, hc, if_pos same]
  exact ⟨_, gone ▸ fed, rfl⟩

/-! ### The next requester (R15) -/

/-- The first place of a range that an attempt answers. -/
theorem findSome?_range_of_first {α : Type} {f : Nat → Option α} {n d : Nat} {a : α} (hd : d < n)
    (found : f d = some a) (before : ∀ e, e < d → f e = none) :
    (List.range n).findSome? f = some a := by
  obtain ⟨m, rfl⟩ : ∃ m, n = d + (m + 1) := ⟨n - d - 1, by omega⟩
  have none_before : (List.range d).findSome? f = none :=
    List.findSome?_eq_none_iff.mpr fun e he => before e (List.mem_range.mp he)
  rw [List.range_add, List.findSome?_append, none_before, List.range_succ_eq_map]
  simp [found]

theorem next?_of_first {c : CipherUnit} {d : Nat} {q : CipherRequest} {rest : List CipherRequest}
    (hd : d < 17) (waits : c.queues[c.pointer + 1 + Fin.ofNat 17 d] = q :: rest)
    (before : ∀ e, e < d → c.queues[c.pointer + 1 + Fin.ofNat 17 e] = []) :
    c.next? = some (c.pointer + 1 + Fin.ofNat 17 d, q) := by
  unfold CipherUnit.next? requestersAfter
  rw [List.findSome?_map]
  refine findSome?_range_of_first hd ?_ fun e he => ?_
  · simp only [Function.comp_apply, waits]
  · simp only [Function.comp_apply, before e he]

theorem next?_of_empty {c : CipherUnit} (empty : ∀ i : Fin 17, c.queues[i] = []) : c.next? = none := by
  unfold CipherUnit.next?
  rw [List.findSome?_eq_none_iff]
  intro i _
  simp only [empty i]

/-! ### The engine takes a request (R15, R16) -/

/-- The engine gives up what is asked under a session key that is gone, and stays free. -/
theorem engineTakes_of_gone {s : State} {q : CipherRequest} {k : KeyIndex} {l m : LinkSlot}
    {epoch : Half} {n : BitVec 64} (key : q.key = .held (.session k l epoch n))
    (gone : s.holds k l epoch n = false) (asked : q.requester = .outbound m) :
    s.engineTakes q = s.outKeyGone m q.ident (.session k l epoch n) := by
  simp [State.engineTakes, key, gone, State.deliverGone, asked]

theorem engineTakes_of_session {s : State} {q : CipherRequest} {k : KeyIndex} {l : LinkSlot}
    {epoch : Half} {n : BitVec 64} (key : q.key = .held (.session k l epoch n))
    (held : s.holds k l epoch n = true) : s.engineTakes q = s.transform q (s.key k).key := by
  simp only [State.engineTakes, key, held, if_true]

theorem engineTakes_of_candidate {s : State} {q : CipherRequest} {j : Job} {candidate : List Byte}
    (key : q.key = .candidate) (job : s.keys.jobs.find? (fun j => j.ident == q.ident) = some j)
    (formed : j.candidate = some candidate) : s.engineTakes q = s.transform q candidate := by
  simp [State.engineTakes, key, State.candidateOf, job, formed]

theorem engineTakes_of_kek {s : State} {q : CipherRequest} {k : KekIndex} {n : Nat}
    (key : q.key = .held (.kek k n)) :
    s.engineTakes q = (s.setEngine (.fetching q none)).askStore (.keyFetch k) := by
  simp only [State.engineTakes, key]

/-- The engine takes the request of the next requester, whose queue goes on with the rest. -/
theorem exec_cipherTake_of_next {s : State} {i : Fin 17} {q : CipherRequest}
    {rest : List CipherRequest} (free : s.cipher.engine = .free) (next : s.cipher.next? = some (i, q))
    (waits : s.cipher.queues[i] = q :: rest) :
    exec .cipherTake s = .next (({ s with
      cipher := ⟨s.cipher.queues.set i rest, .free, i⟩ } : State).engineTakes q).resume := by
  change execCipherTake s = _
  simp only [execCipherTake, free, next, waits, List.drop_succ_cons, List.drop_zero]

theorem exec_cipherTake_of_none {s : State}
    (h : s.cipher.engine ≠ .free ∨ s.cipher.next? = none) : exec .cipherTake s = .next s := by
  change execCipherTake s = _
  unfold execCipherTake
  rcases h with busy | none
  · cases engine : s.cipher.engine with
    | free => exact absurd engine busy
    | fetching q kept => rfl
    | busy q out => rfl
  · rw [none]
    cases s.cipher.engine <;> rfl

/-- Settles O33: the first requester after the pointer is served, by the kind of key that it names. -/
theorem cipherTakesByRoundRobin : Obligations.CipherTakesByRoundRobin := by
  refine ⟨?takes, ?waits⟩
  case takes =>
    intro s d q rest hd i free waits before taken
    have runs : exec .cipherTake s = .next ((taken .free).engineTakes q).resume :=
      exec_cipherTake_of_next free (next?_of_first hd waits before) waits
    refine ⟨?session, ?candidate, ?kek, ?gone⟩
    case session =>
      intro k l epoch n key held
      have computes : (taken .free).engineTakes q =
          taken (.busy q (blockTransform (s.key k).key q.input)) := engineTakes_of_session key held
      rw [runs, computes]
    case candidate =>
      intro j candidate key job formed
      have computes : (taken .free).engineTakes q =
          taken (.busy q (blockTransform candidate q.input)) :=
        engineTakes_of_candidate key job formed
      rw [runs, computes]
    case kek =>
      intro k n key
      have fetches : (taken .free).engineTakes q =
          (taken (.fetching q none)).askStore (.keyFetch k) := engineTakes_of_kek key
      rw [runs, fetches]
    case gone =>
      intro k l epoch n m c key gone asked hc same kept
      have lost : (taken .free).engineTakes q =
          (taken .free).outKeyGone m q.ident (.session k l epoch n) :=
        engineTakes_of_gone key gone asked
      rw [runs, lost]
      exact ⟨_, rfl, outKeyGone_engine _ _ _ _, still_outKeyGone _ _ _ _,
        outKeyGone_outContext (s := taken .free) hc same kept⟩
  case waits =>
    rintro s (busy | empty)
    · exact exec_cipherTake_of_none (.inl busy)
    · exact exec_cipherTake_of_none (.inr (next?_of_empty empty))

end Sys2Proof.Proofs.CipherTaking
end


section
/-! PROOFS. What the key unit's operations do to the key table, to the link records and to the reports: retirement
(R106), activation (R113) and the two changes of a link's state that they cause (R116, R161). -/

namespace Sys2Proof.Proofs.KeyChanges
open Sys2Proof Sys2Proof.Machine
open Sys2Proof.Proofs.StillRecords Sys2Proof.Proofs.KeyStandings Sys2Proof.Proofs.CommandAnswers
open Sys2Proof.Proofs.CipherTaking Sys2Proof.Proofs.Frames

/-! ### Link records without their frame contexts -/

/-- A link record without its frame contexts: what the engines leave alone when they take a notice. -/
def bare (x : Link) : Link := { x with outContext := none, inContext := none }

theorem state_of_bare {x y : Link} (h : bare x = bare y) : x.state = y.state :=
  (congrArg Link.state h :)

theorem health_of_bare {x y : Link} (h : bare x = bare y) : x.health = y.health :=
  (congrArg Link.health h :)

/-- The link records of two states differ in frame contexts only, and for one link only. -/
def SameLinks (l : LinkSlot) (s t : State) : Prop :=
  (∀ m, m ≠ l → t.link m = s.link m) ∧ bare (t.link l) = bare (s.link l)

theorem SameLinks.refl (l : LinkSlot) (s : State) : SameLinks l s s := ⟨fun _ _ => rfl, rfl⟩

theorem SameLinks.trans {l : LinkSlot} {s t u : State} (h : SameLinks l s t) (h' : SameLinks l t u) :
    SameLinks l s u :=
  ⟨fun m ne => (h'.1 m ne).trans (h.1 m ne), h'.2.trans h.2⟩

theorem SameLinks.of_links {l : LinkSlot} {s t : State} (h : t.links = s.links) : SameLinks l s t := by
  have same (m : LinkSlot) : t.link m = s.link m := by simp only [State.link, h]
  exact ⟨fun m _ => same m, congrArg bare (same l)⟩

theorem sameLinks_setLink {s : State} {l : LinkSlot} {x : Link} (h : bare x = bare (s.link l)) :
    SameLinks l s (s.setLink l x) :=
  ⟨fun _ ne => State.setLink_link_ne s x (Ne.symm ne), by rw [State.setLink_link_self, h]⟩

theorem sameLinks_loseOut (s : State) (l : LinkSlot) (code : PartCode) :
    SameLinks l s (s.loseOut l code) := by
  unfold State.loseOut
  split
  · exact .refl l s
  · split
    · exact .refl l s
    · exact sameLinks_setLink (s := { s with cipher := _ }) rfl

theorem sameLinks_loseIn (s : State) (l : LinkSlot) (code : PartCode) :
    SameLinks l s (s.loseIn l code) := by
  unfold State.loseIn
  split
  · exact .refl l s
  · split
    · exact .refl l s
    · exact sameLinks_setLink (s := { s with cipher := _ }) rfl

theorem sameLinks_noticeOut (s : State) (l : LinkSlot) (ref : KeyRef) :
    SameLinks l s (s.noticeOut l ref) := by
  unfold State.noticeOut
  split
  · exact .refl l s
  · split
    · exact sameLinks_loseOut s l _
    · exact .refl l s

theorem sameLinks_noticeIn (s : State) (l : LinkSlot) (ref : KeyRef) :
    SameLinks l s (s.noticeIn l ref) := by
  unfold State.noticeIn
  split
  · exact .refl l s
  · split
    · exact sameLinks_loseIn s l _
    · exact .refl l s

/-! ### The mail and the notices -/

@[simp] theorem noticeOut_mail (s : State) (l : LinkSlot) (ref : KeyRef) :
    (s.noticeOut l ref).mail = s.mail := by
  unfold State.noticeOut State.loseOut
  (repeat' split) <;> rfl

@[simp] theorem noticeIn_mail (s : State) (l : LinkSlot) (ref : KeyRef) :
    (s.noticeIn l ref).mail = s.mail := by
  unfold State.noticeIn State.loseIn
  (repeat' split) <;> rfl

theorem post_reports (s : State) (source : ReportSource) (l : Option LinkSlot) (d : ReportDetail) :
    (s.post source l d).mail.reports = s.mail.reports ++ [(source, ⟨d, l, 0⟩)] := rfl

theorem post_link (s : State) (source : ReportSource) (l : Option LinkSlot) (d : ReportDetail)
    (m : LinkSlot) : (s.post source l d).link m = s.link m := rfl

theorem post_key (s : State) (source : ReportSource) (l : Option LinkSlot) (d : ReportDetail)
    (j : KeyIndex) : (s.post source l d).key j = s.key j := rfl

theorem setKey_link (s : State) (k : KeyIndex) (x : KeySlot) (m : LinkSlot) :
    (s.setKey k x).link m = s.link m := rfl

/-- What is posted stands among the reports. -/
theorem mem_post (s : State) (source : ReportSource) (l : Option LinkSlot) (d : ReportDetail) :
    (source, ⟨d, l, 0⟩) ∈ (s.post source l d).mail.reports := by
  simp [post_reports]

/-- Posting takes no report away. -/
theorem subset_post (s : State) (source : ReportSource) (l : Option LinkSlot) (d : ReportDetail) :
    s.mail.reports ⊆ (s.post source l d).mail.reports := by
  simp [post_reports]

/-! ### A slot that is emptied (R105, R106) -/

section
variable (s : State) (k : KeyIndex) (d : ReportDetail)

theorem retireSlot_reports : (s.retireSlot k d).mail.reports =
    s.mail.reports ++ [(.keyUnit, ⟨d, some (s.key k).link, 0⟩)] := by
  unfold State.retireSlot
  rw [post_reports, noticeIn_mail, noticeOut_mail]
  rfl

theorem mem_retireSlot : (.keyUnit, ⟨d, some (s.key k).link, 0⟩) ∈
    (s.retireSlot k d).mail.reports := by
  simp [retireSlot_reports]

theorem subset_retireSlot : s.mail.reports ⊆ (s.retireSlot k d).mail.reports := by
  simp [retireSlot_reports]

theorem sameLinks_retireSlot : SameLinks (s.key k).link s (s.retireSlot k d) :=
  ((SameLinks.of_links (t := s.setKey k KeySlot.empty) rfl).trans
    (sameLinks_noticeOut _ _ _)).trans ((sameLinks_noticeIn _ _ _).trans (.of_links rfl))

end

/-- Keys that a test does not look for may change. -/
theorem findKey_congr {s t : State} {l : LinkSlot} {p : KeyState → Bool}
    (h : ∀ j, t.key j = s.key j ∨
      ((t.key j).state = .empty ∨ p (t.key j).state = false) ∧ p (s.key j).state = false) :
    t.findKey l p = s.findKey l p := by
  unfold State.findKey
  refine congrArg (List.find? · allKeySlots) (funext fun j => ?_)
  rcases h j with same | ⟨out | out, out'⟩
  · rw [same]
  · simp [out, out']
  · simp [out, out']

theorem findKey_retireSlot {s : State} {k : KeyIndex} {d : ReportDetail} {l : LinkSlot}
    {p : KeyState → Bool} (out : p (s.key k).state = false) :
    (s.retireSlot k d).findKey l p = s.findKey l p := by
  refine findKey_congr fun j => ?_
  rw [retireSlot_key]
  split
  · next same => exact .inr ⟨.inl rfl, same ▸ out⟩
  · exact .inl rfl

section
variable {s : State} {l : LinkSlot} {k : KeyIndex}

theorem currentKey_link (h : s.currentKey l = some k) : (s.key k).link = l :=
  (place_eq_some.mp (place_currentKey h)).1
theorem currentKey_isCurrent (h : s.currentKey l = some k) : (s.key k).state.isCurrent = true :=
  standingOf_inForce.mp (place_eq_some.mp (place_currentKey h)).2
theorem pendingKey_link (h : s.pendingKey l = some k) : (s.key k).link = l :=
  (place_eq_some.mp (place_pendingKey h)).1
theorem pendingKey_state (h : s.pendingKey l = some k) : (s.key k).state = .pending :=
  standingOf_pending.mp (place_eq_some.mp (place_pendingKey h)).2
theorem drainingKey_link (h : s.drainingKey l = some k) : (s.key k).link = l :=
  (place_eq_some.mp (place_drainingKey h)).1
theorem drainingKey_state (h : s.drainingKey l = some k) : (s.key k).state = .draining :=
  standingOf_draining.mp (place_eq_some.mp (place_drainingKey h)).2

end

/-! ### The changes of a link's state (R18, R116, R161) -/

/-- A link record after an activation of its key. -/
def activatedLink (x : Link) : Link :=
  match x.state with
  | .awaitKey => { x with state := .keyed }
  | .quarantined => { x with state := .keyed, health := { x.health with e := 0, a := 0 } }
  | .closed | .keyed | .closing => x

/-- A link record after the loss of its key in force. -/
def keylessLink (x : Link) : Link :=
  match x.state with
  | .keyed | .quarantined => { x with state := .awaitKey }
  | .closed | .awaitKey | .closing => x

theorem bare_activatedLink (x : Link) : bare (activatedLink x) = activatedLink (bare x) := by
  cases h : x.state <;> simp only [activatedLink, bare, h]

theorem bare_keylessLink (x : Link) : bare (keylessLink x) = keylessLink (bare x) := by
  cases h : x.state <;> simp only [keylessLink, bare, h]

theorem setLink_same (s : State) (l : LinkSlot) : s.setLink l (s.link l) = s := by
  simp [State.setLink, State.link]

section
variable (s : State) (l : LinkSlot)

theorem linkActivated_links :
    (s.linkActivated l).links = (s.setLink l (activatedLink (s.link l))).links := by
  have same : s.links = (s.setLink l (s.link l)).links := by rw [setLink_same]
  cases h : (s.link l).state <;> simp only [State.linkActivated, activatedLink, h]
  case quarantined => rfl
  all_goals exact same

theorem linkKeyLost_links :
    (s.linkKeyLost l).links = (s.setLink l (keylessLink (s.link l))).links := by
  have same : s.links = (s.setLink l (s.link l)).links := by rw [setLink_same]
  cases h : (s.link l).state <;> simp only [State.linkKeyLost, keylessLink, h]
  case quarantined => rfl
  all_goals exact same

theorem linkActivated_link_self : (s.linkActivated l).link l = activatedLink (s.link l) := by
  simp only [State.link, linkActivated_links]
  exact State.setLink_link_self s l _

theorem linkKeyLost_link_self : (s.linkKeyLost l).link l = keylessLink (s.link l) := by
  simp only [State.link, linkKeyLost_links]
  exact State.setLink_link_self s l _

theorem linkActivated_link_ne {m : LinkSlot} (ne : m ≠ l) : (s.linkActivated l).link m = s.link m := by
  simp only [State.link, linkActivated_links]
  exact State.setLink_link_ne s _ (Ne.symm ne)

theorem linkKeyLost_link_ne {m : LinkSlot} (ne : m ≠ l) : (s.linkKeyLost l).link m = s.link m := by
  simp only [State.link, linkKeyLost_links]
  exact State.setLink_link_ne s _ (Ne.symm ne)

@[simp] theorem linkActivated_key (j : KeyIndex) : (s.linkActivated l).key j = s.key j :=
  key_of_frame (frame_linkActivated s l) j

@[simp] theorem linkKeyLost_key (j : KeyIndex) : (s.linkKeyLost l).key j = s.key j :=
  key_of_frame (frame_linkKeyLost s l) j

theorem subset_linkActivated : s.mail.reports ⊆ (s.linkActivated l).mail.reports := by
  unfold State.linkActivated
  dsimp only
  split <;> simp [post_reports]

theorem subset_linkKeyLost : s.mail.reports ⊆ (s.linkKeyLost l).mail.reports := by
  unfold State.linkKeyLost
  dsimp only
  split <;> simp [post_reports]

variable {s l}

theorem mem_linkActivated (q : (s.link l).state = .quarantined) :
    (.healthMonitor, ⟨.linkReleased .activation (s.link l).health.e (s.link l).health.a, some l, 0⟩) ∈
      (s.linkActivated l).mail.reports := by
  simp only [State.linkActivated, q]
  exact mem_post _ _ _ _

theorem mem_linkKeyLost (q : (s.link l).state = .quarantined) :
    (.healthMonitor, ⟨.linkReleased .keyLoss (s.link l).health.e (s.link l).health.a, some l, 0⟩) ∈
      (s.linkKeyLost l).mail.reports := by
  simp only [State.linkKeyLost, q]
  exact mem_post _ _ _ _

end

/-! ### Activation (R113) -/

section
variable (s : State) (l : LinkSlot)

theorem cutDraining_key (j : KeyIndex) : (s.cutDraining l).key j =
    if s.drainingKey l = some j then KeySlot.empty else s.key j := by
  unfold State.cutDraining
  cases h : s.drainingKey l with
  | none => rfl
  | some k => simp only [retireSlot_key, Option.some.injEq]

theorem cutDraining_currentKey (m : LinkSlot) : (s.cutDraining l).currentKey m = s.currentKey m := by
  unfold State.cutDraining
  split
  · rfl
  · next k h => exact findKey_retireSlot (by rw [drainingKey_state h]; rfl)

theorem sameLinks_cutDraining : SameLinks l s (s.cutDraining l) := by
  unfold State.cutDraining
  split
  · exact .refl l s
  · next k h => exact drainingKey_link h ▸ sameLinks_retireSlot s k _

theorem subset_cutDraining : s.mail.reports ⊆ (s.cutDraining l).mail.reports := by
  unfold State.cutDraining
  split
  · exact List.Subset.refl _
  · exact subset_retireSlot s _ _

theorem mem_cutDraining {s : State} {l : LinkSlot} {k : KeyIndex} (h : s.drainingKey l = some k) :
    (.keyUnit, ⟨.drainCut (s.key k).epoch ((s.key k).drain.getD 0), some l, 0⟩) ∈
      (s.cutDraining l).mail.reports := by
  simp only [State.cutDraining, h]
  exact drainingKey_link h ▸ mem_retireSlot s k _

variable (overlap : Nat)

/-- A superseded key: it drains for the overlap, or its slot is emptied. -/
def supersededKey (x : KeySlot) (overlap : Nat) : KeySlot :=
  if overlap = 0 then KeySlot.empty else { x with state := .draining, drain := some overlap }

theorem supersede_key (j : KeyIndex) : (s.supersede l overlap).key j =
    if s.currentKey l = some j then supersededKey (s.key j) overlap else s.key j := by
  unfold State.supersede supersededKey
  cases h : s.currentKey l with
  | none => rfl
  | some k =>
    by_cases zero : overlap = 0
    · simp only [if_pos zero, retireSlot_key, Option.some.injEq]
    · simp only [if_neg zero, Option.some.injEq]
      by_cases e : k = j
      · subst e
        simp
      · rw [State.setKey_key_ne s _ e, if_neg e]

theorem sameLinks_supersede : SameLinks l s (s.supersede l overlap) := by
  unfold State.supersede
  split
  · exact .refl l s
  · next k h =>
    split
    · exact currentKey_link h ▸ sameLinks_retireSlot s k _
    · exact .of_links rfl

theorem subset_supersede : s.mail.reports ⊆ (s.supersede l overlap).mail.reports := by
  unfold State.supersede
  split
  · exact List.Subset.refl _
  · split
    · exact subset_retireSlot s _ _
    · exact List.Subset.refl _

theorem mem_supersede {s : State} {l : LinkSlot} {k : KeyIndex} (h : s.currentKey l = some k) :
    (.keyUnit, ⟨.keyRetired (s.key k).epoch (s.key k).state .superseded, some l, 0⟩) ∈
      (s.supersede l 0).mail.reports := by
  simp only [State.supersede, h, if_true]
  exact currentKey_link h ▸ mem_retireSlot s k _

end

section
variable (s : State) (l : LinkSlot) (k : KeyIndex) (cause : ActivationCause)

/-- The state in which the new key is put in force: the old ones are settled. -/
def cleared : State := (s.cutDraining l).supersede l (s.key k).overlap

theorem activate_eq : s.activate l k cause =
    (((cleared s l k).setKey k { s.key k with state := .active, age := some 0 }).linkActivated l).post
      .keyUnit (some l) (.keyActivated (s.key k).epoch cause
        (((s.currentKey l).map (fun c => (s.key c).epoch)).getD 0)) := rfl

theorem sameLinks_cleared : SameLinks l s (cleared s l k) :=
  (sameLinks_cutDraining s l).trans (sameLinks_supersede _ l _)

theorem subset_cleared : s.mail.reports ⊆ (cleared s l k).mail.reports :=
  List.Subset.trans (subset_cutDraining s l) (subset_supersede _ l _)

theorem cleared_key (j : KeyIndex) : (cleared s l k).key j =
    if s.currentKey l = some j then supersededKey (s.key j) (s.key k).overlap
    else if s.drainingKey l = some j then KeySlot.empty else s.key j := by
  unfold cleared
  rw [supersede_key, cutDraining_currentKey, cutDraining_key]
  by_cases current : s.currentKey l = some j
  · have notDraining : s.drainingKey l ≠ some j := by
      intro draining
      have inForce := currentKey_isCurrent current
      rw [drainingKey_state draining] at inForce
      cases inForce
    rw [if_pos current, if_neg notDraining, if_pos current]
  · rw [if_neg current, if_neg current]

/-- Activation puts its key in force, settles the one in force and the DRAINING one, and leaves the others. -/
theorem activate_key (j : KeyIndex) : (s.activate l k cause).key j =
    if k = j then { s.key k with state := .active, age := some 0 }
    else if s.currentKey l = some j then supersededKey (s.key j) (s.key k).overlap
    else if s.drainingKey l = some j then KeySlot.empty else s.key j := by
  rw [activate_eq, post_key, linkActivated_key]
  by_cases e : k = j
  · rw [if_pos e, ← e, State.setKey_key_self]
  · rw [if_neg e, State.setKey_key_ne _ _ e, cleared_key]

theorem activate_link_ne {m : LinkSlot} (ne : m ≠ l) :
    (s.activate l k cause).link m = s.link m := by
  rw [activate_eq, post_link, linkActivated_link_ne _ l ne, setKey_link]
  exact (sameLinks_cleared s l k).1 m ne

theorem bare_activate_link : bare ((s.activate l k cause).link l) = activatedLink (bare (s.link l)) := by
  have self : (s.activate l k cause).link l = activatedLink ((cleared s l k).link l) := by
    rw [activate_eq, post_link, linkActivated_link_self, setKey_link]
  rw [self, bare_activatedLink, (sameLinks_cleared s l k).2]

theorem mem_activate : (.keyUnit, ⟨.keyActivated (s.key k).epoch cause
    (((s.currentKey l).map (fun c => (s.key c).epoch)).getD 0), some l, 0⟩) ∈
      (s.activate l k cause).mail.reports := mem_post _ _ _ _

theorem subset_activate_of_cleared :
    (cleared s l k).mail.reports ⊆ (s.activate l k cause).mail.reports := by
  have put : (cleared s l k).mail.reports =
      ((cleared s l k).setKey k { s.key k with state := .active, age := some 0 }).mail.reports := rfl
  rw [activate_eq, put]
  exact List.Subset.trans (subset_linkActivated _ l) (subset_post _ _ _ _)

theorem subset_activate : s.mail.reports ⊆ (s.activate l k cause).mail.reports :=
  List.Subset.trans (subset_cleared s l k) (subset_activate_of_cleared s l k cause)

variable {s l k cause}

theorem mem_activate_cut {d : KeyIndex} (h : s.drainingKey l = some d) :
    (.keyUnit, ⟨.drainCut (s.key d).epoch ((s.key d).drain.getD 0), some l, 0⟩) ∈
      (s.activate l k cause).mail.reports :=
  subset_activate_of_cleared s l k cause (subset_supersede _ l _ (mem_cutDraining h))

theorem mem_activate_superseded {c : KeyIndex} (h : s.currentKey l = some c)
    (zero : (s.key k).overlap = 0) :
    (.keyUnit, ⟨.keyRetired (s.key c).epoch (s.key c).state .superseded, some l, 0⟩) ∈
      (s.activate l k cause).mail.reports := by
  refine subset_activate_of_cleared s l k cause ?_
  have current : (s.cutDraining l).currentKey l = some c := (cutDraining_currentKey s l l).trans h
  have notDraining : s.drainingKey l ≠ some c := by
    intro draining
    have inForce := currentKey_isCurrent h
    rw [drainingKey_state draining] at inForce
    cases inForce
  have same : (s.cutDraining l).key c = s.key c := by rw [cutDraining_key, if_neg notDraining]
  have posted := mem_supersede current
  rw [same] at posted
  simpa only [cleared, zero] using posted

/-- LINK_RELEASED of an activation carries E and A as they were before it (R161). -/
theorem mem_activate_released (q : (s.link l).state = .quarantined) :
    (.healthMonitor, ⟨.linkReleased .activation (s.link l).health.e (s.link l).health.a, some l, 0⟩) ∈
      (s.activate l k cause).mail.reports := by
  have kept : bare ((cleared s l k).link l) = bare (s.link l) := (sameLinks_cleared s l k).2
  have state : ((cleared s l k).link l).state = .quarantined := (state_of_bare kept).trans q
  have health : ((cleared s l k).link l).health = (s.link l).health := health_of_bare kept
  have put := setKey_link (cleared s l k) k { s.key k with state := .active, age := some 0 } l
  rw [← put] at state
  rw [activate_eq, ← health, ← put]
  exact subset_post _ _ _ _ (mem_linkActivated state)

end

/-! ### Retirement with its succession (R106) -/

section
variable (s : State) (k : KeyIndex) (cause : RetireCause)

/-- The state after the slot is emptied, before the succession. -/
def emptied : State := s.retireSlot k (.keyRetired (s.key k).epoch (s.key k).state cause)

theorem emptied_key_self : (emptied s k cause).key k = KeySlot.empty := by
  rw [emptied, retireSlot_key, if_pos rfl]

theorem emptied_key_ne {j : KeyIndex} (ne : j ≠ k) : (emptied s k cause).key j = s.key j := by
  rw [emptied, retireSlot_key, if_neg (Ne.symm ne)]

theorem mem_emptied : (.keyUnit, ⟨.keyRetired (s.key k).epoch (s.key k).state cause,
    some (s.key k).link, 0⟩) ∈ (emptied s k cause).mail.reports := mem_retireSlot s k _

variable {s k}

theorem emptied_pendingKey (current : (s.key k).state.isCurrent = true) (l : LinkSlot) :
    (emptied s k cause).pendingKey l = s.pendingKey l := by
  refine findKey_retireSlot ?_
  cases h : (s.key k).state <;> simp_all [KeyState.isCurrent]

theorem retire_of_not_current (h : (s.key k).state.isCurrent = false) :
    s.retire k cause = emptied s k cause := by
  simp [State.retire, h, emptied]

theorem retire_of_successor (current : (s.key k).state.isCurrent = true) {p : KeyIndex}
    (h : s.pendingKey (s.key k).link = some p) :
    s.retire k cause = (emptied s k cause).activate (s.key k).link p .expiry := by
  have successor := (emptied_pendingKey cause current (s.key k).link).trans h
  unfold State.retire
  rw [if_pos current]
  simp only [emptied] at successor ⊢
  rw [successor]

theorem retire_of_last (current : (s.key k).state.isCurrent = true)
    (h : s.pendingKey (s.key k).link = none) :
    s.retire k cause = (emptied s k cause).linkKeyLost (s.key k).link := by
  have successor := (emptied_pendingKey cause current (s.key k).link).trans h
  unfold State.retire
  rw [if_pos current]
  simp only [emptied] at successor ⊢
  rw [successor]

/-- A slot that is empty before an activation of another key is empty after it. -/
theorem activate_key_of_empty {s : State} {l : LinkSlot} {k p : KeyIndex} {cause : ActivationCause}
    (empty : s.key k = KeySlot.empty) (ne : p ≠ k) : (s.activate l p cause).key k = KeySlot.empty := by
  have notCurrent : s.currentKey l ≠ some k := by
    intro current
    have inForce := currentKey_isCurrent current
    rw [empty] at inForce
    cases inForce
  rw [activate_key, if_neg ne, if_neg notCurrent, empty, ite_self]

variable (s k)

theorem retire_key_self : (s.retire k cause).key k = KeySlot.empty := by
  cases current : (s.key k).state.isCurrent with
  | false => rw [retire_of_not_current cause current, emptied_key_self]
  | true =>
    cases pending : s.pendingKey (s.key k).link with
    | none => rw [retire_of_last cause current pending, linkKeyLost_key, emptied_key_self]
    | some p =>
      have ne : p ≠ k := by
        rintro rfl
        rw [pendingKey_state pending] at current
        cases current
      rw [retire_of_successor cause current pending]
      exact activate_key_of_empty (emptied_key_self s k cause) ne

theorem retire_link_ne {m : LinkSlot} (ne : m ≠ (s.key k).link) :
    (s.retire k cause).link m = s.link m := by
  have kept : (emptied s k cause).link m = s.link m := (sameLinks_retireSlot s k _).1 m ne
  cases current : (s.key k).state.isCurrent with
  | false => rw [retire_of_not_current cause current, kept]
  | true =>
    cases pending : s.pendingKey (s.key k).link with
    | none => rw [retire_of_last cause current pending, linkKeyLost_link_ne _ _ ne, kept]
    | some p => rw [retire_of_successor cause current pending, activate_link_ne _ _ _ _ ne, kept]

theorem subset_retire_of_emptied :
    (emptied s k cause).mail.reports ⊆ (s.retire k cause).mail.reports := by
  cases current : (s.key k).state.isCurrent with
  | false => rw [retire_of_not_current cause current]; exact List.Subset.refl _
  | true =>
    cases pending : s.pendingKey (s.key k).link with
    | none => rw [retire_of_last cause current pending]; exact subset_linkKeyLost _ _
    | some p => rw [retire_of_successor cause current pending]; exact subset_activate _ _ _ _

theorem mem_retire : (.keyUnit, ⟨.keyRetired (s.key k).epoch (s.key k).state cause,
    some (s.key k).link, 0⟩) ∈ (s.retire k cause).mail.reports :=
  subset_retire_of_emptied s k cause (mem_emptied s k cause)

variable {s k} {l : LinkSlot}

/-- The PENDING key that succeeds the key in force. -/
theorem retire_key_successor (current : s.currentKey l = some k) {p : KeyIndex}
    (pending : s.pendingKey l = some p) :
    (s.retire k cause).key p = { s.key p with state := .active, age := some 0 } := by
  have inForce := currentKey_isCurrent current
  have ne : p ≠ k := by
    rintro rfl
    rw [pendingKey_state pending] at inForce
    cases inForce
  rw [retire_of_successor cause inForce ((currentKey_link current).symm ▸ pending), activate_key,
    if_pos rfl, emptied_key_ne _ _ _ ne]

/-- The link record after the retirement of the key in force. -/
theorem bare_retire_link (current : s.currentKey l = some k) :
    bare ((s.retire k cause).link l) =
      if (s.pendingKey l).isSome then activatedLink (bare (s.link l))
      else keylessLink (bare (s.link l)) := by
  have inForce := currentKey_isCurrent current
  have link := currentKey_link current
  have kept : bare ((emptied s k cause).link l) = bare (s.link l) :=
    (link ▸ sameLinks_retireSlot s k _ : SameLinks l s _).2
  cases pending : s.pendingKey l with
  | none =>
    rw [retire_of_last cause inForce (link.symm ▸ pending), link, linkKeyLost_link_self,
      bare_keylessLink, kept]
    rfl
  | some p =>
    rw [retire_of_successor cause inForce (link.symm ▸ pending), link, bare_activate_link, kept]
    rfl

/-- LINK_RELEASED of the retirement of a QUARANTINED link's key in force (R161). -/
theorem mem_retire_released (current : s.currentKey l = some k)
    (q : (s.link l).state = .quarantined) :
    (.healthMonitor, ⟨.linkReleased (if (s.pendingKey l).isSome then .activation else .keyLoss)
      (s.link l).health.e (s.link l).health.a, some l, 0⟩) ∈ (s.retire k cause).mail.reports := by
  have inForce := currentKey_isCurrent current
  have link := currentKey_link current
  have kept : bare ((emptied s k cause).link l) = bare (s.link l) :=
    (link ▸ sameLinks_retireSlot s k _ : SameLinks l s _).2
  have state : ((emptied s k cause).link l).state = .quarantined := (state_of_bare kept).trans q
  have health : ((emptied s k cause).link l).health = (s.link l).health := health_of_bare kept
  rw [← health]
  cases pending : s.pendingKey l with
  | none =>
    rw [retire_of_last cause inForce (link.symm ▸ pending), link]
    exact mem_linkKeyLost state
  | some p =>
    rw [retire_of_successor cause inForce (link.symm ▸ pending), link]
    exact mem_activate_released state

end

end Sys2Proof.Proofs.KeyChanges
end


section
/-! PROOFS. RETIRE_KEY (R122), and the tests of a boundary: drain end, timed activation, overdue and expiry,
renewal due (R114, R117 to R120). -/

namespace Sys2Proof.Proofs.KeyTests
open Sys2Proof Sys2Proof.Machine
open Sys2Proof.Proofs.StillRecords Sys2Proof.Proofs.KeyStandings Sys2Proof.Proofs.CommandAnswers
open Sys2Proof.Proofs.KeyChanges

/-! ### RETIRE_KEY (R122) -/

/-- The key of a link that RETIRE_KEY names. -/
def chosenKey (s : State) (l : LinkSlot) (named : Byte) : Option KeyIndex :=
  if named = 0 then s.pendingKey l else if named = 1 then s.currentKey l else s.drainingKey l

section
variable {s : State} {link named : Byte} {l : LinkSlot} {k : KeyIndex}

theorem namedKey_of_le (legal : named.toNat ≤ 2) :
    s.namedKey l named = some (chosenKey s l named) := by
  unfold State.namedKey chosenKey
  split
  · rfl
  · split
    · rfl
    · next ne0 ne1 =>
      have two : named = 2 := by bv_omega
      rw [if_pos two]

theorem namedKey_of_three_le (illegal : 3 ≤ named.toNat) : s.namedKey l named = none := by
  unfold State.namedKey
  rw [if_neg (by bv_omega), if_neg (by bv_omega), if_neg (by bv_omega)]

theorem retireKey_of_bad_argument (bad : 8 ≤ link.toNat ∨ 3 ≤ named.toNat) :
    s.retireKey link named = s.refuse .badArgument := by
  unfold State.retireKey
  rcases bad with badLink | badState
  · rw [linkArg_eq_none badLink]
  · cases linkArg link with
    | none => rfl
    | some l => simp only [namedKey_of_three_le badState]

theorem retireKey_of_absent (hl : linkArg link = some l) (legal : named.toNat ≤ 2)
    (absent : chosenKey s l named = none) : s.retireKey link named = s.refuse .wrongState := by
  simp only [State.retireKey, hl, namedKey_of_le legal, absent]

theorem retireKey_of_present (hl : linkArg link = some l) (legal : named.toNat ≤ 2)
    (present : chosenKey s l named = some k) :
    s.retireKey link named = (s.retire k .command).accept := by
  simp only [State.retireKey, hl, namedKey_of_le legal, present]

theorem exec_retireKey_of_answer {r : List Byte} {stamp : Seq} {t : State} {code : ResultCode}
    (offered : s.offered (.retireKey link named) = some (r, stamp))
    (answer : s.retireKey link named = (t, code, [])) :
    exec (.retireKey link named) s = .next (t.answer r code []).resume := by
  change execRetireKey link named s = _
  simp only [execRetireKey, offered, Option.isSome_some, if_true, carryOut_of_offered offered, answer]

theorem chosenKey_link (h : chosenKey s l named = some k) : (s.key k).link = l := by
  unfold chosenKey at h
  split at h
  · exact pendingKey_link h
  · split at h
    · exact currentKey_link h
    · exact drainingKey_link h

/-- RETIRE_KEY takes the key in force only where its state byte is 1. -/
theorem chosenKey_not_current (h : chosenKey s l named = some k) (other : named ≠ 1) :
    (s.key k).state.isCurrent = false := by
  unfold chosenKey at h
  rw [if_neg other] at h
  split at h
  · rw [pendingKey_state h]
    rfl
  · rw [drainingKey_state h]
    rfl

end

/-- Settles O31: the answers, and the retirement of each of the three keys with its succession. -/
theorem retireKeyRetiresTheKey : Obligations.RetireKeyRetiresTheKey := by
  intro s r stamp link named c offered
  have runs {t : State} {code : ResultCode} (answer : s.retireKey link named = (t, code, [])) :
      exec c s = .next (t.answer r code []).resume := exec_retireKey_of_answer offered answer
  refine ⟨fun bad => runs (retireKey_of_bad_argument bad), ?_⟩
  intro l names key legal
  have hl := linkArg_eq_some names
  refine ⟨fun absent => runs (retireKey_of_absent hl legal absent), ?_⟩
  intro k present
  have link := chosenKey_link (named := named) present
  refine ⟨s.retire k .command,
    runs (retireKey_of_present hl legal present),
    retire_key_self s k _, ?posted, ?others, ?successor, ?last, still_retire _ _ _, ?links⟩
  case posted => exact link ▸ mem_retire s k .command
  case others =>
    intro other j ne
    rw [retire_of_not_current .command (chosenKey_not_current present other)]
    exact emptied_key_ne s k _ ne
  case successor =>
    rintro rfl p pending
    have activated := retire_key_successor .command (show s.currentKey l = some k from present) pending
    exact ⟨congrArg KeySlot.state activated, congrArg KeySlot.age activated⟩
  case last =>
    rintro rfl none keyed
    have lost := bare_retire_link .command (show s.currentKey l = some k from present)
    rw [none] at lost
    have state : (bare ((s.retire k .command).link l)).state = (keylessLink (bare (s.link l))).state :=
      congrArg Link.state lost
    simpa [keylessLink, bare, keyed] using state
  case links => exact fun m ne => retire_link_ne s k _ (link.symm ▸ ne)

/-! ### The tests one by one -/

theorem exec_drainEnd_of_test {s t : State} {l : LinkSlot} (h : s.drainEndTest l = t) :
    exec (.drainEnd l) s = .next t.resume := by
  rw [← h]
  rfl

theorem exec_keyExpiry_of_test {s t : State} {l : LinkSlot} (h : s.expiryTest l = t) :
    exec (.keyExpiry l) s = .next t.resume := by
  rw [← h]
  rfl

section
variable {s : State} {l : LinkSlot} {k : KeyIndex}

theorem drainEndTest_of_zero (h : s.drainingKey l = some k) (zero : (s.key k).drain = some 0) :
    s.drainEndTest l = s.retire k .drainEnd := by
  simp [State.drainEndTest, h, zero]

theorem drainEndTest_of_succ (h : s.drainingKey l = some k) {d : Nat}
    (left : (s.key k).drain = some (d + 1)) : s.drainEndTest l = s := by
  simp [State.drainEndTest, h, left]

variable {age : Nat} (current : s.currentKey l = some k) (old : (s.key k).age = some age)
include current old

theorem overdueTest_of_due (active : (s.key k).state = .active) (due : (s.key k).lifetime ≤ age) :
    s.overdueTest l = (s.setKey k { s.key k with state := .overdue }).post .keyUnit (some l)
      (.keyOverdue (s.key k).epoch age) := by
  simp [State.overdueTest, current, old, active, due]

theorem overdueTest_of_not_due (h : (s.key k).state = .overdue ∨ age < (s.key k).lifetime) :
    s.overdueTest l = s := by
  have not : ¬((s.key k).state = .active ∧ (s.key k).lifetime ≤ (s.key k).age.getD 0) := by
    rintro ⟨active, due⟩
    rw [old, Option.getD_some] at due
    rcases h with overdue | young
    · rw [active] at overdue
      cases overdue
    · omega
  simp only [State.overdueTest, current, if_neg not]

theorem expiryTest_of_due (overdue : (s.key k).state = .overdue)
    (due : (s.key k).lifetime + (s.link l).grace ≤ age) :
    s.expiryTest l = s.retire k .expiry := by
  simp [State.expiryTest, current, old, overdue, due]

theorem expiryTest_of_not_due
    (h : (s.key k).state = .active ∨ age < (s.key k).lifetime + (s.link l).grace) :
    s.expiryTest l = s := by
  have not : ¬((s.key k).state = .overdue ∧
      (s.key k).lifetime + (s.link l).grace ≤ (s.key k).age.getD 0) := by
    rintro ⟨overdue, due⟩
    rw [old, Option.getD_some] at due
    rcases h with active | young
    · rw [overdue] at active
      cases active
    · omega
  simp only [State.expiryTest, current, if_neg not]

end

section
variable {s : State} {l : LinkSlot} {k : KeyIndex} {t : Long} (pending : s.pendingKey l = some k)
  (timed : (s.key k).activation = some t)
include pending timed

theorem timedActivationTest_of_due (valid : s.time.valid = true)
    (due : t.toNat ≤ s.time.seconds.toNat) : s.timedActivationTest l = s.activate l k .time := by
  simp [State.timedActivationTest, pending, timed, valid, due]

theorem timedActivationTest_of_early
    (h : s.time.valid = false ∨ s.time.seconds.toNat < t.toNat) : s.timedActivationTest l = s := by
  have not : ¬(s.time.valid = true ∧ t.toNat ≤ s.time.seconds.toNat) := by
    rintro ⟨valid, due⟩
    rcases h with invalid | early
    · rw [valid] at invalid
      cases invalid
    · omega
  simp only [State.timedActivationTest, pending, timed, if_neg not]

end

/-- Without a PENDING key with an activation time that has come, timed activation leaves the state. -/
theorem timedActivationTest_of_none_due {s : State} {l : LinkSlot}
    (h : ∀ k t, s.pendingKey l = some k → (s.key k).activation = some t →
      s.time.valid = false ∨ s.time.seconds.toNat < t.toNat) : s.timedActivationTest l = s := by
  cases pending : s.pendingKey l with
  | none => simp only [State.timedActivationTest, pending]
  | some k =>
    cases timed : (s.key k).activation with
    | none => simp only [State.timedActivationTest, pending, timed]
    | some t => exact timedActivationTest_of_early pending timed (h k t pending timed)

theorem pass_eq (x : KeySlot) : x.pass =
    if x.state = .active ∨ x.state = .overdue then { x with age := some (x.age.getD 0 + 1) }
    else if x.state = .draining then { x with drain := some (x.drain.getD 0 - 1) }
    else x := by
  cases h : x.state <;> simp [KeySlot.pass, h]

theorem passBoundary_key (s : State) (l : LinkSlot) (k : KeyIndex) : (s.passBoundary l).key k =
    if (s.key k).link = l then (s.key k).pass else s.key k :=
  State.mapKeys_key s (fun x => if x.link = l then x.pass else x) k

/-! ### Renewal due (R117) -/

section
variable {s : State} {l : LinkSlot} {k : KeyIndex} {age : Nat}

theorem dueTest_of_no_key (none : s.currentKey l = none) : s.dueTest l = s := by
  simp only [State.dueTest, none]

theorem dueTest_of_reported (current : s.currentKey l = some k)
    (h : (s.pendingKey l).isSome = true ∨ (s.key k).dueReported = true) :
    s.dueTest l = s := by
  simp only [State.dueTest, current, if_pos h]

theorem dueByAge_iff (old : (s.key k).age = some age) :
    (s.key k).dueByAge = true ↔ (s.key k).lifetime * 7 / 8 ≤ age := by
  simp [KeySlot.dueByAge, old]

theorem dueBySequence_iff : (s.key k).dueBySequence = true ↔
    2 ^ 47 ≤ (s.key k).nextSequence.toNat := by
  simp [KeySlot.dueBySequence]

/-- What the renewal-due test posts for a cause. -/
theorem reportDue_eq (old : (s.key k).age = some age) (bySequence : Bool) : s.reportDue l k bySequence =
    { s.setKey k { s.key k with dueReported := true } with
      mail := { s.mail with reports := s.mail.reports ++
        [(.keyUnit, ⟨.renewalDue (s.key k).epoch bySequence age, some l, 0⟩)] } } := by
  simp only [State.reportDue, old, Option.getD_some]
  rfl

variable (current : s.currentKey l = some k) (old : (s.key k).age = some age)
include current old

theorem dueTest_of_no_cause (youth : ¬(s.key k).lifetime * 7 / 8 ≤ age)
    (few : ¬2 ^ 47 ≤ (s.key k).nextSequence.toNat) : s.dueTest l = s := by
  rw [← dueByAge_iff old] at youth
  rw [← dueBySequence_iff] at few
  unfold State.dueTest
  rw [current]
  dsimp only
  rw [if_neg (c := _ ∧ _) (fun h => youth h.1), if_neg youth, if_neg few, ite_self]

variable (alone : s.pendingKey l = none) (first : (s.key k).dueReported = false)
include alone first

omit old in
/-- The causes that hold decide what is reported; which of two is named is a free value (log 15). -/
theorem dueTest_of_first : s.dueTest l =
    if (s.key k).dueByAge = true ∧ (s.key k).dueBySequence = true then
      (s.reportDue l k (Config.dueNamesSequence s.freeCount)).useFree
    else if (s.key k).dueByAge = true then s.reportDue l k false
    else if (s.key k).dueBySequence = true then s.reportDue l k true else s := by
  have open_ : ¬((s.pendingKey l).isSome = true ∨ (s.key k).dueReported = true) := by
    simp [alone, first]
  unfold State.dueTest
  rw [current]
  exact if_neg open_

theorem dueTest_of_age (aged : (s.key k).lifetime * 7 / 8 ≤ age)
    (few : ¬2 ^ 47 ≤ (s.key k).nextSequence.toNat) : s.dueTest l = s.reportDue l k false := by
  rw [← dueByAge_iff old] at aged
  rw [← dueBySequence_iff] at few
  rw [dueTest_of_first current alone first, if_neg (fun h => few h.2), if_pos aged]

theorem dueTest_of_sequence (youth : ¬(s.key k).lifetime * 7 / 8 ≤ age)
    (many : 2 ^ 47 ≤ (s.key k).nextSequence.toNat) : s.dueTest l = s.reportDue l k true := by
  rw [← dueByAge_iff old] at youth
  rw [← dueBySequence_iff] at many
  rw [dueTest_of_first current alone first, if_neg (fun h => youth h.1), if_neg youth,
    if_pos many]

theorem dueTest_of_both (aged : (s.key k).lifetime * 7 / 8 ≤ age)
    (many : 2 ^ 47 ≤ (s.key k).nextSequence.toNat) :
    s.dueTest l = (s.reportDue l k (Config.dueNamesSequence s.freeCount)).useFree := by
  rw [← dueByAge_iff old] at aged
  rw [← dueBySequence_iff] at many
  rw [dueTest_of_first current alone first, if_pos ⟨aged, many⟩]

end

/-! ### Expiry and timed activation, with what follows them -/

/-- Keys of different standings lie in different slots. -/
theorem ne_of_standing {s : State} {j k : KeyIndex} {l m : LinkSlot} {a b : Standing}
    (hj : place (s.key j) = some (l, a)) (hk : place (s.key k) = some (m, b)) (ne : a ≠ b) : j ≠ k := by
  rintro rfl
  rw [hj] at hk
  exact ne (congrArg Prod.snd (Option.some.inj hk))

theorem state_of_activated {x y : Link} (h : bare y = activatedLink (bare x))
    (waits : x.state = .awaitKey ∨ x.state = .quarantined) : y.state = .keyed := by
  have state : y.state = (activatedLink (bare x)).state := (congrArg Link.state h :)
  rcases waits with awaits | quarantined
  · simpa [activatedLink, bare, awaits] using state
  · simpa [activatedLink, bare, quarantined] using state

theorem health_of_activated {x y : Link} (h : bare y = activatedLink (bare x))
    (quarantined : x.state = .quarantined) : y.health = { x.health with e := 0, a := 0 } := by
  have health : y.health = (activatedLink (bare x)).health := (congrArg Link.health h :)
  simpa [activatedLink, bare, quarantined] using health

theorem keyed_of_activated {x y : Link} (h : bare y = activatedLink (bare x))
    (keyed : x.state = .keyed) : y.state = .keyed := by
  have state : y.state = (activatedLink (bare x)).state := (congrArg Link.state h :)
  simpa [activatedLink, bare, keyed] using state

theorem state_of_keyless {x y : Link} (h : bare y = keylessLink (bare x))
    (hadKey : x.state = .keyed ∨ x.state = .quarantined) : y.state = .awaitKey := by
  have state : y.state = (keylessLink (bare x)).state := (congrArg Link.state h :)
  rcases hadKey with keyed | quarantined
  · simpa [keylessLink, bare, keyed] using state
  · simpa [keylessLink, bare, quarantined] using state

theorem health_of_keyless {x y : Link} (h : bare y = keylessLink (bare x)) : y.health = x.health := by
  have health : y.health = (keylessLink (bare x)).health := (congrArg Link.health h :)
  rw [health]
  cases state : x.state <;> simp [keylessLink, bare, state]

section
variable {s : State} {l : LinkSlot} {k : KeyIndex} (cause : RetireCause)

theorem bare_retire_of_successor (current : s.currentKey l = some k)
    (pending : (s.pendingKey l).isSome = true) :
    bare ((s.retire k cause).link l) = activatedLink (bare (s.link l)) := by
  rw [bare_retire_link cause current, if_pos pending]

theorem bare_retire_of_last (current : s.currentKey l = some k) (none : s.pendingKey l = none) :
    bare ((s.retire k cause).link l) = keylessLink (bare (s.link l)) := by
  rw [bare_retire_link cause current, none]
  rfl

end

section
variable {s : State} {l : LinkSlot} {k c : KeyIndex} (pending : s.pendingKey l = some k)
  (cause : ActivationCause)
include pending

theorem activate_key_current (current : s.currentKey l = some c) :
    (s.activate l k cause).key c = supersededKey (s.key c) (s.key k).overlap := by
  have ne : k ≠ c := ne_of_standing (place_pendingKey pending) (place_currentKey current) nofun
  rw [activate_key, if_neg ne, if_pos current]

theorem activate_key_draining (draining : s.drainingKey l = some c) :
    (s.activate l k cause).key c = KeySlot.empty := by
  have ne : k ≠ c := ne_of_standing (place_pendingKey pending) (place_drainingKey draining) nofun
  have notCurrent : s.currentKey l ≠ some c := fun current =>
    ne_of_standing (place_currentKey current) (place_drainingKey draining) nofun rfl
  rw [activate_key, if_neg ne, if_neg notCurrent, if_pos draining]

end

/-- Settles O40: the tests one after the other, each with the retirement or the activation that it makes. -/
theorem keysDrainAgeAndExpire : Obligations.KeysDrainAgeAndExpire := by
  refine ⟨fun s l k => ⟨?drain, ?inForce⟩, fun s l => ?boundary⟩
  case drain =>
    intro draining
    have link := drainingKey_link draining
    have state := drainingKey_state draining
    refine ⟨fun zero => ?_, fun d left => ?_⟩
    · refine ⟨s.retire k .drainEnd, ?_, retire_key_self s k _, ?_, still_retire _ _ _, ?_⟩
      · exact exec_drainEnd_of_test (drainEndTest_of_zero draining zero)
      · intro j ne
        rw [retire_of_not_current _ (by rw [state]; rfl)]
        exact emptied_key_ne s k _ ne
      · have posted := mem_retire s k .drainEnd
        rwa [link, state] at posted
    · exact exec_drainEnd_of_test (drainEndTest_of_succ draining left)
  case inForce =>
    intro current age old
    have link := currentKey_link current
    refine ⟨fun active due => congrArg Host.Outcome.next (overdueTest_of_due current old active due),
      fun h => congrArg Host.Outcome.next (overdueTest_of_not_due current old h),
      fun h => exec_keyExpiry_of_test (expiryTest_of_not_due current old h),
      fun overdue due => ⟨s.retire k .expiry, ?_, retire_key_self s k _, still_retire _ _ _, ?_, ?_,
        ?_, ?_, ?_⟩⟩
    · exact exec_keyExpiry_of_test (expiryTest_of_due current old overdue due)
    · exact fun m ne => retire_link_ne s k _ (link.symm ▸ ne)
    · have posted := mem_retire s k .expiry
      rwa [link, overdue] at posted
    · intro p pending
      have activated := retire_key_successor .expiry current pending
      refine ⟨congrArg KeySlot.state activated, congrArg KeySlot.age activated, ?_⟩
      exact keyed_of_activated (bare_retire_of_successor _ current (by rw [pending]; rfl))
    · exact fun none keyed => state_of_keyless (bare_retire_of_last _ current none) (.inl keyed)
    · intro quarantined h
      have released := mem_retire_released .expiry current quarantined
      refine ⟨fun none => ?_, fun some => ?_⟩
      · have lost := bare_retire_of_last .expiry current none
        rw [none] at released
        exact ⟨state_of_keyless lost (.inr quarantined), health_of_keyless lost, released⟩
      · have pending : (s.pendingKey l).isSome = true := Option.isSome_iff_ne_none.mpr some
        have put := bare_retire_of_successor .expiry current pending
        rw [if_pos pending] at released
        exact ⟨state_of_activated put (.inr quarantined), health_of_activated put quarantined,
          released⟩
  case boundary =>
    refine ⟨rfl, rfl, rfl, rfl, fun k => ?passed, rfl, rfl, timedActivationTest_of_none_due,
      ?activated, dueTest_of_no_key, ?due⟩
    case passed =>
      rw [passBoundary_key, pass_eq, ite_not]
    case activated =>
      intro k t pending timed valid due
      rw [timedActivationTest_of_due pending timed valid due]
      intro u posted
      have put : bare (u.link l) = activatedLink (bare (s.link l)) := bare_activate_link s l k _
      have announced := mem_activate s l k .time
      refine ⟨?_, still_activate _ _ _ _, state_of_activated put, fun quarantined => ?_, fun c current =>
        ⟨?_, fun overlap => ?_, fun zero => ⟨?_, ?_⟩⟩, fun none => ?_, fun c draining =>
        ⟨activate_key_draining pending _ draining, mem_activate_cut draining⟩, fun o ne notCurrent
        notDraining => ?_⟩
      · exact (activate_key s l k .time k).trans (if_pos rfl)
      · exact ⟨health_of_activated put quarantined, mem_activate_released quarantined⟩
      · rwa [current] at announced
      · exact (activate_key_current pending _ current).trans (if_neg overlap)
      · exact (activate_key_current pending _ current).trans (if_pos zero)
      · exact mem_activate_superseded current zero
      · rwa [none] at announced
      · exact (activate_key s l k .time o).trans
          (by rw [if_neg (Ne.symm ne), if_neg notCurrent, if_neg notDraining])
    case due =>
      intro k age current old due byAge bySequence
      have reported (b : Bool) : s.reportDue l k b = due b := reportDue_eq old b
      refine ⟨?_, fun alone first => ⟨fun aged few => ?_, fun youth many => ?_, fun aged many => ?_⟩⟩
      · rintro (pending | before | ⟨youth, few⟩)
        · exact dueTest_of_reported current (.inl pending)
        · exact dueTest_of_reported current (.inr before)
        · exact dueTest_of_no_cause current old youth few
      · rw [dueTest_of_age current old alone first aged few, reported]
      · rw [dueTest_of_sequence current old alone first youth many, reported]
      · rw [dueTest_of_both current old alone first aged many, reported]
        rfl

end Sys2Proof.Proofs.KeyTests
end


section
/-! PROOFS. The corrected second boundary (R136, R137): the key unit's steps leave the monitor's counts and the
rest of the part alone, and the silence tests post in the order of the links. -/

namespace Sys2Proof.Proofs.SecondBoundary
open Sys2Proof Sys2Proof.Machine
open Sys2Proof.Proofs.StillRecords Sys2Proof.Proofs.KeyStandings Sys2Proof.Proofs.KeyChanges
open Sys2Proof.Proofs.KeyTests Sys2Proof.Proofs.ClockAndMonitor

/-! ### What lies aside from the key unit -/

/-- A state without what the key unit's operations change: the cipher unit, the links, the key table, the
reports and the count of free values. -/
def aside (s : State) : State :=
  { s with
    cipher := CipherUnit.reset
    links := Vector.replicate 8 Link.reset
    keys := { s.keys with table := Vector.replicate 24 KeySlot.empty }
    mail := { s.mail with reports := [] }
    freeCount := 0 }

@[simp] theorem aside_setLink (s : State) (l : LinkSlot) (x : Link) : aside (s.setLink l x) = aside s := rfl
@[simp] theorem aside_setOut (s : State) (l : LinkSlot) (x : Option OutContext) :
    aside (s.setOut l x) = aside s := rfl
@[simp] theorem aside_setIn (s : State) (l : LinkSlot) (x : Option InContext) :
    aside (s.setIn l x) = aside s := rfl
@[simp] theorem aside_setKey (s : State) (k : KeyIndex) (x : KeySlot) : aside (s.setKey k x) = aside s := rfl
@[simp] theorem aside_cipher (s : State) (c : CipherUnit) : aside { s with cipher := c } = aside s := rfl
@[simp] theorem aside_post (s : State) (source : ReportSource) (l : Option LinkSlot)
    (d : ReportDetail) : aside (s.post source l d) = aside s := rfl
@[simp] theorem aside_useFree (s : State) : aside s.useFree = aside s := rfl

@[simp] theorem aside_loseOut (s : State) (l : LinkSlot) (code : PartCode) :
    aside (s.loseOut l code) = aside s := by
  unfold State.loseOut
  (repeat' split) <;> simp

@[simp] theorem aside_loseIn (s : State) (l : LinkSlot) (code : PartCode) :
    aside (s.loseIn l code) = aside s := by
  unfold State.loseIn
  (repeat' split) <;> simp

@[simp] theorem aside_feedOut (s : State) (l : LinkSlot) : aside (s.feedOut l) = aside s := by
  unfold State.feedOut
  (repeat' split) <;> simp

@[simp] theorem aside_feedIn (s : State) (l : LinkSlot) : aside (s.feedIn l) = aside s := by
  unfold State.feedIn
  (repeat' split) <;> simp

@[simp] theorem aside_noticeOut (s : State) (l : LinkSlot) (ref : KeyRef) :
    aside (s.noticeOut l ref) = aside s := by
  unfold State.noticeOut
  (repeat' split) <;> simp

@[simp] theorem aside_noticeIn (s : State) (l : LinkSlot) (ref : KeyRef) :
    aside (s.noticeIn l ref) = aside s := by
  unfold State.noticeIn
  (repeat' split) <;> simp

@[simp] theorem aside_retireSlot (s : State) (k : KeyIndex) (d : ReportDetail) :
    aside (s.retireSlot k d) = aside s := by
  simp [State.retireSlot]

@[simp] theorem aside_cutDraining (s : State) (l : LinkSlot) : aside (s.cutDraining l) = aside s := by
  unfold State.cutDraining
  split <;> simp

@[simp] theorem aside_supersede (s : State) (l : LinkSlot) (overlap : Nat) :
    aside (s.supersede l overlap) = aside s := by
  unfold State.supersede
  (repeat' split) <;> simp

@[simp] theorem aside_linkActivated (s : State) (l : LinkSlot) : aside (s.linkActivated l) = aside s := by
  unfold State.linkActivated
  dsimp only
  split <;> simp

@[simp] theorem aside_linkKeyLost (s : State) (l : LinkSlot) : aside (s.linkKeyLost l) = aside s := by
  unfold State.linkKeyLost
  dsimp only
  split <;> simp

@[simp] theorem aside_activate (s : State) (l : LinkSlot) (k : KeyIndex) (cause : ActivationCause) :
    aside (s.activate l k cause) = aside s := by
  simp [State.activate]

@[simp] theorem aside_retire (s : State) (k : KeyIndex) (cause : RetireCause) :
    aside (s.retire k cause) = aside s := by
  unfold State.retire
  dsimp only
  (repeat' split) <;> simp

@[simp] theorem aside_passBoundary (s : State) (l : LinkSlot) : aside (s.passBoundary l) = aside s := rfl

@[simp] theorem aside_drainEndTest (s : State) (l : LinkSlot) : aside (s.drainEndTest l) = aside s := by
  unfold State.drainEndTest
  (repeat' split) <;> simp

@[simp] theorem aside_timedActivationTest (s : State) (l : LinkSlot) :
    aside (s.timedActivationTest l) = aside s := by
  unfold State.timedActivationTest
  (repeat' split) <;> simp

@[simp] theorem aside_overdueTest (s : State) (l : LinkSlot) : aside (s.overdueTest l) = aside s := by
  unfold State.overdueTest
  (repeat' split) <;> simp

@[simp] theorem aside_expiryTest (s : State) (l : LinkSlot) : aside (s.expiryTest l) = aside s := by
  unfold State.expiryTest
  (repeat' split) <;> simp

@[simp] theorem aside_reportDue (s : State) (l : LinkSlot) (k : KeyIndex) (b : Bool) :
    aside (s.reportDue l k b) = aside s := by
  simp [State.reportDue]

@[simp] theorem aside_dueTest (s : State) (l : LinkSlot) : aside (s.dueTest l) = aside s := by
  unfold State.dueTest
  dsimp only
  (repeat' split) <;> simp

@[simp] theorem aside_keyBoundary (s : State) (l : LinkSlot) : aside (s.keyBoundary l) = aside s := by
  simp [State.keyBoundary]

/-- A function of the state that a step leaves alone is left alone by that step over a list. -/
theorem kept_foldl {α β : Type} {f : State → α → State} {view : State → β}
    (h : ∀ s a, view (f s a) = view s) (xs : List α) :
    ∀ s, view (xs.foldl f s) = view s := by
  induction xs with
  | nil => exact fun _ => rfl
  | cons x xs ih => exact fun s => (ih (f s x)).trans (h s x)

/-! ### What the monitor keeps of a link over the key unit's steps -/

/-- A link record as the monitor's counts see it: a closed one whole but for its contexts, and an open one
without its state and the two counts E and A that an activation clears. -/
def monitored (x : Link) : Link :=
  if x.state = .closed then bare x
  else { bare x with state := .keyed, health := { x.health with e := 0, a := 0 } }

theorem monitored_of_bare {x y : Link} (h : bare x = bare y) : monitored x = monitored y := by
  have view (z : Link) : monitored z = monitored (bare z) := by
    by_cases closed : z.state = .closed <;> simp [monitored, bare, closed]
  rw [view x, view y, h]

theorem monitored_activatedLink (x : Link) : monitored (activatedLink x) = monitored x := by
  cases h : x.state <;> simp [activatedLink, monitored, bare, h]

theorem monitored_keylessLink (x : Link) : monitored (keylessLink x) = monitored x := by
  cases h : x.state <;> simp [keylessLink, monitored, bare, h]

/-- What the monitor keeps of every link. -/
def monitors (s : State) : LinkSlot → Link := fun m => monitored (s.link m)

theorem monitors_of_links {s t : State} (h : t.links = s.links) : monitors t = monitors s := by
  funext m
  simp only [monitors, State.link, h]

theorem monitors_of_sameLinks {l : LinkSlot} {s t : State} (h : SameLinks l s t) :
    monitors t = monitors s := by
  obtain ⟨others, self⟩ := h
  funext m
  by_cases e : m = l
  · subst e
    exact monitored_of_bare self
  · exact congrArg monitored (others m e)

@[simp] theorem monitors_setKey (s : State) (k : KeyIndex) (x : KeySlot) :
    monitors (s.setKey k x) = monitors s := rfl
@[simp] theorem monitors_post (s : State) (source : ReportSource) (l : Option LinkSlot)
    (d : ReportDetail) : monitors (s.post source l d) = monitors s := rfl
@[simp] theorem monitors_useFree (s : State) : monitors s.useFree = monitors s := rfl

@[simp] theorem monitors_activate (s : State) (l : LinkSlot) (k : KeyIndex) (cause : ActivationCause) :
    monitors (s.activate l k cause) = monitors s := by
  funext m
  by_cases e : m = l
  · subst e
    have activated := bare_activate_link s m k cause
    rw [← bare_activatedLink] at activated
    exact (monitored_of_bare activated).trans (monitored_activatedLink _)
  · exact congrArg monitored (activate_link_ne s l k cause e)

@[simp] theorem monitors_linkKeyLost (s : State) (l : LinkSlot) :
    monitors (s.linkKeyLost l) = monitors s := by
  funext m
  unfold monitors
  by_cases e : m = l
  · rw [e, linkKeyLost_link_self, monitored_keylessLink]
  · rw [linkKeyLost_link_ne s l e]

@[simp] theorem monitors_retireSlot (s : State) (k : KeyIndex) (d : ReportDetail) :
    monitors (s.retireSlot k d) = monitors s := monitors_of_sameLinks (sameLinks_retireSlot s k d)

@[simp] theorem monitors_retire (s : State) (k : KeyIndex) (cause : RetireCause) :
    monitors (s.retire k cause) = monitors s := by
  unfold State.retire
  dsimp only
  (repeat' split) <;> simp

@[simp] theorem monitors_passBoundary (s : State) (l : LinkSlot) :
    monitors (s.passBoundary l) = monitors s := rfl

@[simp] theorem monitors_drainEndTest (s : State) (l : LinkSlot) :
    monitors (s.drainEndTest l) = monitors s := by
  unfold State.drainEndTest
  (repeat' split) <;> simp

@[simp] theorem monitors_timedActivationTest (s : State) (l : LinkSlot) :
    monitors (s.timedActivationTest l) = monitors s := by
  unfold State.timedActivationTest
  (repeat' split) <;> simp

@[simp] theorem monitors_overdueTest (s : State) (l : LinkSlot) :
    monitors (s.overdueTest l) = monitors s := by
  unfold State.overdueTest
  (repeat' split) <;> simp

@[simp] theorem monitors_expiryTest (s : State) (l : LinkSlot) :
    monitors (s.expiryTest l) = monitors s := by
  unfold State.expiryTest
  (repeat' split) <;> simp

@[simp] theorem monitors_reportDue (s : State) (l : LinkSlot) (k : KeyIndex) (b : Bool) :
    monitors (s.reportDue l k b) = monitors s := by
  simp [State.reportDue]

@[simp] theorem monitors_dueTest (s : State) (l : LinkSlot) : monitors (s.dueTest l) = monitors s := by
  unfold State.dueTest
  dsimp only
  (repeat' split) <;> simp

@[simp] theorem monitors_keyBoundary (s : State) (l : LinkSlot) :
    monitors (s.keyBoundary l) = monitors s := by
  simp [State.keyBoundary]

theorem bare_of_monitored_closed {x y : Link} (h : monitored y = monitored x)
    (closed : x.state = .closed) : bare y = bare x := by
  by_cases closed' : y.state = .closed
  · simpa only [monitored, if_pos closed, if_pos closed'] using h
  · have state : (monitored y).state = (monitored x).state := congrArg Link.state h
    simp [monitored, closed', closed, bare] at state

theorem monitored_of_open {x y : Link} (h : monitored y = monitored x) (opened : x.state ≠ .closed) :
    y.state ≠ .closed ∧ y.keepalive = x.keepalive ∧ y.idle = x.idle ∧
      y.lastArrival = x.lastArrival ∧ y.health.quiet = x.health.quiet ∧
      y.health.silent = x.health.silent := by
  have opened' : y.state ≠ .closed := by
    intro closed'
    have state : (monitored y).state = (monitored x).state := congrArg Link.state h
    simp [monitored, closed', opened, bare] at state
  simp only [monitored, if_neg opened, if_neg opened', bare, Link.mk.injEq, Health.mk.injEq] at h
  simp_all

/-! ### The silence tests (R162) -/

/-- The silence timeout of a link record is due. -/
def silenceDue (x : Link) : Bool :=
  x.state.isOpen && x.keepalive != 0 && decide (3 * x.keepalive ≤ x.health.quiet) &&
    !x.health.silent

/-- A link record after its silence test. -/
def silenceTested (x : Link) : Link :=
  if silenceDue x then { x with health := { x.health with silent := true } } else x

/-- LINK_SILENT of a timeout. -/
def timeoutPosting (l : LinkSlot) (x : Link) : ReportSource × Report :=
  (.healthMonitor, ⟨.linkSilent .timeout x.lastArrival, some l, 0⟩)

theorem silenceTest_eq (s : State) (l : LinkSlot) : s.silenceTest l =
    if silenceDue (s.link l) then s.enterSilence l .timeout else s := by
  unfold State.silenceTest silenceDue
  simp [and_assoc]

theorem silenceTest_link_self (s : State) (l : LinkSlot) :
    (s.silenceTest l).link l = silenceTested (s.link l) := by
  rw [silenceTest_eq, silenceTested]
  split
  · exact State.setLink_link_self s l _
  · rfl

theorem silenceTest_link_ne (s : State) {l m : LinkSlot} (ne : l ≠ m) :
    (s.silenceTest l).link m = s.link m := by
  rw [silenceTest_eq]
  split
  · exact State.setLink_link_ne s _ ne
  · rfl

theorem silenceTest_mail (s : State) (l : LinkSlot) : (s.silenceTest l).mail =
    { s.mail with reports := s.mail.reports ++
      if silenceDue (s.link l) then [timeoutPosting l (s.link l)] else [] } := by
  rw [silenceTest_eq]
  split
  · rfl
  · rw [List.append_nil]

/-- A silence test changes the links and the mail. -/
theorem silenceTest_footprint (s : State) (l : LinkSlot) : s.silenceTest l =
    { s with links := (s.silenceTest l).links, mail := (s.silenceTest l).mail } := by
  rw [silenceTest_eq]
  split <;> rfl

theorem silenceTest_keys (s : State) (l : LinkSlot) : (s.silenceTest l).keys = s.keys :=
  (congrArg State.keys (silenceTest_footprint s l)).trans rfl

theorem silenceTest_cipher (s : State) (l : LinkSlot) : (s.silenceTest l).cipher = s.cipher :=
  (congrArg State.cipher (silenceTest_footprint s l)).trans rfl

theorem silenceTest_rings (s : State) (l : LinkSlot) : (s.silenceTest l).rings = s.rings :=
  (congrArg State.rings (silenceTest_footprint s l)).trans rfl

/-- The silence tests of different links post in the order of the tests. -/
theorem foldl_silenceTest_mail {ls : List LinkSlot} (nodup : ls.Nodup) (s : State) :
    (ls.foldl State.silenceTest s).mail = { s.mail with
      reports := s.mail.reports ++
        (ls.filter (fun l => silenceDue (s.link l))).map (fun l => timeoutPosting l (s.link l)) } := by
  induction ls generalizing s with
  | nil => simp
  | cons l ls ih =>
    obtain ⟨fresh, nodup⟩ := List.nodup_cons.mp nodup
    have later {m : LinkSlot} (hm : m ∈ ls) : (s.silenceTest l).link m = s.link m :=
      silenceTest_link_ne s fun e => fresh (e ▸ hm)
    have due : ls.filter (fun m => silenceDue ((s.silenceTest l).link m)) =
        ls.filter (fun m => silenceDue (s.link m)) :=
      List.filter_congr fun m hm => congrArg silenceDue (later hm)
    have postings : (ls.filter (fun m => silenceDue (s.link m))).map
          (fun m => timeoutPosting m ((s.silenceTest l).link m)) =
        (ls.filter (fun m => silenceDue (s.link m))).map (fun m => timeoutPosting m (s.link m)) :=
      List.map_congr_left fun m hm => congrArg (timeoutPosting m) (later (List.mem_filter.mp hm).1)
    rw [List.foldl_cons, ih nodup, silenceTest_mail, due, postings, List.filter_cons]
    split <;> simp

/-- What the silence tests leave of a link record: all of a closed one, and all but the silent flag of
an open one. -/
def unsilenced (x : Link) : Link :=
  if x.state = .closed then x else { x with health := { x.health with silent := false } }

theorem unsilenced_silenceTested (x : Link) : unsilenced (silenceTested x) = unsilenced x := by
  unfold silenceTested
  split
  · next due =>
    have opened : x.state ≠ .closed := by
      rw [← isOpen_iff]
      simp only [silenceDue, Bool.and_eq_true] at due
      exact due.1.1.1
    simp [unsilenced, opened]
  · rfl

theorem foldl_silenceTest_unsilenced (ls : List LinkSlot) (m : LinkSlot) (s : State) :
    unsilenced ((ls.foldl State.silenceTest s).link m) = unsilenced (s.link m) := by
  refine kept_foldl (view := fun s => unsilenced (s.link m)) (fun s l => ?_) ls s
  by_cases e : l = m
  · subst e
    exact (congrArg unsilenced (silenceTest_link_self s l)).trans (unsilenced_silenceTested _)
  · exact congrArg unsilenced (silenceTest_link_ne s e)

theorem unsilenced_eq {x y : Link} (h : unsilenced y = unsilenced x) : y.state = x.state ∧
    y.idle = x.idle ∧ y.health.quiet = x.health.quiet ∧ (x.state = .closed → y = x) := by
  have state : y.state = x.state := by
    have projected : (unsilenced y).state = (unsilenced x).state := congrArg Link.state h
    have view (z : Link) : (unsilenced z).state = z.state := by
      unfold unsilenced
      split <;> rfl
    rwa [view, view] at projected
  by_cases closed : x.state = .closed
  · have same : y = x := by simpa only [unsilenced, if_pos closed, if_pos (state.trans closed)] using h
    simp [same]
  · have opened : y.state ≠ .closed := state ▸ closed
    simp only [unsilenced, if_neg closed, if_neg opened, Link.mk.injEq, Health.mk.injEq] at h
    simp_all

/-! ### The idle and quiet counts (R74, R162) -/

theorem second_of_closed {x : Link} (closed : x.state = .closed) : x.second = x := by
  simp [Link.second, closed, LinkState.isOpen]

theorem second_of_open {x : Link} (opened : x.state ≠ .closed) : x.second =
    { x with
      idle := min (x.idle + 1) 256
      health := { x.health with quiet := min (x.health.quiet + 1) 765 } } := by
  rw [Link.second, if_pos ((isOpen_iff _).mpr opened)]
  rfl

theorem second_state (x : Link) : x.second.state = x.state := by
  unfold Link.second
  split <;> rfl

theorem second_lastArrival (x : Link) : x.second.lastArrival = x.lastArrival := by
  unfold Link.second
  split <;> rfl

/-- The silence timeout at a boundary, by the record that the boundary found. -/
theorem silenceDue_second {x y : Link} (h : monitored x = monitored y) :
    silenceDue x.second = decide (x.state ≠ .closed ∧ y.keepalive ≠ 0 ∧
      3 * y.keepalive ≤ min (y.health.quiet + 1) 765 ∧ y.health.silent = false) := by
  by_cases closed : x.state = .closed
  · simp [second_of_closed closed, silenceDue, closed, LinkState.isOpen]
  · obtain ⟨_, keepalive, _, _, quiet, silent⟩ := monitored_of_open h.symm closed
    have opened : x.state.isOpen = true := (isOpen_iff _).mpr closed
    rw [keepalive, quiet, silent, Bool.eq_iff_iff]
    simp [second_of_open closed, silenceDue, closed, opened, and_assoc]

theorem timeoutPosting_second {x y : Link} (h : monitored x = monitored y) (l : LinkSlot) :
    timeoutPosting l x.second = timeoutPosting l y := by
  have arrival : x.lastArrival = y.lastArrival := by
    by_cases closed : x.state = .closed
    · exact (congrArg Link.lastArrival (bare_of_monitored_closed h.symm closed).symm :)
    · exact (monitored_of_open h.symm closed).2.2.2.1.symm
  simp only [timeoutPosting, second_lastArrival, arrival]

/-! ### The automatic count (R143) -/

section
variable (t : TimeBase)

/-- The automatic count and a start touch the count and the measurement. -/
theorem countAuto_autoStart_eq : t.countAuto.autoStart = { t with
    autoCount := t.countAuto.autoStart.autoCount
    measurement := t.countAuto.autoStart.measurement } := by
  unfold TimeBase.countAuto TimeBase.autoStart TimeBase.startMeasurement
  (repeat' split) <;> rfl

variable {t}

theorem countAuto_autoStart_of_off (off : t.autoPeriod = 0) : t.countAuto.autoStart = t := by
  simp [TimeBase.countAuto, TimeBase.autoStart, off]

theorem countAuto_of_on (on : t.autoPeriod ≠ 0) :
    t.countAuto = { t with autoCount := t.autoCount + 1 } := if_neg on

theorem countAuto_autoStart_of_early (on : t.autoPeriod ≠ 0)
    (early : t.autoCount + 1 < 60 * t.autoPeriod) :
    t.countAuto.autoStart = { t with autoCount := t.autoCount + 1 } := by
  rw [countAuto_of_on on]
  exact if_neg fun due => absurd due.2 (Nat.not_le.mpr early)

theorem countAuto_autoStart_of_due (on : t.autoPeriod ≠ 0)
    (due : 60 * t.autoPeriod ≤ t.autoCount + 1) :
    t.countAuto.autoStart.autoCount = 0 ∧
      t.countAuto.autoStart.measurement = (match t.measurement with
        | some m => some m
        | none => some ⟨t.fRef, t.k, true, false, 0, 0⟩) := by
  have started : t.countAuto.autoStart = ({ t with autoCount := 0 } : TimeBase).startMeasurement true := by
    rw [countAuto_of_on on]
    exact if_pos ⟨on, due⟩
  rw [started]
  unfold TimeBase.startMeasurement
  cases h : t.measurement <;> simp

end

/-! ### The boundary as one step -/

/-- The state after the key unit's steps of a boundary (R120, R137). -/
def keyed (s : State) : State :=
  allLinks.foldl State.keyBoundary { s with time := s.time.boundary }

/-- A state with the idle and quiet counts taken. -/
def counted (t : State) : State := { t with links := mapTable t.links Link.second }

/-- A state after the silence tests (R162). -/
def silenced (t : State) : State := allLinks.foldl State.silenceTest t

section
variable (t : State)

theorem counted_link (l : LinkSlot) : (counted t).link l = (t.link l).second := mapTable_get ..

theorem silenced_counted_keys : (silenced (counted t)).keys = t.keys :=
  kept_foldl (view := State.keys) silenceTest_keys allLinks (counted t)

theorem silenced_counted_cipher : (silenced (counted t)).cipher = t.cipher :=
  kept_foldl (view := State.cipher) silenceTest_cipher allLinks (counted t)

theorem silenced_counted_rings : (silenced (counted t)).rings = t.rings :=
  kept_foldl (view := State.rings) silenceTest_rings allLinks (counted t)

theorem silenced_counted_mail : (silenced (counted t)).mail = { t.mail with
    reports := t.mail.reports ++ (allLinks.filter (fun l => silenceDue (t.link l).second)).map
      (fun l => timeoutPosting l (t.link l).second) } := by
  have nodup : allLinks.Nodup := by decide
  have posted := foldl_silenceTest_mail nodup (counted t)
  simp only [counted_link] at posted
  exact posted

theorem silenced_counted_unsilenced (l : LinkSlot) :
    unsilenced ((silenced (counted t)).link l) = unsilenced (t.link l).second := by
  rw [← counted_link]
  exact foldl_silenceTest_unsilenced allLinks l (counted t)

end

section
variable (s : State)

theorem aside_keyed : aside (keyed s) = aside { s with time := s.time.boundary } :=
  kept_foldl aside_keyBoundary _ _

theorem monitored_keyed (l : LinkSlot) : monitored ((keyed s).link l) = monitored (s.link l) :=
  congrFun (kept_foldl monitors_keyBoundary allLinks { s with time := s.time.boundary }) l

theorem boundary_footprint : s.boundary =
    { silenced (counted (keyed s)) with time := s.time.boundary.countAuto.autoStart } := by
  have time : (readBoundary { s with time := s.time.boundary }).time = s.time.boundary :=
    time_eq_of_still (still_readBoundary _)
  rw [boundary_eq, time]
  rfl

/-- What a change of the time base leaves alone. -/
theorem same_of_time {s t : State} {x : TimeBase} (h : s = { t with time := x }) :
    s.keys = t.keys ∧ s.cipher = t.cipher ∧ s.rings = t.rings ∧ s.mail = t.mail ∧
      s.links = t.links := by
  subst h
  exact ⟨rfl, rfl, rfl, rfl, rfl⟩

theorem rings_of_aside {s t : State} (h : aside s = aside t) : s.rings = t.rings :=
  (congrArg State.rings h :)

theorem boundary_same : s.boundary.keys = (silenced (counted (keyed s))).keys ∧
    s.boundary.cipher = (silenced (counted (keyed s))).cipher ∧
    s.boundary.rings = (silenced (counted (keyed s))).rings ∧
    s.boundary.mail = (silenced (counted (keyed s))).mail ∧
    s.boundary.links = (silenced (counted (keyed s))).links := same_of_time (boundary_footprint s)

theorem boundary_keys : s.boundary.keys = (keyed s).keys :=
  (boundary_same s).1.trans (silenced_counted_keys (keyed s))

theorem boundary_cipher : s.boundary.cipher = (keyed s).cipher :=
  (boundary_same s).2.1.trans (silenced_counted_cipher (keyed s))

theorem boundary_rings : s.boundary.rings = s.rings := by
  obtain ⟨-, -, rings, -, -⟩ := boundary_same s
  have kept := rings_of_aside (t := { s with time := s.time.boundary }) (aside_keyed s)
  exact rings.trans ((silenced_counted_rings (keyed s)).trans kept)

theorem boundary_mail {t : State} (h : t = keyed s) : s.boundary.mail = { t.mail with
    reports := t.mail.reports ++ (allLinks.filter (fun l =>
        (t.link l).state ≠ .closed ∧ (s.link l).keepalive ≠ 0 ∧
        3 * (s.link l).keepalive ≤ min ((s.link l).health.quiet + 1) 765 ∧
        (s.link l).health.silent = false)).map (fun l => timeoutPosting l (s.link l)) } := by
  have monitors (l : LinkSlot) : monitored (t.link l) = monitored (s.link l) := h ▸ monitored_keyed s l
  have due (l : LinkSlot) := silenceDue_second (monitors l)
  have posting (l : LinkSlot) := timeoutPosting_second (monitors l) l
  have mail : s.boundary.mail = (silenced (counted t)).mail := h ▸ (boundary_same s).2.2.2.1
  have posted := silenced_counted_mail t
  simp only [due, posting] at posted
  exact mail.trans posted

theorem boundary_unsilenced (l : LinkSlot) :
    unsilenced (s.boundary.link l) = unsilenced ((keyed s).link l).second := by
  obtain ⟨-, -, -, -, links⟩ := boundary_same s
  have link : s.boundary.link l = (silenced (counted (keyed s))).link l :=
    congrArg (fun v : Vector Link 8 => v[l]) links
  rw [link, silenced_counted_unsilenced]

theorem boundary_link_state (l : LinkSlot) :
    (s.boundary.link l).state = ((keyed s).link l).state :=
  (unsilenced_eq (boundary_unsilenced s l)).1.trans (second_state _)

variable {s} {l : LinkSlot}

theorem boundary_link_of_closed (closed : (s.link l).state = .closed) :
    bare (s.boundary.link l) = bare (s.link l) := by
  have kept := bare_of_monitored_closed (monitored_keyed s l) closed
  have still : ((keyed s).link l).state = .closed := (state_of_bare kept).trans closed
  obtain ⟨-, -, -, same⟩ := unsilenced_eq (boundary_unsilenced s l)
  rw [same (by rw [second_state, still]), second_of_closed still, kept]

theorem boundary_link_of_open (opened : (s.link l).state ≠ .closed) :
    (s.boundary.link l).idle = min ((s.link l).idle + 1) 256 ∧
      (s.boundary.link l).health.quiet = min ((s.link l).health.quiet + 1) 765 := by
  obtain ⟨opened', -, idle, -, quiet, -⟩ := monitored_of_open (monitored_keyed s l) opened
  obtain ⟨-, idle', quiet', -⟩ := unsilenced_eq (boundary_unsilenced s l)
  rw [idle', quiet', second_of_open opened', idle, quiet]
  exact ⟨rfl, rfl⟩

end

theorem boundaryDue_iff (t : TimeBase) : t.boundaryDue = true ↔ t.length ≤ t.ticks := by
  simp [TimeBase.boundaryDue]

/-- In the ranges of the time base a second keeps a positive length (R136). -/
theorem boundary_length {t : TimeBase} (ranged : t.ranged = true) :
    (t.boundary.length : Int) = 32768 + (t.f + t.c) / 1024 - max (-32) (min 32 t.s) := by
  simp only [TimeBase.ranged, Bool.and_eq_true, decide_eq_true_eq] at ranged
  have nonneg : 0 ≤ 32768 + (t.f + t.c) / 1024 - max (-32) (min 32 t.s) := by omega
  exact Int.toNat_of_nonneg nonneg

theorem idle_of_bare {x y : Link} (h : bare x = bare y) : x.idle = y.idle := (congrArg Link.idle h :)

/-- What the boundary's readers leave, by the state after the key unit's steps. -/
theorem boundary_readers {s k : State} (h : k = keyed s) :
    s.boundary.keys = k.keys ∧ s.boundary.cipher = k.cipher ∧ s.boundary.rings = s.rings ∧
      s.boundary.mail = { k.mail with
        reports := k.mail.reports ++ (allLinks.filter (fun l =>
          (k.link l).state ≠ .closed ∧ (s.link l).keepalive ≠ 0 ∧
          3 * (s.link l).keepalive ≤ min ((s.link l).health.quiet + 1) 765 ∧
          (s.link l).health.silent = false)).map (fun l => timeoutPosting l (s.link l)) } ∧
      ∀ l, (s.boundary.link l).state = (k.link l).state := by
  refine ⟨?_, ?_, boundary_rings s, boundary_mail s h, fun l => ?_⟩
  · rw [h, boundary_keys]
  · rw [h, boundary_cipher]
  · rw [h, boundary_link_state]

/-- Settles O44: the time base's own step, then its readers in the model's order. -/
theorem secondBoundaryCarriesTheFraction : Obligations.SecondBoundaryCarriesTheFraction := by
  intro s
  refine ⟨fun early => ?early, fun ranged due => ?due⟩
  case early =>
    have notDue : ¬s.time.boundaryDue = true := by
      rw [boundaryDue_iff]
      omega
    exact congrArg Host.Outcome.next (if_neg notDue)
  case due =>
    have runs : exec .correctedSecondBoundary s = .next s.boundary.resume :=
      congrArg Host.Outcome.next (if_pos ((boundaryDue_iff _).mpr due))
    have time : s.boundary.time = s.time.boundary.countAuto.autoStart :=
      congrArg State.time (boundary_footprint s)
    have onlyAuto := time.trans (countAuto_autoStart_eq s.time.boundary)
    have still : s.boundary.still = { s.still with time := s.boundary.time } := by
      rw [still_boundary, time]
    refine ⟨s.boundary, runs, congrArg TimeBase.seconds onlyAuto, congrArg TimeBase.ticks onlyAuto,
      congrArg TimeBase.f onlyAuto, congrArg TimeBase.s onlyAuto, ?_, (congrArg TimeBase.c onlyAuto).trans rfl,
      (congrArg TimeBase.rawTick onlyAuto).trans rfl, (congrArg TimeBase.valid onlyAuto).trans rfl,
      still, ?_, fun off => ?_, fun on early => ?_, fun on due => ?_, fun l => ?_⟩
    · rw [congrArg TimeBase.length onlyAuto]
      exact boundary_length ranged
    · exact boundary_readers (s := s) rfl
    · rw [time, countAuto_autoStart_of_off (t := s.time.boundary) off]
      exact ⟨rfl, rfl⟩
    · rw [time, countAuto_autoStart_of_early (t := s.time.boundary) on early]
      exact ⟨rfl, rfl⟩
    · rw [time]
      exact countAuto_autoStart_of_due (t := s.time.boundary) on due
    · split
      · next closed =>
        have kept := boundary_link_of_closed closed
        exact ⟨(state_of_bare kept).trans closed, idle_of_bare kept, health_of_bare kept⟩
      · next opened => exact boundary_link_of_open opened

end Sys2Proof.Proofs.SecondBoundary
end


section
/-! PROOFS. SEQUENCE_REQUEST (R57, R58, R121): the frame that waits is bound, lost, or sent on to the store. -/

namespace Sys2Proof.Proofs.SequenceRequests
open Sys2Proof Sys2Proof.Machine
open Sys2Proof.Proofs.StillRecords Sys2Proof.Proofs.KeyStandings Sys2Proof.Proofs.KeyChanges
open Sys2Proof.Proofs.CipherTaking Sys2Proof.Proofs.SecondBoundary Sys2Proof.Proofs.Frames

/-! ### The key unit takes a request (log 3) -/

theorem takeKeyRequest_of_first {s : State} {p : KeyRequest → Bool} {q : KeyRequest}
    {before rest : List KeyRequest} (waits : s.keys.requests = before ++ q :: rest)
    (others : ∀ r ∈ before, p r = false) (named : p q = true) :
    s.takeKeyRequest p =
      some (q, { s with keys := { s.keys with requests := before ++ rest } }) := by
  rw [State.takeKeyRequest, waits, takeFirst_append others named]
  rfl

/-! ### Feeding and binding, as links and keys see them -/

theorem feedOut_link_ne (s : State) {l m : LinkSlot} (ne : m ≠ l) :
    (s.feedOut l).link m = s.link m := by
  unfold State.feedOut
  split
  · rfl
  · split
    · rfl
    · exact State.setLink_link_ne _ _ (Ne.symm ne)

theorem feedIn_link_ne (s : State) {l m : LinkSlot} (ne : m ≠ l) :
    (s.feedIn l).link m = s.link m := by
  unfold State.feedIn
  split
  · rfl
  · split
    · exact State.setLink_link_ne _ _ (Ne.symm ne)
    · rfl

theorem setOut_link_ne (s : State) {l m : LinkSlot} (x : Option OutContext) (ne : m ≠ l) :
    (s.setOut l x).link m = s.link m := State.setLink_link_ne s _ (Ne.symm ne)

theorem setIn_link_ne (s : State) {l m : LinkSlot} (x : Option InContext) (ne : m ≠ l) :
    (s.setIn l x).link m = s.link m := State.setLink_link_ne s _ (Ne.symm ne)

section
variable (s : State) (l : LinkSlot) (c : OutContext) (ref : KeyRef) (epoch : Half) (q : Seq)

theorem bindOut_link_ne {m : LinkSlot} (ne : m ≠ l) : (s.bindOut l c ref epoch q).link m = s.link m := by
  rw [State.bindOut, feedOut_link_ne _ ne, setOut_link_ne _ _ ne]

@[simp] theorem bindOut_mail : (s.bindOut l c ref epoch q).mail = s.mail := by
  unfold State.bindOut State.feedOut
  (repeat' split) <;> rfl

@[simp] theorem aside_bindOut : aside (s.bindOut l c ref epoch q) = aside s := by simp [State.bindOut]

@[simp] theorem bindOut_key (j : KeyIndex) : (s.bindOut l c ref epoch q).key j = s.key j :=
  key_of_frame (by simp [State.bindOut]) j

theorem bindOut_outContext : ∃ wanted, ((s.bindOut l c ref epoch q).link l).outContext = some { c with
    binding := .bound
    keyRef := some ref
    epoch := some epoch
    sequence := some q
    header := some (headerBytes c.cls (s.link l).wire c.len epoch q)
    keystream := ⟨1, [], wanted⟩ } := by
  obtain ⟨wanted, fed⟩ := feedOut_outContext (setOut_outContext s l (some { c with
    binding := .bound
    keyRef := some ref
    epoch := some epoch
    sequence := some q
    header := some (headerBytes c.cls (s.link l).wire c.len epoch q)
    keystream := Keystream.released (lastBlock c.len) }))
  exact ⟨wanted, fed⟩

end

/-- The loss of an inbound frame leaves the outbound ones. -/
theorem loseIn_outContext (s : State) (l m : LinkSlot) (code : PartCode) :
    ((s.loseIn m code).link l).outContext = (s.link l).outContext := by
  by_cases e : l = m
  · subst e
    unfold State.loseIn
    split
    · rfl
    · split
      · rfl
      · exact setIn_outContext _ _ _
  · rw [(sameLinks_loseIn s m code).1 l e]

/-! ### A lost context stays as it is (R68) -/

section
variable {s : State} {l : LinkSlot} {c : OutContext} (hc : (s.link l).outContext = some c)
  (lost : c.lost.isSome = true)
include hc lost

theorem loseOut_of_lost (m : LinkSlot) (code : PartCode) :
    ((s.loseOut m code).link l).outContext = some c := by
  by_cases e : l = m
  · subst e
    simp [State.loseOut, hc, lost]
  · rw [(sameLinks_loseOut s m code).1 l e, hc]

theorem noticeOut_of_lost (m : LinkSlot) (ref : KeyRef) :
    ((s.noticeOut m ref).link l).outContext = some c := by
  unfold State.noticeOut
  split
  · exact hc
  · split
    · exact loseOut_of_lost hc lost m _
    · exact hc

omit lost in
theorem noticeIn_of_lost (m : LinkSlot) (ref : KeyRef) :
    ((s.noticeIn m ref).link l).outContext = some c := by
  unfold State.noticeIn
  split
  · exact hc
  · split
    · rw [loseIn_outContext, hc]
    · exact hc

theorem retireSlot_of_lost (k : KeyIndex) (d : ReportDetail) :
    ((s.retireSlot k d).link l).outContext = some c :=
  noticeIn_of_lost (noticeOut_of_lost (s := s.setKey k KeySlot.empty) hc lost _ _) _ _

theorem activate_of_lost (m : LinkSlot) (k : KeyIndex) (cause : ActivationCause) :
    ((s.activate m k cause).link l).outContext = some c := by
  have cut : ((s.cutDraining m).link l).outContext = some c := by
    unfold State.cutDraining
    split
    · exact hc
    · exact retireSlot_of_lost hc lost _ _
  have settled : ((cleared s m k).link l).outContext = some c := by
    unfold cleared State.supersede
    split
    · exact cut
    · split
      · exact retireSlot_of_lost cut lost _ _
      · exact cut
  rw [activate_eq, post_link]
  by_cases e : l = m
  · subst e
    rw [linkActivated_link_self, setKey_link]
    unfold activatedLink
    split <;> exact settled
  · rw [linkActivated_link_ne _ _ e, setKey_link, settled]

omit lost in
theorem linkKeyLost_of_lost (m : LinkSlot) : ((s.linkKeyLost m).link l).outContext = some c := by
  by_cases e : l = m
  · subst e
    rw [linkKeyLost_link_self]
    unfold keylessLink
    split <;> exact hc
  · rw [linkKeyLost_link_ne _ _ e, hc]

end

/-- The retirement of the key that an open frame is bound to loses the frame, and its succession leaves it
so (R68, R106). -/
theorem retire_outContext {s : State} {l : LinkSlot} {c : OutContext} {k : KeyIndex}
    (cause : RetireCause) (hc : (s.link l).outContext = some c) (link : (s.key k).link = l)
    (bound : c.keyRef = some ((s.key k).ref k)) (kept : c.lost = none) :
    ((s.retire k cause).link l).outContext =
      some { c with lost := some .keyLost, fill := none, keystream := c.keystream.drop } := by
  have noticed : ((emptied s k cause).link l).outContext =
      some { c with lost := some .keyLost, fill := none, keystream := c.keystream.drop } := by
    have lost := loseOut_outContext (s := s.setKey k KeySlot.empty) hc kept .keyLost
    have notice : (s.setKey k KeySlot.empty).noticeOut l ((s.key k).ref k) =
        (s.setKey k KeySlot.empty).loseOut l .keyLost := by
      unfold State.noticeOut
      rw [setKey_link, hc]
      exact if_pos bound
    unfold emptied State.retireSlot
    rw [post_link, link, notice]
    exact noticeIn_of_lost lost _ _
  cases current : (s.key k).state.isCurrent with
  | false => rw [retire_of_not_current cause current, noticed]
  | true =>
    cases pending : s.pendingKey (s.key k).link with
    | none =>
      rw [retire_of_last cause current pending]
      exact linkKeyLost_of_lost noticed _
    | some p =>
      rw [retire_of_successor cause current pending]
      exact activate_of_lost noticed rfl _ _ _

/-! ### The two tests after a release (R117, R121) -/

section
variable (s : State) (l : LinkSlot) (k : KeyIndex)

/-- The renewal-due test sets a flag of the key, and posts. -/
theorem sequenceDueTest_key (j : KeyIndex) : (s.sequenceDueTest l k).key j = s.key j ∨
    j = k ∧ (s.sequenceDueTest l k).key j = { s.key j with dueReported := true } := by
  unfold State.sequenceDueTest
  split
  · by_cases e : j = k
    · subst e
      exact .inr ⟨rfl, State.setKey_key_self s j _⟩
    · exact .inl (State.setKey_key_ne s _ (Ne.symm e))
  · exact .inl rfl

@[simp] theorem sequenceDueTest_link (m : LinkSlot) : (s.sequenceDueTest l k).link m = s.link m := by
  unfold State.sequenceDueTest
  split <;> rfl

@[simp] theorem aside_sequenceDueTest : aside (s.sequenceDueTest l k) = aside s := by
  unfold State.sequenceDueTest
  split <;> simp

theorem sequenceLimitTest_of_last {q : Seq} (last : q = BitVec.allOnes 48) :
    s.sequenceLimitTest k q = s.retire k .sequenceLimit := by
  subst last
  exact if_pos (by simp)

theorem sequenceLimitTest_of_not_last {q : Seq} (more : q ≠ BitVec.allOnes 48) :
    s.sequenceLimitTest k q = s := by
  refine if_neg fun last => more (BitVec.eq_of_toNat_eq ?_)
  simpa using last

end

/-! ### The answer (R57, R58) -/

section
variable {s : State} {l : LinkSlot} {c : OutContext} (hc : (s.link l).outContext = some c)
  (asked : c.binding = .sequenceAsked) (kept : c.lost = none)
include hc asked kept

theorem waiting_frame : (s.link l).outContext.filter (fun x => x.awaits c.ident .sequenceAsked) =
    some c := by
  simp [hc, OutContext.awaits, asked, kept]

/-- The state in which the frame is bound to the key in force and the key has gone on to its next number. -/
def boundTo (s : State) (l : LinkSlot) (c : OutContext) (k : KeyIndex) : State :=
  (s.setKey k { s.key k with nextSequence := sequenceAfter (s.key k).nextSequence }).bindOut l c
    ((s.key k).ref k) (s.key k).epoch (s.key k).nextSequence

theorem answerSequence_of_current {k : KeyIndex} (current : s.currentKey l = some k) :
    s.answerSequence l c.ident = ((boundTo s l c k).sequenceDueTest l k).sequenceLimitTest k
      (s.key k).nextSequence := by
  simp only [State.answerSequence, current, waiting_frame hc asked kept]
  rfl

theorem answerSequence_of_none (none : s.currentKey l = none) :
    s.answerSequence l c.ident = s.releaseWithoutKey l c := by
  simp only [State.answerSequence, none, waiting_frame hc asked kept]

end

section
variable (s : State) (l : LinkSlot) (c : OutContext) (k : KeyIndex)

theorem boundTo_key_self : (boundTo s l c k).key k =
    { s.key k with nextSequence := sequenceAfter (s.key k).nextSequence } := by
  rw [boundTo, bindOut_key, State.setKey_key_self]

theorem boundTo_key_ne {j : KeyIndex} (ne : j ≠ k) : (boundTo s l c k).key j = s.key j := by
  rw [boundTo, bindOut_key, State.setKey_key_ne _ _ (Ne.symm ne)]

/-- After the renewal-due test the key is the same key, at its next number. -/
theorem dueTested_key_self : ∃ flag, ((boundTo s l c k).sequenceDueTest l k).key k =
    { s.key k with
      nextSequence := sequenceAfter (s.key k).nextSequence, dueReported := flag } := by
  rcases sequenceDueTest_key (boundTo s l c k) l k k with same | ⟨-, flagged⟩
  · exact ⟨_, by rw [same, boundTo_key_self]⟩
  · exact ⟨true, by rw [flagged, boundTo_key_self]⟩

theorem dueTested_key_ne {j : KeyIndex} (ne : j ≠ k) :
    ((boundTo s l c k).sequenceDueTest l k).key j = s.key j := by
  rcases sequenceDueTest_key (boundTo s l c k) l k j with same | ⟨same, -⟩
  · rw [same, boundTo_key_ne s l c k ne]
  · exact absurd same ne

theorem dueTested_link_ne {m : LinkSlot} (ne : m ≠ l) :
    ((boundTo s l c k).sequenceDueTest l k).link m = s.link m := by
  rw [sequenceDueTest_link, boundTo, bindOut_link_ne _ _ _ _ _ _ ne, setKey_link]

theorem aside_dueTested : aside ((boundTo s l c k).sequenceDueTest l k) = aside s := by
  simp [boundTo]

theorem still_dueTested : ((boundTo s l c k).sequenceDueTest l k).still = s.still := by
  simp [boundTo]

theorem dueTested_outContext : ∃ wanted,
    (((boundTo s l c k).sequenceDueTest l k).link l).outContext = some { c with
      binding := .bound
      keyRef := some ((s.key k).ref k)
      epoch := some (s.key k).epoch
      sequence := some (s.key k).nextSequence
      header := some (headerBytes c.cls (s.link l).wire c.len (s.key k).epoch (s.key k).nextSequence)
      keystream := ⟨1, [], wanted⟩ } := by
  rw [sequenceDueTest_link]
  exact bindOut_outContext _ l c _ _ _

end

theorem sequenceAfter_of_not_last {q : Seq} (more : q ≠ BitVec.allOnes 48) : sequenceAfter q = q + 1 :=
  if_neg more

theorem keys_of_aside {s t : State} (h : aside s = aside t) : s.keys.requests = t.keys.requests :=
  (congrArg (fun u : State => u.keys.requests) h :)

theorem store_of_aside {s t : State} (h : aside s = aside t) : s.store = t.store :=
  (congrArg State.store h :)

section
variable {s : State} {l : LinkSlot} {c : OutContext}

theorem releaseWithoutKey_of_renewal {kek : KekIndex} (renewal : c.cls = .renewal)
    (software : c.substituted = false) (bound : (s.link l).kek = some kek) :
    s.releaseWithoutKey l c =
      (s.setOut l (some { c with binding := .commitAsked })).askStore
        (.transmitCommit l c.ident kek) := by
  simp only [State.releaseWithoutKey, renewal, software, bound]

theorem releaseWithoutKey_of_other
    (other : c.cls ≠ .renewal ∨ c.substituted = true ∨ (s.link l).kek = none) :
    s.releaseWithoutKey l c = s.loseOut l .keyLost := by
  unfold State.releaseWithoutKey
  split
  · next renewal software bound => simp_all
  · rfl

end

/-- Settles O35: the four answers, each on the state whose queue the request has left. -/
theorem sequenceRequestsBindTheFrame : Obligations.SequenceRequestsBindTheFrame := by
  intro s l c before rest waits others hc asked kept
  let t : State := { s with keys := { s.keys with requests := before ++ rest } }
  have runs : exec (.sequenceRequest l) s = .next (t.answerSequence l c.ident).resume := by
    have taken := takeKeyRequest_of_first waits others (show KeyRequest.isSequence l _ = true by
      simp [KeyRequest.isSequence])
    change execSequenceRequest l s = _
    simp only [execSequenceRequest, taken]
    rfl
  refine ⟨fun k current more => ?bound, fun k current last => ?last, fun kek none renewal software
    bound => ?commit, fun none other => ?lost⟩
  case bound =>
    have answered := answerSequence_of_current (s := t) hc asked kept current
    rw [sequenceLimitTest_of_not_last _ _ (show (t.key k).nextSequence ≠ _ from more)] at answered
    rw [answered] at runs
    obtain ⟨flag, key⟩ := dueTested_key_self t l c k
    obtain ⟨wanted, context⟩ := dueTested_outContext t l c k
    have link : (t.key k).link = l := currentKey_link current
    refine ⟨_, runs, ?_, fun j ne => dueTested_key_ne t l c k ne,
      fun m ne => dueTested_link_ne t l c k ne, still_dueTested t l c k,
      keys_of_aside (aside_dueTested t l c k), _, context, rfl, kept, ?_, rfl, rfl, rfl⟩
    · rw [key]
      exact sequenceAfter_of_not_last more
    · exact congrArg (fun m => some (KeyRef.session k m _ _)) link
  case last =>
    have answered := answerSequence_of_current (s := t) hc asked kept current
    rw [sequenceLimitTest_of_last _ _ (show (t.key k).nextSequence = _ from last)] at answered
    rw [answered] at runs
    obtain ⟨flag, key⟩ := dueTested_key_self t l c k
    obtain ⟨wanted, context⟩ := dueTested_outContext t l c k
    have link : (((boundTo t l c k).sequenceDueTest l k).key k).link = l := by
      rw [key]
      exact currentKey_link current
    have posted := mem_retire ((boundTo t l c k).sequenceDueTest l k) k .sequenceLimit
    rw [link, key] at posted
    refine ⟨_, runs, retire_key_self _ _ _, ?_, posted, _,
      retire_outContext .sequenceLimit context link ?_ kept, rfl, ?_⟩
    · rw [still_retire]
      exact still_dueTested t l c k
    · rw [key]
      rfl
    · exact congrArg some last
  case commit =>
    have answered := answerSequence_of_none (s := t) hc asked kept none
    rw [releaseWithoutKey_of_renewal (s := t) renewal software bound] at answered
    rw [answered] at runs
    exact ⟨_, runs, rfl, rfl, setOut_outContext t l _⟩
  case lost =>
    have answered := answerSequence_of_none (s := t) hc asked kept none
    rw [releaseWithoutKey_of_other (s := t) other] at answered
    rw [answered] at runs
    exact ⟨_, runs, store_of_aside (t := t) (aside_loseOut t l .keyLost), still_loseOut t l _, _,
      loseOut_outContext (s := t) hc kept .keyLost, rfl⟩

end Sys2Proof.Proofs.SequenceRequests
end


section
/-! PROOFS. Renewal jobs (R101, R102, R107 to R112): how a job ends, which job starts next, and what the ring slot
that waits for it receives. -/

namespace Sys2Proof.Proofs.RenewalJobs
open Sys2Proof Sys2Proof.Machine
open Sys2Proof.Proofs.StillRecords Sys2Proof.Proofs.Frames Sys2Proof.Proofs.KeyStandings
open Sys2Proof.Proofs.SlotsAndResults Sys2Proof.Proofs.KeyChanges

/-! ### Replacements (R37) -/

/-- A queued write leaves the mail but for the reports. -/
theorem queueWrite_mail (s : State) (w : InternalWrite) : ∃ more,
    (s.queueWrite w).mail = { s.mail with reports := s.mail.reports ++ more } := by
  unfold State.queueWrite State.admitWrite
  dsimp only
  split
  · split
    · exact ⟨[], by simp⟩
    · exact ⟨_, rfl⟩
  · exact ⟨[], by simp⟩

theorem setSlot_mail (s : State) (r : RingIndex) (i : Nat) (x : SlotRecord) :
    (s.setSlot r i x).mail = s.mail := (congrArg State.mail (setSlot_eq s r i x)).trans rfl

theorem setSlot_internal (s : State) (r : RingIndex) (i : Nat) (x : SlotRecord) :
    (s.setSlot r i x).internal = s.internal := (congrArg State.internal (setSlot_eq s r i x)).trans rfl

section
variable (s : State) (r : RingIndex) (i : Nat) (status : Byte) (o : FrameOutcome)

/-- A replacement's footprint: the ring records, the internal master and the mail. -/
theorem queueReplacement_eq : s.queueReplacement r i status o = { s with
    rings := (s.queueReplacement r i status o).rings
    internal := (s.queueReplacement r i status o).internal
    mail := (s.queueReplacement r i status o).mail } := by
  unfold State.queueReplacement
  split
  · rfl
  · split
    · rfl
    · rw [queueWrite_eq, setSlot_eq]

theorem queueReplacement_mail : ∃ more, (s.queueReplacement r i status o).mail =
    { s.mail with reports := s.mail.reports ++ more } := by
  unfold State.queueReplacement
  split
  · exact ⟨[], by simp⟩
  · split
    · exact ⟨[], by simp⟩
    · obtain ⟨more, grown⟩ := queueWrite_mail (s.setSlot r i _) _
      exact ⟨more, by rw [grown, setSlot_mail]⟩

theorem subset_queueReplacement :
    s.mail.reports ⊆ (s.queueReplacement r i status o).mail.reports := by
  obtain ⟨more, grown⟩ := queueReplacement_mail s r i status o
  simp [grown]

variable {s r i status o}

/-- The replacement of a slot with a presented copy is queued, its first byte the final status. -/
theorem mem_queueReplacement {ring : Ring} {copy : List Byte} (held : s.ring r = some ring)
    (presented : (ring.slot i).copy = some copy) :
    ∃ w ∈ (s.queueReplacement r i status o).internal.writes ++
        (s.queueReplacement r i status o).internal.waitingWrites,
      w.use = .replacement r i ∧ byteAt w.bytes 0 = status := by
  unfold State.queueReplacement
  simp only [held, presented]
  rw [queueWrite_writes]
  exact ⟨_, List.mem_append_right _ (List.mem_singleton.mpr rfl), rfl, rfl⟩

end

/-! ### The end of a job (R102, R112) -/

section
variable (s : State) (j : Job) (status : PartCode)

theorem settleJob_eq : s.settleJob j status = { s with
    rings := (s.settleJob j status).rings
    internal := (s.settleJob j status).internal
    mail := (s.settleJob j status).mail } := by
  unfold State.settleJob
  split
  · rfl
  · split
    · rfl
    · rw [queueReplacement_eq]
      rfl

theorem subset_settleJob : s.mail.reports ⊆ (s.settleJob j status).mail.reports := by
  unfold State.settleJob
  split
  · exact List.Subset.refl _
  · split
    · exact List.Subset.refl _
    · exact subset_queueReplacement (s.notifyStatus _) _ _ _ _

/-- The state after the slot is settled and the refusal reported. -/
def settledJob : State :=
  if status.refusesRenewal then
    (s.settleJob j status).post .keyUnit (some j.link)
      (.renewalRefused (renewalEpoch j.payload) status)
  else s.settleJob j status

/-- The state in which a job has ended and no handoff has taken place. -/
def endedJob : State := (settledJob s j status).removeJob j

theorem settledJob_eq : settledJob s j status = { s with
    rings := (settledJob s j status).rings
    internal := (settledJob s j status).internal
    mail := (settledJob s j status).mail } := by
  unfold settledJob
  split
  · rw [settleJob_eq]
    rfl
  · rw [settleJob_eq]

theorem settledJob_statuses :
    (settledJob s j status).mail.statuses = (s.settleJob j status).mail.statuses := by
  unfold settledJob
  split <;> rfl

theorem settledJob_internal :
    (settledJob s j status).internal = (s.settleJob j status).internal := by
  unfold settledJob
  split <;> rfl

theorem mem_settledJob {s : State} {j : Job} {status : PartCode}
    (refuses : status.refusesRenewal = true) :
    (.keyUnit, ⟨.renewalRefused (renewalEpoch j.payload) status, some j.link, 0⟩) ∈
      (settledJob s j status).mail.reports := by
  rw [settledJob, if_pos refuses]
  exact mem_post _ _ _ _

/-- What the end of a job leaves alone, and the queue and the cipher unit after it. -/
theorem endedJob_eq : endedJob s j status = { s with
    rings := (settledJob s j status).rings
    internal := (settledJob s j status).internal
    mail := (settledJob s j status).mail
    keys := { s.keys with jobs := s.keys.jobs.filter (fun i => i.ident != j.ident) }
    cipher := s.cipher.withdraw .keyUnit j.ident } := by
  unfold endedJob
  rw [settledJob_eq]
  rfl

theorem endedJob_keys : (endedJob s j status).keys =
    { s.keys with jobs := s.keys.jobs.filter (fun i => i.ident != j.ident) } :=
  (congrArg State.keys (endedJob_eq s j status)).trans rfl

theorem endedJob_store : (endedJob s j status).store = s.store :=
  (congrArg State.store (endedJob_eq s j status)).trans rfl

theorem endedJob_cipher : (endedJob s j status).cipher = s.cipher.withdraw .keyUnit j.ident :=
  (congrArg State.cipher (endedJob_eq s j status)).trans rfl

theorem endedJob_link (l : LinkSlot) : (endedJob s j status).link l = s.link l :=
  (congrArg (fun t : State => t.link l) (endedJob_eq s j status)).trans rfl

theorem still_endedJob : (endedJob s j status).still = s.still :=
  (congrArg State.still (endedJob_eq s j status)).trans rfl

theorem endJob_eq_of_context : s.endJob j status =
    match ((endedJob s j status).link j.link).inContext with
    | none => endedJob s j status
    | some c => if c.phase = .awaitingHandoff then (endedJob s j status).handOver j.link
      else endedJob s j status := rfl

variable {s j}

/-- Where no renewal of the link waits behind a job, nothing is handed over at its end. -/
theorem endJob_of_none_waiting
    (alone : ∀ c, (s.link j.link).inContext = some c → c.phase ≠ .awaitingHandoff) :
    s.endJob j status = endedJob s j status := by
  rw [endJob_eq_of_context, endedJob_link]
  split
  · rfl
  · next c hc => exact if_neg (alone c hc)

theorem refusesRenewal_of_mem
    (h : status ∈ [PartCode.staleEpoch, .kekAbsent, .checkMismatch, .badRenewal]) :
    status.refusesRenewal = true := by
  revert h
  cases status <;> decide

/-- A job that is the only one has ended in that state. -/
theorem jobEnded_endedJob (only : s.keys.jobs = [j]) : s.jobEnded (endedJob s j status) j status := by
  have internal : (endedJob s j status).internal = (s.settleJob j status).internal :=
    (congrArg State.internal (endedJob_eq s j status)).trans (settledJob_internal s j status)
  have statuses : (endedJob s j status).mail.statuses = (s.settleJob j status).mail.statuses :=
    (congrArg (fun t : State => t.mail.statuses) (endedJob_eq s j status)).trans
      (settledJob_statuses s j status)
  have reports : (endedJob s j status).mail.reports = (settledJob s j status).mail.reports :=
    (congrArg (fun t : State => t.mail.reports) (endedJob_eq s j status)).trans rfl
  refine ⟨?queue, fun refused => ?refusal, fun q ring copy o hq held waits presented => ?settles,
    fun gone => ?gone⟩
  case queue => simp [endedJob_keys, only]
  case refusal =>
    rw [reports]
    exact mem_settledJob (refusesRenewal_of_mem status refused)
  case settles =>
    have settles : s.settleJob j status =
        (s.notifyStatus ⟨j.link, true, status.byte, false⟩).queueReplacement q j.slot status.byte o := by
      simp only [State.settleJob, hq, slot_of_ring held, waits]
    rw [statuses, internal, settles]
    obtain ⟨more, grown⟩ := queueReplacement_mail
      (s.notifyStatus ⟨j.link, true, status.byte, false⟩) q j.slot status.byte o
    exact ⟨by rw [grown]; rfl, mem_queueReplacement held presented⟩
  case gone =>
    have settles : s.settleJob j status = s := by
      unfold State.settleJob
      split
      · rfl
      · next q hq => simp only [gone q hq]
    rw [statuses, internal, settles]
    exact ⟨rfl, rfl⟩

/-- A job's end is judged by the link's ring, the ring records, the monitor's mail and the internal
master, as they stand before it. -/
theorem jobEnded_congr {s t u : State} {j : Job} {status : PartCode}
    (ring : (t.link j.link).inRing = (s.link j.link).inRing) (rings : t.rings = s.rings)
    (statuses : t.mail.statuses = s.mail.statuses) (internal : t.internal = s.internal)
    (h : t.jobEnded u j status) : s.jobEnded u j status := by
  unfold State.jobEnded State.slot State.ring at h ⊢
  rwa [ring, rings, statuses, internal] at h

/-! ### The start of a job (R107, R108) -/

theorem startJobs_of_no_jobs {s : State} (none : s.keys.jobs = []) (n : Nat) :
    State.startJobs n s = s := by
  cases n with
  | zero => rfl
  | succ n => simp only [State.startJobs, none]

/-- The only job ends, and no other starts. -/
theorem finishJob_of_only (only : s.keys.jobs = [j])
    (alone : ∀ c, (s.link j.link).inContext = some c → c.phase ≠ .awaitingHandoff) :
    s.finishJob j status = endedJob s j status := by
  have none : (endedJob s j status).keys.jobs = [] := by simp [endedJob_keys, only]
  rw [State.finishJob, endJob_of_none_waiting status alone, startJobs_of_no_jobs none]

end

section
variable {s : State} {j : Job} {rest : List Job} (head : s.keys.jobs = j :: rest)
include head

theorem runningJob_of_head {step : JobStep} (stands : j.step = step) :
    s.runningJob j.ident step = some j := by
  simp only [State.runningJob, head, stands, and_self, if_true]

theorem setJob_of_head {i : Job} (same : i.ident = j.ident)
    (others : ∀ o ∈ rest, o.ident ≠ j.ident) :
    s.setJob i = { s with keys := { s.keys with jobs := i :: rest } } := by
  have kept : rest.map (fun o => if o.ident = i.ident then i else o) = rest := by
    have each : rest.map (fun o => if o.ident = i.ident then i else o) = rest.map id :=
      List.map_congr_left fun o ho => if_neg (same ▸ others o ho)
    rw [each, List.map_id]
  simp only [State.setJob, head, List.map_cons, kept, if_pos same.symm]

variable (queued : j.step = .queued) (n : Nat)
include queued

theorem startJobs_of_stale (stale : s.epochAcceptable j.link (renewalEpoch j.payload) = false) :
    State.startJobs (n + 1) s = State.startJobs n (s.endJob j .staleEpoch) := by
  simp only [State.startJobs, head, queued, if_true, stale]

variable (acceptable : s.epochAcceptable j.link (renewalEpoch j.payload) = true)
include acceptable

theorem startJobs_of_bad_slot (bad : kekArg (renewalKek j.payload) = none) :
    State.startJobs (n + 1) s = State.startJobs n (s.endJob j .kekAbsent) := by
  simp only [State.startJobs, head, queued, if_true, acceptable, bad]
  rfl

theorem startJobs_of_good {k : KekIndex} (named : kekArg (renewalKek j.payload) = some k) :
    State.startJobs (n + 1) s =
      (s.setJob { j with step := .askedKek }).askStore (.kekCheck j.ident k) := by
  simp only [State.startJobs, head, queued, if_true, acceptable, named]
  rfl

end

/-! ### Reports stay while jobs end (R101, R112) -/

@[simp] theorem keepOutcome_mail (s : State) (l : LinkSlot) (c : InContext) :
    (s.keepOutcome l c).mail = s.mail := by
  unfold State.keepOutcome
  split
  · rfl
  · exact setSlot_mail _ _ _ _

@[simp] theorem closeIn_mail (s : State) (l : LinkSlot) : (s.closeIn l).mail = s.mail := by
  unfold State.closeIn
  split <;> rfl

@[simp] theorem handOver_mail (s : State) (l : LinkSlot) : (s.handOver l).mail = s.mail := by
  unfold State.handOver
  (repeat' split) <;> simp [State.enqueueJob, State.nextContext]

theorem endJob_mail (s : State) (j : Job) (status : PartCode) :
    (s.endJob j status).mail = (settledJob s j status).mail := by
  rw [endJob_eq_of_context]
  (repeat' split) <;> simp [endedJob, State.removeJob]

theorem subset_endJob (s : State) (j : Job) (status : PartCode) :
    s.mail.reports ⊆ (s.endJob j status).mail.reports := by
  rw [endJob_mail, settledJob]
  split
  · exact List.Subset.trans (subset_settleJob s j status) (subset_post _ _ _ _)
  · exact subset_settleJob s j status

theorem subset_startJobs (n : Nat) (s : State) :
    s.mail.reports ⊆ (State.startJobs n s).mail.reports := by
  induction n generalizing s with
  | zero => exact List.Subset.refl _
  | succ n ih =>
    unfold State.startJobs
    have ends (j : Job) (status : PartCode) :
        s.mail.reports ⊆ (State.startJobs n (s.endJob j status)).mail.reports :=
      List.Subset.trans (subset_endJob s j status) (ih _)
    split
    · exact List.Subset.refl _
    · split
      · split
        · exact ends _ _
        · split
          · exact ends _ _
          · exact List.Subset.refl _
      · exact List.Subset.refl _

theorem mem_finishJob {s : State} {j : Job} {status : PartCode}
    (refuses : status.refusesRenewal = true) :
    (.keyUnit, ⟨.renewalRefused (renewalEpoch j.payload) status, some j.link, 0⟩) ∈
      (s.finishJob j status).mail.reports :=
  subset_startJobs _ _ (by rw [endJob_mail]; exact mem_settledJob refuses)

end Sys2Proof.Proofs.RenewalJobs
end


section
/-! PROOFS. CIPHER_RESULT and KEY_FETCH (R9 to R16, R60, R61, R90, R91, R109, R125, R128, R133): a block returns to
its context, an unwrap result to its job, and a key that is gone ends what asked for it. -/

namespace Sys2Proof.Proofs.CipherResults
open Sys2Proof Sys2Proof.Machine
open Sys2Proof.Proofs.StillRecords Sys2Proof.Proofs.CipherTaking Sys2Proof.Proofs.Frames
open Sys2Proof.Proofs.CommandAnswers Sys2Proof.Proofs.RenewalJobs

/-! ### The tag keys and the header groups (R9 to R11) -/

theorem absorbAll_append (bs cs : List Byte) :
    ∀ t : Tag, t.absorbAll (bs ++ cs) = (t.absorbAll bs).absorbAll cs := by
  induction bs with
  | nil => exact fun _ => rfl
  | cons b bs ih => exact fun t => ih (t.absorb b)

/-- Four bytes that meet an empty group are one group into the accumulator. -/
theorem absorbAll_group {r s : Nat} {value : Option Nat} (a : Nat) {g : List Byte} (four : g.length = 4) :
    (⟨some (r, s), a, [], value⟩ : Tag).absorbAll g =
      ⟨some (r, s), accumulate r a g, [], value⟩ := by
  match g, four with
  | [b0, b1, b2, b3], _ => simp [Tag.absorbAll, Tag.absorb]

theorem accumulate_four (r a : Nat) {g : List Byte} (four : g.length = 4) :
    accumulate r a g = ((a + (leNat g + 2 ^ 32)) * r) % (2 ^ 61 - 1) := by
  simp only [accumulate, groupValue, tagPrime, four]

theorem slices_of_sixteen {header : List Byte} (sixteen : header.length = 16) :
    header = slice header 0 4 ++ slice header 4 4 ++ slice header 8 4 ++ slice header 12 4 ∧
      ∀ k, k = 0 ∨ k = 4 ∨ k = 8 ∨ k = 12 → (slice header k 4).length = 4 := by
  match header, sixteen with
  | [a0, a1, a2, a3, a4, a5, a6, a7, a8, a9, a10, a11, a12, a13, a14, a15], _ =>
    refine ⟨rfl, ?_⟩
    rintro k (rfl | rfl | rfl | rfl) <;> rfl

/-- The tag once block 0 has brought its keys: the header's four groups are taken, and an empty payload
completes it. -/
def keyedTag (block header : List Byte) (len : Nat) : Tag :=
  let r := leNat (slice block 0 8) % 2 ^ 60
  let r := if r = 0 then 1 else r
  let accumulator := [0, 4, 8, 12].foldl (fun a k =>
    ((a + (leNat (slice header k 4) + 2 ^ 32)) * r) % (2 ^ 61 - 1)) 0
  { keys := some (r, leNat (slice block 8 8)), accumulator := accumulator, group := []
    value := if len = 0 then some ((accumulator + leNat (slice block 8 8)) % 2 ^ 64) else none }

theorem tagKeys_eq (block : List Byte) : tagKeys block =
    (if leNat (slice block 0 8) % 2 ^ 60 = 0 then 1 else leNat (slice block 0 8) % 2 ^ 60,
      leNat (slice block 8 8)) := rfl

/-- The header's groups in order are the accumulator of R11. -/
theorem foldl_accumulate {header : List Byte}
    (four : ∀ k, k = 0 ∨ k = 4 ∨ k = 8 ∨ k = 12 → (slice header k 4).length = 4) (r : Nat) :
    [0, 4, 8, 12].foldl (fun a k => accumulate r a (slice header k 4)) 0 =
      [0, 4, 8, 12].foldl (fun a k =>
        ((a + (leNat (slice header k 4) + 2 ^ 32)) * r) % (2 ^ 61 - 1)) 0 := by
  refine List.foldl_ext _ _ 0 fun a k hk => ?_
  exact accumulate_four r a (four k (by simpa using hk))

theorem absorbAll_sixteen {header : List Byte} (sixteen : header.length = 16) (r s : Nat) :
    (⟨some (r, s), 0, [], none⟩ : Tag).absorbAll header =
      ⟨some (r, s), [0, 4, 8, 12].foldl (fun a k =>
        ((a + (leNat (slice header k 4) + 2 ^ 32)) * r) % (2 ^ 61 - 1)) 0, [], none⟩ := by
  obtain ⟨split, four⟩ := slices_of_sixteen sixteen
  have groups : (⟨some (r, s), 0, [], none⟩ : Tag).absorbAll (slice header 0 4 ++ slice header 4 4 ++
      slice header 8 4 ++ slice header 12 4) =
      ⟨some (r, s), [0, 4, 8, 12].foldl (fun a k => accumulate r a (slice header k 4)) 0, [],
        none⟩ := by
    rw [absorbAll_append, absorbAll_append, absorbAll_append, absorbAll_group 0 (four 0 (by simp)),
      absorbAll_group _ (four 4 (by simp)), absorbAll_group _ (four 8 (by simp)),
      absorbAll_group _ (four 12 (by simp))]
    simp only [List.foldl_cons, List.foldl_nil]
  rw [← foldl_accumulate four, ← groups, ← split]

theorem keyed_of_absorbed {block header : List Byte} {r s a : Nat} (keys : tagKeys block = (r, s))
    (absorbed : (⟨some (r, s), 0, [], none⟩ : Tag).absorbAll header = ⟨some (r, s), a, [], none⟩)
    (len : Nat) : (⟨none, 0, [], none⟩ : Tag).keyed block header len =
      ⟨some (r, s), a, [], if len = 0 then some ((a + s) % 2 ^ 64) else none⟩ := by
  unfold Tag.keyed
  simp only [keys, absorbed]
  split <;> rfl

theorem keyed_start {block header : List Byte} (sixteen : header.length = 16) (len : Nat) :
    (⟨none, 0, [], none⟩ : Tag).keyed block header len = keyedTag block header len :=
  keyed_of_absorbed (tagKeys_eq block) (absorbAll_sixteen sixteen _ _) len

/-! ### A block returns to its frame (R60, R61, R90, R91) -/

theorem exec_cipherResult_of_busy {s : State} {q : CipherRequest} {out : List Byte}
    (busy : s.cipher.engine = .busy q out) :
    exec .cipherResult s = .next ((s.setEngine .free).deliver q out).resume := by
  change execCipherResult s = _
  simp only [execCipherResult, busy]

theorem exec_cipherResult_of_not_busy {s : State} (h : ∀ q out, s.cipher.engine ≠ .busy q out) :
    exec .cipherResult s = .next s := by
  change execCipherResult s = _
  unfold execCipherResult
  cases engine : s.cipher.engine with
  | busy q out => exact absurd engine (h q out)
  | fetching q kept => rfl
  | free => rfl

theorem advanceFill_of_no_data {s : State} {l : LinkSlot} {c : OutContext}
    (hc : (s.link l).outContext = some c) (noData : ∀ f, c.fill = some f → f.data = none) :
    s.advanceFill l = s := by
  unfold State.advanceFill
  simp only [hc]
  split
  · rfl
  · next f hf => simp only [noData f hf]

theorem outTakeBlock_fill (c : OutContext) (i : Nat) (out : List Byte) :
    (c.takeBlock i out).fill = c.fill := by
  unfold OutContext.takeBlock
  split <;> rfl

section
variable {s : State} {l : LinkSlot} {i : Nat} {out : List Byte}

theorem outBlock_of_closed (ident : Nat) (closed : (s.link l).outContext = none) :
    s.outBlock l ident i out = s := by
  simp only [State.outBlock, closed]

theorem inBlock_of_closed (ident : Nat) (closed : (s.link l).inContext = none) :
    s.inBlock l ident i out = s := by
  simp only [State.inBlock, closed]

/-- A block that an outbound frame still uses is taken, and nothing else of the frame changes but what it
wants. -/
theorem outBlock_of_open {c : OutContext} (hc : (s.link l).outContext = some c) (kept : c.lost = none)
    (noData : ∀ f, c.fill = some f → f.data = none) :
    s.outBlock l c.ident i out = (s.setOut l (some (c.takeBlock i out))).feedOut l ∧
      ∃ wanted, ((s.outBlock l c.ident i out).link l).outContext = some { c.takeBlock i out with
        keystream := { (c.takeBlock i out).keystream with wanted } } := by
  obtain ⟨wanted, fed⟩ := feedOut_outContext (setOut_outContext s l (some (c.takeBlock i out)))
  have taken : s.outBlock l c.ident i out = (s.setOut l (some (c.takeBlock i out))).feedOut l := by
    simp only [State.outBlock, hc, kept, Option.isNone_none, and_self, if_true]
    refine advanceFill_of_no_data fed fun f hf => noData f ?_
    rw [← outTakeBlock_fill c i out]
    exact hf
  exact ⟨taken, wanted, taken ▸ fed⟩

theorem inBlock_of_open {c : InContext} {h : Header} (hc : (s.link l).inContext = some c)
    (parsed : c.header = some h) (usable : c.usable = true) :
    s.inBlock l c.ident i out = (s.setIn l (some (c.takeBlock h i out))).feedIn l ∧
      ∃ wanted, ((s.inBlock l c.ident i out).link l).inContext = some { c.takeBlock h i out with
        keystream := { (c.takeBlock h i out).keystream with wanted } } := by
  obtain ⟨wanted, fed⟩ := feedIn_inContext (setIn_inContext s l (some (c.takeBlock h i out)))
  have taken : s.inBlock l c.ident i out = (s.setIn l (some (c.takeBlock h i out))).feedIn l := by
    simp only [State.inBlock, hc, parsed, usable, and_self, if_true]
  exact ⟨taken, wanted, taken ▸ fed⟩

end

/-- A payload block of the window is held behind those that are there. -/
theorem take_held {k : Keystream} {i last : Nat} {out : List Byte}
    (within : i ∈ windowBlocks k.start last) : (k.take i last out).held = k.held ++ [(i, out)] := by
  rw [Keystream.take, if_pos (by simpa using within)]

theorem outTakeBlock_of_block {c : OutContext} {i : Nat} {out : List Byte} (payload : i ≠ 0) :
    c.takeBlock i out = { c with keystream := c.keystream.take i (lastBlock c.len) out } :=
  if_neg payload

theorem inTakeBlock_of_block {c : InContext} {h : Header} {i : Nat} {out : List Byte}
    (payload : i ≠ 0) : c.takeBlock h i out =
      { c with keystream := c.keystream.take i (lastBlock h.len) out } := if_neg payload

theorem outTakeBlock_zero {c : OutContext} {header out : List Byte} (bound : c.header = some header)
    (sixteen : header.length = 16) (start : c.tag = ⟨none, 0, [], none⟩) :
    c.takeBlock 0 out = { c with tag := keyedTag out header c.len } := by
  simp only [OutContext.takeBlock, if_true, bound, Option.getD_some, start, keyed_start sixteen]

/-- The comparison that the tag's completion makes due (R91). -/
theorem compare_eq {c : InContext} (usable : c.usable = true) : c.compare = { c with
    verdict := if c.trailer.length = 8 ∧ c.verdict = none then
        c.tag.value.map (fun v => decide (c.trailer = leBytes 8 v))
      else c.verdict } := by
  have due : c.awaitsTag = true ↔ c.trailer.length = 8 ∧ c.verdict = none := by
    simp [InContext.awaitsTag, usable]
  have same (v : Nat) : (tagBytes v == c.trailer) = decide (c.trailer = leBytes 8 v) := by
    rw [Bool.eq_iff_iff, beq_iff_eq, decide_eq_true_iff]
    exact eq_comm
  unfold InContext.compare
  split
  · next now => simp only [if_pos (due.mp now), same]
  · next later => simp only [if_neg fun now => later (due.mpr now)]

theorem inTakeBlock_zero {c : InContext} {h : Header} {out : List Byte} (usable : c.usable = true)
    (sixteen : c.headerBytes.length = 16) (start : c.tag = ⟨none, 0, [], none⟩) :
    c.takeBlock h 0 out = { c with
      tag := keyedTag out c.headerBytes h.len
      verdict := if c.trailer.length = 8 ∧ c.verdict = none then
          (keyedTag out c.headerBytes h.len).value.map (fun v => decide (c.trailer = leBytes 8 v))
        else c.verdict } := by
  have keyed : c.takeBlock h 0 out =
      ({ c with tag := keyedTag out c.headerBytes h.len } : InContext).compare := by
    simp only [InContext.takeBlock, if_true, start, keyed_start sixteen]
  rw [keyed]
  exact compare_eq (c := { c with tag := keyedTag out c.headerBytes h.len }) usable

/-! ### An unwrap result returns to its job (R13, R109) -/

section
variable {s : State} {j : Job} {rest : List Job} {out : List Byte} (head : s.keys.jobs = j :: rest)
  (unwrapping : j.step = .unwrapping) (others : ∀ i ∈ rest, i.ident ≠ j.ident)
include head unwrapping others

/-- The state with the running job's record replaced. -/
def withJob (s : State) (i : Job) (rest : List Job) : State :=
  { s with keys := { s.keys with jobs := i :: rest } }

/-- That state with the candidate's check block requested. -/
def checking (s : State) (i : Job) (rest : List Job) : State :=
  { withJob s i rest with
    cipher := s.cipher.put ⟨.keyUnit, i.ident, .check, List.replicate 16 0, .candidate⟩ }

omit unwrapping in
theorem setJob_checking {i : Job} (same : i.ident = j.ident) :
    { s.setJob i with cipher :=
      (s.setJob i).cipher.put ⟨.keyUnit, j.ident, .check, checkBlock, .candidate⟩ } =
        checking s i rest := by
  rw [setJob_of_head head same others, checking, same]
  rfl

theorem unwrapReturned_first_alone (alone : j.half2 = none) :
    s.unwrapReturned j.ident 1 out =
      withJob s { j with half1 := some (xorBytes (slice j.payload (16 * 1) 16) out) } rest := by
  unfold State.unwrapReturned
  rw [runningJob_of_head head unwrapping]
  simp only [if_true, alone]
  exact setJob_of_head head rfl others

theorem unwrapReturned_second_alone (alone : j.half1 = none) :
    s.unwrapReturned j.ident 2 out =
      withJob s { j with half2 := some (xorBytes (slice j.payload (16 * 2) 16) out) } rest := by
  unfold State.unwrapReturned
  rw [runningJob_of_head head unwrapping]
  simp only [show ¬(2 : Nat) = 1 by decide, if_false, alone]
  exact setJob_of_head head rfl others

theorem unwrapReturned_first {b : List Byte} (second : j.half2 = some b) :
    s.unwrapReturned j.ident 1 out = checking s { j with
      half1 := some (xorBytes (slice j.payload (16 * 1) 16) out), step := .checking
      candidate := some (xorBytes (slice j.payload (16 * 1) 16) out ++ b) } rest := by
  unfold State.unwrapReturned
  rw [runningJob_of_head head unwrapping]
  simp only [if_true, second]
  exact setJob_checking head others rfl

theorem unwrapReturned_second {a : List Byte} (first : j.half1 = some a) :
    s.unwrapReturned j.ident 2 out = checking s { j with
      half2 := some (xorBytes (slice j.payload (16 * 2) 16) out), step := .checking
      candidate := some (a ++ xorBytes (slice j.payload (16 * 2) 16) out) } rest := by
  unfold State.unwrapReturned
  rw [runningJob_of_head head unwrapping]
  simp only [show ¬(2 : Nat) = 1 by decide, if_false, first]
  exact setJob_checking head others rfl

end

/-! ### The store answers a fetch (R125, R128, R133) -/

section
variable {s : State} {q : CipherRequest} {kept : Option (List Byte)} {k : KekIndex} {n : Nat}

theorem exec_keyFetch_of_head {rest : List StoreRequest}
    (head : s.store.requests = .keyFetch k :: rest) : exec .keyFetch s = .next
      ({ s with store := s.store.tookHead (.keyFetch k) rest } : State).keyFetched.resume := by
  change execKeyFetch s = _
  simp only [execKeyFetch, takeRequest_of_head head]

theorem fetchedKek_of_kept {key : List Byte} (live : s.store.marker = .live) :
    s.fetchedKek q (some key) = some key := by
  simp only [State.fetchedKek, live]

theorem fetchedKek_of_slot (ref : q.key = .held (.kek k n)) (live : s.store.marker = .live)
    (loaded : (s.kek k).state = .loaded) (current : s.erasures k = n) :
    s.fetchedKek q none = some (s.kek k).key := by
  simp [State.fetchedKek, live, ref, State.usableKek, State.kekUsable, loaded, current]

theorem fetchedKek_of_gone (ref : q.key = .held (.kek k n))
    (gone : s.store.marker = .parked ∨
      (kept = none ∧ ((s.kek k).state ≠ .loaded ∨ s.erasures k ≠ n))) :
    s.fetchedKek q kept = none := by
  rcases gone with parked | ⟨rfl, absent⟩
  · simp only [State.fetchedKek, parked]
  · unfold State.fetchedKek
    cases s.store.marker with
    | parked => rfl
    | live =>
      simp only [ref]
      exact if_neg fun usable => absent.elim
        (fun unloaded => unloaded (by
          have loaded := usable.1
          simp only [State.kekUsable, Bool.and_eq_true, beq_iff_eq] at loaded
          exact loaded.2))
        (fun erased => erased usable.2)

theorem keyFetched_of_key {key : List Byte} (fetching : s.cipher.engine = .fetching q kept)
    (found : s.fetchedKek q kept = some key) :
    s.keyFetched = s.setEngine (.busy q (blockTransform key q.input)) := by
  simp only [State.keyFetched, fetching, found]
  rfl

theorem keyFetched_of_gone (fetching : s.cipher.engine = .fetching q kept)
    (gone : s.fetchedKek q kept = none) : s.keyFetched = (s.setEngine .free).deliverGone q := by
  simp only [State.keyFetched, fetching, gone]

end

/-- Settles O34: the blocks of the two directions, the halves of a renewal's key, and the store's answers. -/
theorem cipherResultsReturn : Obligations.CipherResultsReturn := by
  refine ⟨?blocks, fun s h => exec_cipherResult_of_not_busy h, ?halves, ?fetches⟩
  case blocks =>
    intro s q out l i busy purpose keyed
    have runs := exec_cipherResult_of_busy busy
    have toOut (asked : q.requester = .outbound l) :
        (s.setEngine .free).deliver q out = (s.setEngine .free).outBlock l q.ident i out := by
      simp only [State.deliver, asked, purpose]
    have toIn (asked : q.requester = .inbound l) :
        (s.setEngine .free).deliver q out = (s.setEngine .free).inBlock l q.ident i out := by
      simp only [State.deliver, asked, purpose]
    refine ⟨?closed, ?payloadOut, ?zeroOut, ?zeroIn, ?payloadIn⟩
    case closed =>
      rintro (⟨asked, closed⟩ | ⟨asked, closed⟩)
      · rw [runs, toOut asked, outBlock_of_closed q.ident (s := s.setEngine .free) closed]
      · rw [runs, toIn asked, inBlock_of_closed q.ident (s := s.setEngine .free) closed]
    case payloadOut =>
      intro c asked hc same kept noData payload within
      obtain ⟨taken, wanted, context⟩ := outBlock_of_open (s := s.setEngine .free) (i := i) (out := out)
        hc kept noData
      rw [toOut asked, ← same] at runs
      refine ⟨_, runs, by rw [taken, feedOut_engine]; rfl, by rw [taken]; simp, _, context, ?_⟩
      rw [outTakeBlock_of_block payload]
      exact take_held within
    case zeroOut =>
      rintro c header asked hc same kept noFill rfl bound sixteen start
      obtain ⟨taken, wanted, context⟩ := outBlock_of_open (s := s.setEngine .free) (i := 0) (out := out)
        hc kept (by simp [noFill])
      rw [toOut asked, ← same] at runs
      rw [outTakeBlock_zero bound sixteen start] at context
      exact ⟨_, runs, by rw [taken, feedOut_engine]; rfl, by rw [taken]; simp, _, context, kept, rfl,
        rfl, rfl⟩
    case zeroIn =>
      rintro c h asked hc same parsed usable rfl sixteen start
      obtain ⟨taken, wanted, context⟩ := inBlock_of_open (s := s.setEngine .free) (i := 0) (out := out)
        hc parsed usable
      rw [toIn asked, ← same] at runs
      rw [inTakeBlock_zero usable sixteen start] at context
      exact ⟨_, runs, by rw [taken, feedIn_engine]; rfl, by rw [taken]; simp, _, context, rfl, rfl,
        rfl, rfl⟩
    case payloadIn =>
      intro c h asked hc same parsed usable payload within
      obtain ⟨taken, wanted, context⟩ := inBlock_of_open (s := s.setEngine .free) (i := i) (out := out)
        hc parsed usable
      rw [toIn asked, ← same] at runs
      refine ⟨_, runs, by rw [taken, feedIn_engine]; rfl, by rw [taken]; simp, _, context, ?_⟩
      rw [inTakeBlock_of_block payload]
      exact take_held within
  case halves =>
    intro s q out j jobs busy asked head same unwrapping others job half block check
    have runs := exec_cipherResult_of_busy busy
    have deliver (n : Nat) (purpose : q.purpose = .unwrap n) :
        (s.setEngine .free).deliver q out = (s.setEngine .free).unwrapReturned j.ident n out := by
      simp only [State.deliver, asked, purpose, same]
    refine ⟨fun first => ⟨fun alone => ?_, fun b second => ?_⟩, fun second => ⟨fun alone => ?_,
      fun a first => ?_⟩⟩
    · rw [runs, deliver 1 first,
        unwrapReturned_first_alone (s := s.setEngine .free) head unwrapping others alone]
      rfl
    · rw [runs, deliver 1 first,
        unwrapReturned_first (s := s.setEngine .free) head unwrapping others second]
      rfl
    · rw [runs, deliver 2 second,
        unwrapReturned_second_alone (s := s.setEngine .free) head unwrapping others alone]
      rfl
    · rw [runs, deliver 2 second,
        unwrapReturned_second (s := s.setEngine .free) head unwrapping others first]
      rfl
  case fetches =>
    intro s k n q kept rest head fetching ref t gone
    have runs : exec .keyFetch s = .next t.keyFetched.resume := exec_keyFetch_of_head head
    refine ⟨?kept, ?slot, fun lost => ?gone⟩
    case kept =>
      rintro key live rfl
      rw [runs, keyFetched_of_key (s := t) fetching (fetchedKek_of_kept live)]
    case slot =>
      rintro rfl live loaded current
      rw [runs, keyFetched_of_key (s := t) fetching (fetchedKek_of_slot ref live loaded current)]
      rfl
    case gone =>
      rw [keyFetched_of_gone (s := t) fetching (fetchedKek_of_gone ref lost)] at runs
      refine ⟨fun j asked only same => ?job, fun m c asked hc same kept => ?outbound,
        fun m c asked hc same kept early receiving => ?inbound⟩
      case job =>
        obtain ⟨jobs, unwrapping, alone⟩ := only
        have ends : (t.setEngine .free).deliverGone q = endedJob (t.setEngine .free) j .kekAbsent := by
          have running := runningJob_of_head (s := t.setEngine .free) jobs unwrapping
          simp only [State.deliverGone, asked, ref, State.unwrapGone, same, running]
          exact finishJob_of_only (s := t.setEngine .free) _ jobs alone
        rw [ends] at runs
        exact ⟨_, runs, jobEnded_endedJob (s := t.setEngine .free) _ jobs,
          by rw [endedJob_cipher, withdraw_engine]; rfl, by rw [endedJob_keys]; rfl,
          still_endedJob (t.setEngine .free) j _⟩
      case outbound =>
        have told : (t.setEngine .free).deliverGone q =
            (t.setEngine .free).outKeyGone m q.ident (.kek k n) := by
          simp only [State.deliverGone, asked, ref]
        rw [told] at runs
        exact ⟨_, runs, outKeyGone_engine _ _ _ _, still_outKeyGone _ _ _ _,
          outKeyGone_outContext (s := t.setEngine .free) hc same kept⟩
      case inbound =>
        have told : (t.setEngine .free).deliverGone q =
            (t.setEngine .free).inKeyGone m q.ident (.kek k n) := by
          simp only [State.deliverGone, asked, ref]
        rw [told] at runs
        exact ⟨_, runs, inKeyGone_engine _ _ _ _, still_inKeyGone _ _ _ _,
          inKeyGone_inContext (s := t.setEngine .free) hc same kept early receiving⟩

end Sys2Proof.Proofs.CipherResults
end


section
/-! PROOFS. The retained store's answers to a frame and to a renewal job, and its queue (R59, R76, R107 to R111,
R127 to R129). -/

namespace Sys2Proof.Proofs.StoreAnswers
open Sys2Proof Sys2Proof.Machine
open Sys2Proof.Proofs.StillRecords Sys2Proof.Proofs.Frames Sys2Proof.Proofs.KeyStandings
open Sys2Proof.Proofs.CommandAnswers Sys2Proof.Proofs.CipherTaking Sys2Proof.Proofs.KeyChanges
open Sys2Proof.Proofs.SecondBoundary Sys2Proof.Proofs.SequenceRequests Sys2Proof.Proofs.RenewalJobs
open Sys2Proof.Proofs.CipherResults

/-! ### A transmit commit (R59, R129) -/

section
variable {s : State} {l : LinkSlot} {c : OutContext} {k : KekIndex} {rest : List StoreRequest}

theorem exec_transmitCommit_of_head {ident : Nat}
    (head : s.store.requests = .transmitCommit l ident k :: rest) :
    exec .transmitCommit s = .next (({ s with
      store := s.store.tookHead (.transmitCommit l ident k) rest } : State).transmitCommit l ident
        k).resume := by
  change execTransmitCommit s = _
  simp only [execTransmitCommit, takeRequest_of_head head]

theorem kekUsable_iff (s : State) (k : KekIndex) : s.kekUsable k = true ↔
    s.store.marker = .live ∧ (s.kek k).state = .loaded := by
  simp [State.kekUsable]

variable (hc : (s.link l).outContext = some c) (asked : c.binding = .commitAsked)
  (kept : c.lost = none)
include hc asked kept

theorem waiting_commit : (s.link l).outContext.filter (fun x => x.awaits c.ident .commitAsked) =
    some c := by
  simp [hc, OutContext.awaits, asked, kept]

theorem transmitCommit_of_usable (live : s.store.marker = .live) (loaded : (s.kek k).state = .loaded)
    (more : (s.kek k).transmit ≠ BitVec.allOnes 48) :
    s.transmitCommit l c.ident k =
      (s.setKek k { s.kek k with transmit := (s.kek k).transmit + 1 }).bindOut l c
        (.kek k (s.erasures k)) 0 ((s.kek k).transmit + 1) := by
  have usable := (kekUsable_iff s k).mpr ⟨live, loaded⟩
  unfold State.transmitCommit
  simp only [usable, more, ne_eq, not_false_eq_true, and_self, if_true]
  unfold State.commitAnswered
  rw [waiting_commit (s := s.setKek k { s.kek k with transmit := (s.kek k).transmit + 1 }) hc asked
    kept]
  rfl

theorem transmitCommit_of_not_usable (h : s.store.marker = .parked ∨ (s.kek k).state ≠ .loaded ∨
    (s.kek k).transmit = BitVec.allOnes 48) :
    s.transmitCommit l c.ident k = s.loseOut l .kekAbsent := by
  have not : ¬(s.kekUsable k = true ∧ (s.kek k).transmit ≠ BitVec.allOnes 48) := by
    rintro ⟨usable, more⟩
    obtain ⟨live, loaded⟩ := (kekUsable_iff s k).mp usable
    rcases h with parked | unloaded | last
    · rw [live] at parked
      cases parked
    · exact unloaded loaded
    · exact more last
  unfold State.transmitCommit
  rw [if_neg not, State.commitAnswered, waiting_commit hc asked kept]

end

theorem bindOut_keys (s : State) (l : LinkSlot) (c : OutContext) (ref : KeyRef) (e : Half) (q : Seq) :
    (s.bindOut l c ref e q).keys = s.keys := by
  unfold State.bindOut State.feedOut
  (repeat' split) <;> rfl

theorem loseOut_keys (s : State) (l : LinkSlot) (code : PartCode) :
    (s.loseOut l code).keys = s.keys := by
  unfold State.loseOut
  (repeat' split) <;> rfl

/-! ### The state summary (R76, R128, 12.2) -/

/-- Byte 7 of the status contents: the marker, and the state of the link's KEK slot. -/
def summaryByte (s : State) (slot : Option KekIndex) : Byte :=
  markerBit s.store.marker ||| kekSummaryBits (slot.map (fun k => (s.kek k).state))

theorem markerBit_eq (m : Marker) : markerBit m = if m = .parked then 0x80 else 0x00 := by
  cases m <;> rfl

theorem kekSummaryBits_eq (s : State) (slot : Option KekIndex) :
    kekSummaryBits (slot.map (fun k => (s.kek k).state)) = (match slot with
      | none => 0x03
      | some k => if (s.kek k).state = .empty then 0x00
        else if (s.kek k).state = .loaded then 0x01 else 0x02) := by
  cases slot with
  | none => rfl
  | some k => cases h : (s.kek k).state <;> simp [kekSummaryBits, h]

theorem exec_stateSummaryRequest_of_head {s : State} {l : LinkSlot} {c : OutContext}
    {k : Option KekIndex} {rest : List StoreRequest}
    (head : s.store.requests = .summary l c.ident k :: rest)
    (hc : (s.link l).outContext = some c) (substituted : c.substituted = true) :
    exec .stateSummaryRequest s = .next (({ s with
      store := s.store.tookHead (.summary l c.ident k) rest } : State).setOut l (some { c with
        contents := c.contents.set 7 (summaryByte s k), contentsComplete := true })).resume := by
  have open_ : ({ s with store := s.store.tookHead (.summary l c.ident k) rest } : State).summarize l
      c.ident k = ({ s with store := s.store.tookHead (.summary l c.ident k) rest } : State).setOut l
        (some { c with contents := c.contents.set 7 (summaryByte s k), contentsComplete := true }) := by
    have found : (({ s with store := s.store.tookHead (.summary l c.ident k) rest } : State).link
        l).outContext.filter (fun x => x.ident == c.ident && x.substituted) = some c := by
      change (s.link l).outContext.filter _ = some c
      simp [hc, substituted]
    unfold State.summarize
    rw [found]
    rfl
  change execStateSummaryRequest s = _
  simp only [execStateSummaryRequest, takeRequest_of_head head, open_]

/-! ### The store's queue: one request of each requester (R127; log 27) -/

section
variable (x : RetainedStore) (r : StoreRequest)

theorem owes_iff : x.owes r.requester = true ↔
    ∃ q ∈ x.requests ++ x.waiting, q.requester = r.requester := by
  simp only [RetainedStore.owes, List.any_eq_true, beq_iff_eq]

variable {x r}

theorem ask_of_free (free : ∀ q ∈ x.requests ++ x.waiting, q.requester ≠ r.requester) :
    x.ask r = { x with requests := x.requests ++ [r] } := by
  have not : ¬x.owes r.requester = true := by
    rw [owes_iff]
    rintro ⟨q, hq, same⟩
    exact free q hq same
  simp [RetainedStore.ask, not]

theorem ask_of_owing (owing : ∃ q ∈ x.requests ++ x.waiting, q.requester = r.requester) :
    x.ask r = { x with waiting := x.waiting ++ [r] } := by
  simp [RetainedStore.ask, (owes_iff x r).mpr owing]

/-- The queue holds no two requests of one requester. -/
def OnePerRequester (rs : List StoreRequest) : Prop :=
  rs.Pairwise (fun a b => a.requester ≠ b.requester)

theorem onePerRequester_append {rs : List StoreRequest} (one : OnePerRequester rs)
    (fresh : ∀ q ∈ rs, q.requester ≠ r.requester) : OnePerRequester (rs ++ [r]) :=
  List.pairwise_append.mpr ⟨one, List.pairwise_singleton _ _, fun q hq o ho => by
    rw [List.mem_singleton.mp ho]
    exact fresh q hq⟩

theorem onePerRequester_ask (one : OnePerRequester x.requests) : OnePerRequester (x.ask r).requests := by
  by_cases owing : ∃ q ∈ x.requests ++ x.waiting, q.requester = r.requester
  · rw [ask_of_owing owing]
    exact one
  · have free : ∀ q ∈ x.requests ++ x.waiting, q.requester ≠ r.requester :=
      fun q hq same => owing ⟨q, hq, same⟩
    rw [ask_of_free free]
    exact onePerRequester_append one fun q hq => free q (List.mem_append_left _ hq)

theorem tookHead_of_none {rest : List StoreRequest}
    (none : ∀ q ∈ x.waiting, q.requester ≠ r.requester) :
    x.tookHead r rest = { x with requests := rest } := by
  have next : takeFirst (fun w => w.requester == r.requester) x.waiting = Option.none :=
    takeFirst_eq_none (by simpa using none)
  simp [RetainedStore.tookHead, next]

theorem tookHead_of_some {rest before after : List StoreRequest} {w : StoreRequest}
    (waiting : x.waiting = before ++ w :: after) (same : w.requester = r.requester)
    (others : ∀ q ∈ before, q.requester ≠ r.requester) :
    x.tookHead r rest = { x with requests := rest ++ [w], waiting := before ++ after } := by
  have next : takeFirst (fun w => w.requester == r.requester) x.waiting = some (w, before ++ after) := by
    rw [waiting]
    exact takeFirst_append (by simpa using others) (by simpa using same)
  simp [RetainedStore.tookHead, next]

/-- What joins the queue when its head is taken is of the head's requester. -/
theorem takeFirst_some {α : Type} {p : α → Bool} {xs rest : List α} {y : α}
    (h : takeFirst p xs = some (y, rest)) : p y = true := by
  induction xs generalizing rest with
  | nil => cases h
  | cons a as ih =>
    unfold takeFirst at h
    split at h
    · next here =>
      cases h
      exact here
    · obtain ⟨⟨z, zs⟩, found, same⟩ := Option.map_eq_some_iff.mp h
      cases same
      exact ih found

theorem onePerRequester_tookHead {rest : List StoreRequest} (head : x.requests = r :: rest)
    (one : OnePerRequester x.requests) : OnePerRequester (x.tookHead r rest).requests := by
  rw [head] at one
  obtain ⟨fresh, one⟩ := List.pairwise_cons.mp one
  unfold RetainedStore.tookHead
  cases next : takeFirst (fun w => w.requester == r.requester) x.waiting with
  | none => simpa [OnePerRequester] using one
  | some found =>
    obtain ⟨w, after⟩ := found
    have same : w.requester = r.requester := by simpa using takeFirst_some next
    exact onePerRequester_append one fun q hq => same ▸ (fresh q hq).symm

end

/-! ### The key check and the start of the next job (R107 to R109) -/

/-- The epoch check of R108 in the words of the statement. -/
def Acceptable (s : State) (j : Job) : Prop :=
  let e := renewalEpoch j.payload
  (∀ k, s.currentKey j.link = some k → (s.key k).epoch ≠ 0 ∧
    e = (if (s.key k).epoch = 0xFFFF#16 then 1#16 else (s.key k).epoch + 1)) ∧
  (s.currentKey j.link = none → e ≠ 0 ∧
    ∀ k, s.drainingKey j.link = some k → (s.key k).epoch ≠ e)

theorem epochSuccessor_eq_some (a e : Half) : epochSuccessor a = some e ↔
    a ≠ 0 ∧ e = (if a = 0xFFFF#16 then 1#16 else a + 1) := by
  unfold epochSuccessor
  by_cases zero : a = 0
  · simp [zero]
  · by_cases last : a = 0xFFFF#16
    · rw [if_neg zero, if_pos last, if_pos last, Option.some_inj]
      exact ⟨fun same => ⟨zero, same.symm⟩, fun h => h.2.symm⟩
    · rw [if_neg zero, if_neg last, if_neg last, Option.some_inj]
      exact ⟨fun same => ⟨zero, same.symm⟩, fun h => h.2.symm⟩

theorem epochAcceptable_iff (s : State) (j : Job) :
    s.epochAcceptable j.link (renewalEpoch j.payload) = true ↔ Acceptable s j := by
  unfold State.epochAcceptable Acceptable
  cases current : s.currentKey j.link with
  | some k => simp [epochSuccessor_eq_some]
  | none =>
    cases draining : s.drainingKey j.link with
    | none => simp
    | some d => simp

theorem epochAcceptable_of_not {s : State} {j : Job} (not : ¬Acceptable s j) :
    s.epochAcceptable j.link (renewalEpoch j.payload) = false := by
  rw [← epochAcceptable_iff] at not
  simpa using not

/-- The epoch check reads the key table alone. -/
theorem epochAcceptable_congr {s t : State} (h : t.keys.table = s.keys.table) (l : LinkSlot) (e : Half) :
    t.epochAcceptable l e = s.epochAcceptable l e := by
  simp only [State.epochAcceptable, State.currentKey, State.drainingKey, State.findKey, State.key, h]

section
variable {s : State} {j : Job} {k : KekIndex}

theorem exec_kekCheck_of_head {rest : List StoreRequest} {ident : Nat}
    (head : s.store.requests = .kekCheck ident k :: rest) : exec .kekCheck s = .next
      (({ s with store := s.store.tookHead (.kekCheck ident k) rest } : State).kekAnswered ident k
        (s.kekUsable k)).resume := by
  change execKekCheck s = _
  simp only [execKekCheck, takeRequest_of_head head]
  rfl

variable {jobs : List Job} (head : s.keys.jobs = j :: jobs) (asked : j.step = .askedKek)
include head asked

theorem kekAnswered_of_unusable : s.kekAnswered j.ident k false = s.finishJob j .kekAbsent := by
  simp only [State.kekAnswered, runningJob_of_head head asked, if_true]

theorem kekAnswered_of_bad_lifetime
    (bad : renewalLifetime j.payload < 60 ∨ 31536000 < renewalLifetime j.payload) :
    s.kekAnswered j.ident k true = s.finishJob j .badRenewal := by
  simp only [State.kekAnswered, runningJob_of_head head asked, Bool.true_eq_false, if_false, if_pos bad]

theorem kekAnswered_of_good (others : ∀ i ∈ jobs, i.ident ≠ j.ident)
    (low : 60 ≤ renewalLifetime j.payload) (high : renewalLifetime j.payload ≤ 31536000) :
    s.kekAnswered j.ident k true = { s with
      keys := { s.keys with jobs := { j with step := .unwrapping } :: jobs }
      cipher := (s.cipher.put (j.unwrapRequest k (s.erasures k) (s.link j.link).wire 1)).put
        (j.unwrapRequest k (s.erasures k) (s.link j.link).wire 2) } := by
  have good : ¬(renewalLifetime j.payload < 60 ∨ 31536000 < renewalLifetime j.payload) := by omega
  simp only [State.kekAnswered, runningJob_of_head head asked, Bool.true_eq_false, if_false,
    if_neg good]
  rw [setJob_of_head (i := { j with step := .unwrapping }) head rfl others]
  rfl

end

theorem put_keyUnit_queue (c : CipherUnit) {q : CipherRequest} (asked : q.requester = .keyUnit) :
    (c.put q).queues[(16 : Fin 17)] = c.queues[(16 : Fin 17)] ++ [q] := by
  simp [CipherUnit.put, CipherUnit.setQueue, CipherUnit.queue, asked, Requester.index]

theorem kekUsable_eq_false {s : State} {k : KekIndex}
    (h : s.store.marker = .parked ∨ (s.kek k).state ≠ .loaded) : s.kekUsable k = false := by
  rw [← Bool.not_eq_true, kekUsable_iff]
  rintro ⟨live, loaded⟩
  rcases h with parked | unloaded
  · rw [live] at parked
    cases parked
  · exact unloaded loaded

/-! ### The final step (R110, R111) -/

/-- What a renewal's end reads of a link: its inbound ring, and how far the inbound frame has come. -/
def jobView (x : Link) : Option RingIndex × Option InPhase := (x.inRing, x.inContext.map (·.phase))

/-- What a renewal's end reads of every link. -/
def jobViews (s : State) : LinkSlot → Option RingIndex × Option InPhase := fun l => jobView (s.link l)

theorem jobViews_setLink {s : State} {l : LinkSlot} {x : Link} (h : jobView x = jobView (s.link l)) :
    jobViews (s.setLink l x) = jobViews s := by
  funext m
  unfold jobViews
  by_cases e : l = m
  · subst e
    rw [State.setLink_link_self, h]
  · rw [State.setLink_link_ne s x e]

theorem jobViews_of_links {s t : State} (h : t.links = s.links) : jobViews t = jobViews s := by
  funext m
  simp only [jobViews, State.link, h]

theorem jobViews_loseOut (s : State) (l : LinkSlot) (code : PartCode) :
    jobViews (s.loseOut l code) = jobViews s := by
  unfold State.loseOut
  split
  · rfl
  · split
    · rfl
    · exact jobViews_setLink (s := { s with cipher := _ }) rfl

theorem jobViews_loseIn (s : State) (l : LinkSlot) (code : PartCode) :
    jobViews (s.loseIn l code) = jobViews s := by
  unfold State.loseIn
  split
  · rfl
  · next c hc =>
    split
    · rfl
    · refine jobViews_setLink (s := { s with cipher := _ }) ?_
      change _ = jobView (s.link l)
      simp only [jobView, hc]
      rfl

theorem jobViews_noticeOut (s : State) (l : LinkSlot) (ref : KeyRef) :
    jobViews (s.noticeOut l ref) = jobViews s := by
  unfold State.noticeOut
  split
  · rfl
  · split
    · exact jobViews_loseOut s l _
    · rfl

theorem jobViews_noticeIn (s : State) (l : LinkSlot) (ref : KeyRef) :
    jobViews (s.noticeIn l ref) = jobViews s := by
  unfold State.noticeIn
  split
  · rfl
  · split
    · exact jobViews_loseIn s l _
    · rfl

theorem jobViews_retireSlot (s : State) (k : KeyIndex) (d : ReportDetail) :
    jobViews (s.retireSlot k d) = jobViews s :=
  (jobViews_noticeIn _ _ _).trans ((jobViews_noticeOut _ _ _).trans rfl)

theorem jobViews_cleared (s : State) (l : LinkSlot) (k : KeyIndex) :
    jobViews (cleared s l k) = jobViews s := by
  have cut : jobViews (s.cutDraining l) = jobViews s := by
    unfold State.cutDraining
    split
    · rfl
    · exact jobViews_retireSlot s _ _
  unfold cleared State.supersede
  split
  · exact cut
  · split
    · rw [jobViews_retireSlot, cut]
    · exact cut

theorem jobView_activatedLink (x : Link) : jobView (activatedLink x) = jobView x := by
  cases h : x.state <;> simp [activatedLink, jobView, h]

theorem jobViews_activate (s : State) (l : LinkSlot) (k : KeyIndex) (cause : ActivationCause) :
    jobViews (s.activate l k cause) = jobViews s := by
  rw [activate_eq, ← jobViews_cleared s l k]
  funext m
  unfold jobViews
  rw [post_link]
  by_cases e : m = l
  · rw [e, linkActivated_link_self, jobView_activatedLink, setKey_link]
  · rw [linkActivated_link_ne _ _ e, setKey_link]

/-- The key of a job's renewal stands in slot k, in a state that is else what the job's end reads. -/
structure Placed (s t : State) (j : Job) (k : KeyIndex) (key : List Byte) (report : ReportDetail) :
    Prop where
  beside : aside t = aside { s with keys := { s.keys with
    installations := s.keys.installations + 1 } }
  views : jobViews t = jobViews s
  filled : t.key k = j.filling key (s.keys.installations + 1)
  others : ∀ o, o ≠ k → t.key o = s.key o
  posted : (.keyUnit, ⟨report, some j.link, 0⟩) ∈ t.mail.reports

section
variable {s t : State} {j : Job} {k : KeyIndex} {key : List Byte}

theorem nextInstallation_of_more (more : s.keys.installations ≠ BitVec.allOnes 64) :
    s.nextInstallation = { s with keys := { s.keys with
      installations := s.keys.installations + 1 } } := if_neg more

theorem fillKey_eq (more : s.keys.installations ≠ BitVec.allOnes 64)
    (report : KeySlot → ReportDetail) : s.fillKey j key k report =
      (({ s with keys := { s.keys with installations := s.keys.installations + 1 } } : State).setKey k
        (j.filling key (s.keys.installations + 1))).post .keyUnit (some j.link)
          (report (j.filling key (s.keys.installations + 1))) := by
  simp only [State.fillKey, nextInstallation_of_more more]

/-- The slot filled is placed (R110). -/
theorem placed_fillKey (more : s.keys.installations ≠ BitVec.allOnes 64)
    (report : KeySlot → ReportDetail) : Placed s (s.fillKey j key k report) j k key
      (report (j.filling key (s.keys.installations + 1))) := by
  rw [fillKey_eq more]
  exact ⟨rfl, rfl, State.setKey_key_self _ k _, fun o ne => State.setKey_key_ne _ _ (Ne.symm ne),
    mem_post _ _ _ _⟩

/-- It stays so when the inbound engine hears of the old installation (R110). -/
theorem Placed.noticeIn {report : ReportDetail} (h : Placed s t j k key report) (l : LinkSlot)
    (ref : KeyRef) : Placed s (t.noticeIn l ref) j k key report where
  beside := (aside_noticeIn t l ref).trans h.beside
  views := (jobViews_noticeIn t l ref).trans h.views
  filled := (key_of_frame (frame_noticeIn t l ref) k).trans h.filled
  others o ne := (key_of_frame (frame_noticeIn t l ref) o).trans (h.others o ne)
  posted := by rw [noticeIn_mail]; exact h.posted

end

theorem subset_endedJob (s : State) (j : Job) (status : PartCode) :
    s.mail.reports ⊆ (endedJob s j status).mail.reports := by
  have mail : (endedJob s j status).mail = (settledJob s j status).mail := rfl
  rw [mail, settledJob]
  split
  · exact List.Subset.trans (subset_settleJob s j status) (subset_post _ _ _ _)
  · exact subset_settleJob s j status

theorem endedJob_key (s : State) (j : Job) (status : PartCode) (k : KeyIndex) :
    (endedJob s j status).key k = s.key k := by
  simp only [State.key, endedJob_keys]

theorem jobs_of_aside {s t : State} (h : aside t = aside s) : t.keys.jobs = s.keys.jobs :=
  (congrArg (fun u : State => u.keys.jobs) h :)

theorem installations_of_aside {s t : State} (h : aside t = aside s) :
    t.keys.installations = s.keys.installations :=
  (congrArg (fun u : State => u.keys.installations) h :)

theorem statuses_of_aside {s t : State} (h : aside t = aside s) : t.mail.statuses = s.mail.statuses :=
  (congrArg (fun u : State => u.mail.statuses) h :)

theorem internal_of_aside {s t : State} (h : aside t = aside s) : t.internal = s.internal :=
  (congrArg State.internal h :)

/-- What the only job's end makes of a state that is beside the key unit the state it began in. -/
theorem finishJob_beside {s t : State} {j : Job} {step : JobStep} {n : BitVec 64} (status : PartCode)
    (only : s.onlyJob j step)
    (beside : aside t = aside { s with keys := { s.keys with installations := n } })
    (views : jobViews t = jobViews s) :
    t.finishJob j status = endedJob t j status ∧ s.jobEnded (endedJob t j status) j status := by
  obtain ⟨jobs, -, alone⟩ := only
  have jobs' : t.keys.jobs = [j] := (jobs_of_aside beside).trans jobs
  have view : jobView (t.link j.link) = jobView (s.link j.link) := congrFun views j.link
  have alone' : ∀ c, (t.link j.link).inContext = some c → c.phase ≠ .awaitingHandoff := by
    intro c hc waits
    have phases : (t.link j.link).inContext.map (·.phase) = (s.link j.link).inContext.map (·.phase) :=
      congrArg Prod.snd view
    rw [hc, Option.map_some, waits] at phases
    obtain ⟨c', hc', phase⟩ := Option.map_eq_some_iff.mp phases.symm
    exact alone c' hc' phase
  exact ⟨finishJob_of_only status jobs' alone', jobEnded_congr (congrArg Prod.fst view)
    ((rings_of_aside beside).trans rfl) ((statuses_of_aside beside).trans rfl)
    ((internal_of_aside beside).trans rfl) (jobEnded_endedJob status jobs')⟩

/-- The end of the job whose key has been placed, with the activation of IMMEDIATE (R110, R111). -/
theorem Placed.finish {s t : State} {j : Job} {k : KeyIndex} {key : List Byte}
    {report : ReportDetail} {step : JobStep} (h : Placed s t j k key report) (only : s.onlyJob j step) :
    ∃ u : State, (t.activateImmediate j k).finishJob j .absorbedRenewal = u ∧
      s.jobEnded u j .absorbedRenewal ∧ u.keys.installations = s.keys.installations + 1 ∧
      (.keyUnit, ⟨report, some j.link, 0⟩) ∈ u.mail.reports ∧
      (renewalImmediate j.payload = false →
        u.key k = j.filling key (s.keys.installations + 1) ∧ ∀ o, o ≠ k → u.key o = s.key o) ∧
      (renewalImmediate j.payload = true →
        u.key k = { j.filling key (s.keys.installations + 1) with
          state := .active, age := some 0 } ∧
        ∃ superseded, (.keyUnit, ⟨.keyActivated (renewalEpoch j.payload) .immediate superseded,
          some j.link, 0⟩) ∈ u.mail.reports) := by
  cases immediate : renewalImmediate j.payload with
  | false =>
    have same : t.activateImmediate j k = t := if_neg (by simp [immediate])
    obtain ⟨ends, ended⟩ := finishJob_beside .absorbedRenewal only h.beside h.views
    refine ⟨_, by rw [same, ends], ended, ?_, subset_endedJob t j _ h.posted, fun _ => ⟨?_, fun o ne => ?_⟩,
      nofun⟩
    · rw [endedJob_keys]
      exact installations_of_aside h.beside
    · rw [endedJob_key, h.filled]
    · rw [endedJob_key, h.others o ne]
  | true =>
    have activates : t.activateImmediate j k = t.activate j.link k .immediate := if_pos immediate
    have beside := (aside_activate t j.link k .immediate).trans h.beside
    obtain ⟨ends, ended⟩ := finishJob_beside .absorbedRenewal only beside
      ((jobViews_activate t j.link k .immediate).trans h.views)
    have announced := mem_activate t j.link k .immediate
    rw [h.filled] at announced
    refine ⟨_, by rw [activates, ends], ended, ?_,
      subset_endedJob _ j _ (subset_activate t j.link k .immediate h.posted), nofun,
      fun _ => ⟨?_, _, subset_endedJob _ j _ announced⟩⟩
    · rw [endedJob_keys]
      exact installations_of_aside beside
    · rw [endedJob_key, activate_key, if_pos rfl, h.filled]

/-! ### The check result (R109 to R111) -/

section
variable {s : State} {j : Job} {key : List Byte}

theorem checkReturned_of_head {rest : List Job} {out : List Byte} (head : s.keys.jobs = j :: rest)
    (checking : j.step = .checking) (formed : j.candidate = some key) :
    s.checkReturned j.ident out = if checkOf out = renewalCheck j.payload then s.finalStep j key
      else s.finishJob j .checkMismatch := by
  simp only [State.checkReturned, runningJob_of_head head checking, formed, Option.getD_some]

theorem finalStep_of_stale (stale : s.epochAcceptable j.link (renewalEpoch j.payload) = false) :
    s.finalStep j key = s.finishJob j .staleEpoch := if_pos stale

variable (acceptable : s.epochAcceptable j.link (renewalEpoch j.payload) = true)
include acceptable

theorem finalStep_of_repeat {k : KeyIndex} (pending : s.pendingKey j.link = some k)
    (same : (s.key k).epoch = renewalEpoch j.payload ∧ (s.key k).check = renewalCheck j.payload) :
    s.finalStep j key = s.finishJob j .renewalRepeat := by
  simp only [State.finalStep, acceptable, Bool.true_eq_false, if_false, pending, if_pos same]

theorem finalStep_of_pending {k : KeyIndex} (pending : s.pendingKey j.link = some k)
    (other : ¬((s.key k).epoch = renewalEpoch j.payload ∧ (s.key k).check = renewalCheck j.payload)) :
    s.finalStep j key = (s.replaceKey j key k).finishJob j .absorbedRenewal := by
  simp only [State.finalStep, acceptable, Bool.true_eq_false, if_false, pending, if_neg other]

theorem finalStep_of_empty {k : KeyIndex} (none : s.pendingKey j.link = none)
    (empty : s.emptyKey = some k) :
    s.finalStep j key = (s.installKey j key k).finishJob j .absorbedRenewal := by
  simp only [State.finalStep, acceptable, Bool.true_eq_false, if_false, none, empty]

end

theorem allKeySlots_sorted : allKeySlots.Pairwise (· < ·) := by decide

theorem emptyKey_of_first {s : State} {k : KeyIndex} (empty : (s.key k).state = .empty)
    (first : ∀ o, o < k → (s.key o).state ≠ .empty) : s.emptyKey = some k :=
  find?_of_first allKeySlots_sorted (mem_allKeySlots k) (by simp [empty])
    fun o below => by simpa using first o below

theorem exec_cipherResult_of_check {s : State} {q : CipherRequest} {out : List Byte}
    (busy : s.cipher.engine = .busy q out) (asked : q.requester = .keyUnit) (check : q.purpose = .check) :
    exec .cipherResult s = .next ((s.setEngine .free).checkReturned q.ident out).resume := by
  rw [exec_cipherResult_of_busy busy]
  simp only [State.deliver, asked, check]

/-! ### The only job's start (R107, R108) -/

section
variable {s : State} {j : Job} (only : s.onlyJob j .queued)
include only

theorem endJob_of_only (status : PartCode) :
    s.endJob j status = endedJob s j status ∧ (endedJob s j status).keys.jobs = [] := by
  obtain ⟨jobs, -, alone⟩ := only
  exact ⟨endJob_of_none_waiting status alone, by simp [endedJob_keys, jobs]⟩

theorem startJobs_of_only_stale (not : ¬Acceptable s j) :
    State.startJobs jobStarts s = endedJob s j .staleEpoch := by
  obtain ⟨ends, none⟩ := endJob_of_only only .staleEpoch
  exact (startJobs_of_stale only.1 only.2.1 16 (epochAcceptable_of_not not)).trans
    (by rw [ends, startJobs_of_no_jobs none])

variable (acceptable : Acceptable s j)
include acceptable

theorem startJobs_of_only_bad_slot (bad : 4 ≤ (renewalKek j.payload).toNat) :
    State.startJobs jobStarts s = endedJob s j .kekAbsent := by
  obtain ⟨ends, none⟩ := endJob_of_only only .kekAbsent
  exact (startJobs_of_bad_slot only.1 only.2.1 16 ((epochAcceptable_iff s j).mpr acceptable)
    (kekArg_eq_none bad)).trans (by rw [ends, startJobs_of_no_jobs none])

theorem startJobs_of_only_good {k : KekIndex} (named : (renewalKek j.payload).toNat = k.val) :
    State.startJobs jobStarts s = ({ s with
      keys := { s.keys with jobs := [{ j with step := .askedKek }] } } : State).askStore
        (.kekCheck j.ident k) := by
  refine (startJobs_of_good only.1 only.2.1 16 ((epochAcceptable_iff s j).mpr acceptable)
    (kekArg_eq_some named)).trans ?_
  rw [setJob_of_head (i := { j with step := .askedKek }) only.1 rfl (by simp)]

end

/-- The job behind one that ends asks the store in its turn. -/
theorem finishJob_of_next {s : State} {j i : Job} {more : List Job} {n : KekIndex}
    (status : PartCode) (head : s.keys.jobs = j :: i :: more) (ne : i.ident ≠ j.ident)
    (others : ∀ o ∈ more, o.ident ≠ j.ident ∧ o.ident ≠ i.ident)
    (alone : ∀ c, (s.link j.link).inContext = some c → c.phase ≠ .awaitingHandoff)
    (queued : i.step = .queued) (acceptable : Acceptable s i)
    (named : (renewalKek i.payload).toNat = n.val) :
    s.finishJob j status = ({ endedJob s j status with
      keys := { s.keys with jobs := { i with step := .askedKek } :: more } } : State).askStore
        (.kekCheck i.ident n) := by
  have left : more.filter (fun o => o.ident != j.ident) = more :=
    List.filter_eq_self.mpr fun o ho => by simpa using (others o ho).1
  have jobs : (endedJob s j status).keys.jobs = i :: more := by
    simp [endedJob_keys, head, ne, left]
  have passes : (endedJob s j status).epochAcceptable i.link (renewalEpoch i.payload) = true := by
    rw [epochAcceptable_congr (s := s) (by rw [endedJob_keys]), epochAcceptable_iff]
    exact acceptable
  rw [State.finishJob, endJob_of_none_waiting status alone]
  refine (startJobs_of_good jobs queued 16 passes (kekArg_eq_some named)).trans ?_
  rw [setJob_of_head (i := { i with step := .askedKek }) jobs rfl fun o ho => (others o ho).2,
    endedJob_keys]

/-- The renewal's last step, by what the key table holds (R110, R111). -/
theorem cipherResult_ends {s : State} {q : CipherRequest} {out key : List Byte} {j : Job}
    (busy : s.cipher.engine = .busy q out) (asked : q.requester = .keyUnit) (check : q.purpose = .check)
    (only : s.onlyJob j .checking) (same : q.ident = j.ident) (formed : j.candidate = some key)
    {status : PartCode} (ends : (if checkOf out = renewalCheck j.payload then
        (s.setEngine .free).finalStep j key else (s.setEngine .free).finishJob j .checkMismatch) =
      (s.setEngine .free).finishJob j status) :
    ∃ u : State, (exec .cipherResult s = .next u.resume ∧ s.jobEnded u j status) ∧
      u.keys.table = s.keys.table := by
  have runs := exec_cipherResult_of_check busy asked check
  obtain ⟨jobs, checking, alone⟩ := only
  rw [same, checkReturned_of_head (s := s.setEngine .free) jobs checking formed, ends,
    finishJob_of_only (s := s.setEngine .free) status jobs alone] at runs
  exact ⟨_, ⟨runs, jobEnded_endedJob (s := s.setEngine .free) status jobs⟩, by
    rw [endedJob_keys]; rfl⟩

/-- Settles O39: the store's two answers to a frame, its answer to a job, its queue, and the job's end with the
start of the next one. -/
theorem storeAnswersItsRequests : Obligations.StoreAnswersItsRequests := by
  refine ⟨⟨?commit, ?summary⟩, ?check, ?queue, ?ended, ?next, ?starts, ?final⟩
  case commit =>
    intro s l c k rest head hc asked kept
    let t : State := { s with store := s.store.tookHead (.transmitCommit l c.ident k) rest }
    have runs : exec .transmitCommit s = .next (t.transmitCommit l c.ident k).resume :=
      exec_transmitCommit_of_head head
    refine ⟨fun live loaded more => ?_, fun h => ?_⟩
    · rw [transmitCommit_of_usable (s := t) hc asked kept live loaded more] at runs
      obtain ⟨wanted, context⟩ := bindOut_outContext
        (t.setKek k { t.kek k with transmit := (t.kek k).transmit + 1 }) l c (.kek k (t.erasures k)) 0
        ((t.kek k).transmit + 1)
      exact ⟨_, runs, still_bindOut _ _ _ _ _ _, bindOut_keys _ _ _ _ _ _, _, context, rfl, rfl, rfl,
        rfl⟩
    · rw [transmitCommit_of_not_usable (s := t) hc asked kept h] at runs
      exact ⟨_, runs, still_loseOut _ _ _, loseOut_keys _ _ _, _,
        loseOut_outContext (s := t) hc kept .kekAbsent, rfl⟩
  case summary =>
    intro s l c k rest head hc substituted marker state
    have byte : summaryByte s k = marker ||| state := by
      rw [summaryByte, markerBit_eq, kekSummaryBits_eq] <;> rfl
    rw [exec_stateSummaryRequest_of_head head hc substituted, byte]
  case check =>
    intro s j jobs k rest head queue asked others
    let t : State := { s with store := s.store.tookHead (.kekCheck j.ident k) rest }
    have runs := exec_kekCheck_of_head head
    refine ⟨fun live loaded low high => ?_, fun h => ?_⟩
    · rw [(kekUsable_iff s k).mpr ⟨live, loaded⟩,
        kekAnswered_of_good (s := t) queue asked others low high] at runs
      refine ⟨_, runs, rfl, ?_, rfl, rfl⟩
      exact (put_keyUnit_queue _ rfl).trans (by rw [put_keyUnit_queue _ rfl, List.append_assoc]; rfl)
    · rw [kekUsable_eq_false h, kekAnswered_of_unusable (s := t) queue asked] at runs
      refine ⟨_, runs, still_finishJob _ _ _, ?_, mem_finishJob rfl⟩
      exact congrArg Frame.table (frame_finishJob _ _ _)
  case queue =>
    intro x r
    exact ⟨ask_of_free, ask_of_owing, onePerRequester_ask, fun rest head => ⟨tookHead_of_none,
      fun before w after => tookHead_of_some, onePerRequester_tookHead head⟩⟩
  case ended =>
    intro s j k rest head only
    obtain ⟨jobs, asked, alone⟩ := only
    have runs := exec_kekCheck_of_head head
    let t : State := { s with store := s.store.tookHead (.kekCheck j.ident k) rest }
    refine ⟨fun h => ?_, fun live loaded bad => ?_⟩
    · rw [kekUsable_eq_false h, kekAnswered_of_unusable (s := t) jobs asked,
        finishJob_of_only (s := t) .kekAbsent jobs alone] at runs
      exact ⟨_, runs, jobEnded_endedJob (s := t) _ jobs, by rw [endedJob_keys]⟩
    · rw [(kekUsable_iff s k).mpr ⟨live, loaded⟩, kekAnswered_of_bad_lifetime (s := t) jobs asked bad,
        finishJob_of_only (s := t) .badRenewal jobs alone] at runs
      exact ⟨_, runs, jobEnded_endedJob (s := t) _ jobs, by rw [endedJob_keys]⟩
  case next =>
    intro s j i more k n rest head jobs asked ne others alone h queued acceptable named
    have runs := exec_kekCheck_of_head head
    let t : State := { s with store := s.store.tookHead (.kekCheck j.ident k) rest }
    rw [kekUsable_eq_false h, kekAnswered_of_unusable (s := t) jobs asked,
      finishJob_of_next (s := t) .kekAbsent jobs ne others alone queued acceptable named] at runs
    exact ⟨_, runs, rfl, congrArg (RetainedStore.ask · (.kekCheck i.ident n)) (endedJob_store t j _)⟩
  case starts =>
    intro s j only
    refine ⟨fun k acceptable named => startJobs_of_only_good only acceptable named,
      fun not => ?_, fun acceptable bad => ?_⟩
    · rw [startJobs_of_only_stale only not]
      exact jobEnded_endedJob _ only.1
    · rw [startJobs_of_only_bad_slot only acceptable bad]
      exact jobEnded_endedJob _ only.1
  case final =>
    intro s q out j key busy asked check only same formed ends p immediate filled placed
    let t := s.setEngine .free
    refine ⟨fun other => cipherResult_ends busy asked check only same formed (if_neg other),
      fun equal => ⟨fun not => ?stale, fun acceptable more => ⟨fun k pending => ⟨fun repeated => ?again,
        fun other => ?replace⟩, fun k none empty first => ?install⟩⟩⟩
    case stale =>
      refine cipherResult_ends busy asked check only same formed ((if_pos equal).trans ?_)
      exact finalStep_of_stale (s := t) (epochAcceptable_of_not not)
    case again =>
      refine cipherResult_ends busy asked check only same formed ((if_pos equal).trans ?_)
      exact finalStep_of_repeat (s := t) ((epochAcceptable_iff t j).mpr acceptable) pending repeated
    case replace =>
      have runs := exec_cipherResult_of_check busy asked check
      rw [same, checkReturned_of_head (s := t) only.1 only.2.1 formed,
        if_pos (c := checkOf out = renewalCheck j.payload) equal,
        finalStep_of_pending (s := t) ((epochAcceptable_iff t j).mpr acceptable) pending
          (by rintro ⟨e, c⟩; exact other.elim (· e) (· c))] at runs
      obtain ⟨u, ends, ended, rest⟩ := ((placed_fillKey (s := t) (key := key) (k := k) more
        (fun x => .keyReplaced x.epoch x.check)).noticeIn j.link ((t.key k).ref k)).finish only
      refine ⟨u, ⟨?_, ended⟩, rest⟩
      rw [← ends]
      exact runs
    case install =>
      have runs := exec_cipherResult_of_check busy asked check
      rw [same, checkReturned_of_head (s := t) only.1 only.2.1 formed,
        if_pos (c := checkOf out = renewalCheck j.payload) equal,
        finalStep_of_empty (s := t) ((epochAcceptable_iff t j).mpr acceptable) none
          (emptyKey_of_first empty first)] at runs
      obtain ⟨u, ends, ended, rest⟩ := (placed_fillKey (s := t) (key := key) (k := k) more
        (fun x => .keyInstalled x.epoch x.check x.activation)).finish only
      refine ⟨u, ⟨?_, ended⟩, rest⟩
      rw [← ends]
      exact runs

end Sys2Proof.Proofs.StoreAnswers
end


section
/-! PROOFS. INTERNAL_READ_DATA (R48, R66, R178, R179): a fetched entry is dispatched, and a gap fill's data are
enciphered and absorbed in order. -/

namespace Sys2Proof.Proofs.ReadData
open Sys2Proof Sys2Proof.Machine
open Sys2Proof.Proofs.StillRecords Sys2Proof.Proofs.CipherTaking Sys2Proof.Proofs.Records
open Sys2Proof.Proofs.Grants

theorem exec_internalReadData_of_head {s : State} {use : ReadUse} {bytes : List Byte}
    {rest : List Completion} (head : s.completions = .data use bytes :: rest) :
    exec .internalReadData s =
      .next (({ s with completions := rest } : State).readData use bytes).resume := by
  have taken : s.takeCompletion = some (.data use bytes, { s with completions := rest }) := by
    simp only [State.takeCompletion, head]
  change execInternalReadData s = _
  simp only [execInternalReadData, taken]

/-! ### A fetched entry (R178, R179) -/

section
variable {s : State} {e : EntryIndex} {b : List Byte}
  (fetching : s.command.executing = some ⟨e, .fetching⟩)
include fetching

theorem recordFetched_of_withdrawn (other : byteAt b 0 ≠ 0x01) :
    s.recordFetched e b = { s with command := ⟨s.command.queue.tail, none⟩ } := by
  simp only [State.recordFetched, fetching, ne_eq, not_true_eq_false, if_false]
  exact if_pos other

variable (command : byteAt b 0 = 0x01)
include command

theorem recordFetched_of_unknown (unknown : decodeRecord b = none) :
    s.recordFetched e b = s.answer b .unknownCommand [] := by
  simp [State.recordFetched, fetching, command, unknown]

theorem recordFetched_of_known (known : (decodeRecord b).isSome = true) :
    s.recordFetched e b =
      if forStore (byteAt b 1).toNat then
        ({ s with command := { s.command with
          executing := some ⟨e, .dispatched b s.time.rawTick⟩ } } : State).askStore .command
      else { s with command := { s.command with
        executing := some ⟨e, .dispatched b s.time.rawTick⟩ } } := by
  have some : ¬(decodeRecord b).isNone = true := by simpa [Option.isSome_iff_ne_none] using known
  simp only [State.recordFetched, fetching, command, ne_eq, not_true_eq_false, if_false, if_neg some]

end

theorem decodeRecord_eq_none {b : List Byte} (bad : (byteAt b 1).toNat = 0 ∨ 0x14 < (byteAt b 1).toNat) :
    decodeRecord b = none := by
  rw [← Option.not_isSome_iff_eq_none, decodeRecord_isSome]
  omega

/-! ### Filling bytes (R64, R66) -/

section
variable (c : OutContext) (plain : Nat → Byte)

theorem keystreamByte_of_held {held : List (Nat × List Byte)} {o : Nat}
    (h : (held.lookup (1 + o / 16)).isSome = true) :
    keystreamByte held o = some (byteAt ((held.lookup (1 + o / 16)).getD []) (o % 16)) := by
  obtain ⟨block, found⟩ := Option.isSome_iff_exists.mp h
  simp [keystreamByte, blockOf, found]

theorem absorb_keys (t : Tag) (b : Byte) : (t.absorb b).keys = t.keys := by
  unfold Tag.absorb
  dsimp only
  split
  · rfl
  · split <;> rfl

theorem finish_keys (t : Tag) : t.finish.keys = t.keys := by
  unfold Tag.finish
  split <;> simp_all

/-- The byte at coverage enciphered and absorbed; at the payload's end the tag is finished (R64). -/
theorem encipher_at_coverage (p k : Byte) : (c.encipher c.coverage p k).1 = { c with
    coverage := c.coverage + 1
    tag := if c.coverage + 1 = c.len then (c.tag.absorb (p ^^^ k)).finish
      else c.tag.absorb (p ^^^ k) } := by
  simp [OutContext.encipher]

theorem tagThrough_coverage : c.tagThrough plain c.coverage = c.tag := by
  simp [OutContext.tagThrough, Tag.absorbAll]

/-- The tag through an offset is the tag through the next byte, and on from there. -/
theorem tagThrough_step {upto : Nat} (more : c.coverage < upto) (within : upto ≤ c.len) :
    ({ c with
      coverage := c.coverage + 1
      tag := if c.coverage + 1 = c.len then (c.tag.absorb (c.cipherAt plain c.coverage)).finish
        else c.tag.absorb (c.cipherAt plain c.coverage) } : OutContext).tagThrough plain upto =
      c.tagThrough plain upto := by
  have bytes : (List.range (upto - c.coverage)).map (fun j => c.cipherAt plain (c.coverage + j)) =
      c.cipherAt plain c.coverage ::
        (List.range (upto - (c.coverage + 1))).map
          (fun j => c.cipherAt plain (c.coverage + 1 + j)) := by
    rw [show upto - c.coverage = (upto - (c.coverage + 1)) + 1 by omega, List.range_succ_eq_map]
    simp [Nat.add_comm, Nat.add_left_comm]
  unfold OutContext.tagThrough
  rw [bytes]
  by_cases last : c.coverage + 1 = upto
  · subst last
    simp [Tag.absorbAll]
  · have notEnd : ¬c.coverage + 1 = c.len := by omega
    have later : c.coverage + 1 < upto := by omega
    simp only [if_neg notEnd, later, more, true_and]
    rfl

variable {c plain}

/-- Fill bytes whose keystream is held are enciphered and absorbed up to the fill end or the end of the
data (R66). -/
theorem fillBytes_eq {bs : List Byte} : ∀ {c : OutContext} {f : Fill}, f.next = c.coverage →
    f.next ≤ f.last + 1 → f.last < c.len → c.tag.keys.isSome = true →
    (∀ i, i < bs.length → bs[i]? = some (plain (f.next + i))) →
    (∀ o, f.next ≤ o → o < min (f.last + 1) (f.next + bs.length) →
      (c.keystream.held.lookup (1 + o / 16)).isSome = true) →
    c.fillBytes f bs =
      ({ c with
        coverage := min (f.last + 1) (f.next + bs.length)
        tag := c.tagThrough plain (min (f.last + 1) (f.next + bs.length)) },
        { f with next := min (f.last + 1) (f.next + bs.length) }) := by
  induction bs with
  | nil =>
    intro c f at_ order _ _ _ _
    have upto : min (f.last + 1) (f.next + ([] : List Byte).length) = c.coverage := by
      simp only [List.length_nil]
      omega
    rw [upto, tagThrough_coverage]
    exact Prod.ext rfl (by rw [← at_]; rfl)
  | cons b bs ih =>
    intro c f at_ order within keys data held
    unfold OutContext.fillBytes
    by_cases ended : f.last < f.next
    · have upto : min (f.last + 1) (f.next + (b :: bs).length) = c.coverage := by omega
      rw [if_pos ended, upto, tagThrough_coverage]
      exact Prod.ext rfl (by rw [← at_])
    · have upto : min (f.last + 1) (f.next + (b :: bs).length) =
          min (f.last + 1) (f.next + 1 + bs.length) := by
        simp only [List.length_cons]
        omega
      rw [upto] at held ⊢
      have byte : b = plain f.next := by simpa using data 0 (by simp)
      have key := keystreamByte_of_held (held f.next (le_refl _) (by omega))
      obtain ⟨pair, hkeys⟩ := Option.isSome_iff_exists.mp keys
      have cipher : b ^^^ byteAt ((c.keystream.held.lookup (1 + f.next / 16)).getD []) (f.next % 16) =
          c.cipherAt plain c.coverage := by
        rw [byte, ← at_]
        rfl
      have enciphered := encipher_at_coverage c b
        (byteAt ((c.keystream.held.lookup (1 + f.next / 16)).getD []) (f.next % 16))
      rw [cipher, ← at_] at enciphered
      have steps := ih (c := (c.encipher f.next b
          (byteAt ((c.keystream.held.lookup (1 + f.next / 16)).getD []) (f.next % 16))).1)
        (f := { f with next := f.next + 1 }) (by rw [enciphered]) (by simp only; omega)
        (by rw [enciphered]; exact within)
        (by
          rw [enciphered]
          dsimp only
          split
          · rw [finish_keys, absorb_keys, hkeys]; rfl
          · rw [absorb_keys, hkeys]; rfl)
        (fun i hi => by
          have later := data (i + 1) (by simpa using hi)
          rw [List.getElem?_cons_succ] at later
          rw [later, Nat.add_assoc, Nat.add_comm i 1])
        (fun o low high => by
          rw [enciphered]
          exact held o (by simp only at low; omega) high)
      simp only [if_neg ended, key, hkeys, steps]
      rw [enciphered]
      have tag := tagThrough_step c plain (upto := min (f.last + 1) (f.next + 1 + bs.length))
        (by omega) (by omega)
      rw [← at_] at tag
      rw [tag]

end

/-! ### The window and the read queue under a fill (R47, R61) -/

section
variable (s : State) (l : LinkSlot) (w : Nat)

@[simp] theorem feedOut_internal : (s.feedOut l).internal = s.internal := by
  unfold State.feedOut
  (repeat' split) <;> rfl

@[simp] theorem feedOut_mail : (s.feedOut l).mail = s.mail := by
  unfold State.feedOut
  (repeat' split) <;> rfl

@[simp] theorem moveOutWindow_internal : (s.moveOutWindow l w).internal = s.internal := by
  unfold State.moveOutWindow
  (repeat' split) <;> simp

@[simp] theorem moveOutWindow_mail : (s.moveOutWindow l w).mail = s.mail := by
  unfold State.moveOutWindow
  (repeat' split) <;> simp

variable {s l}

/-- The window moved stands at its new block, and is the same when it stood there. -/
theorem moveOutWindow_outContext {c : OutContext} (hc : (s.link l).outContext = some c) :
    ∃ k : Keystream, k.start = w ∧ (k.start = c.keystream.start → k = c.keystream) ∧
      ((s.moveOutWindow l w).link l).outContext = some { c with keystream := k } := by
  unfold State.moveOutWindow
  simp only [hc]
  split
  · next stays => exact ⟨c.keystream, stays, fun _ => rfl, hc⟩
  · next moves =>
    obtain ⟨wanted, fed⟩ := feedOut_outContext (setOut_outContext s l (some { c with
      keystream := c.keystream.moveTo w (lastBlock c.len)
        (s.cipher.outstandingBlocks (.outbound l) c.ident) }))
    exact ⟨_, rfl, fun same => absurd same.symm moves, fed⟩

end

/-- A read queued is the last of those that have not been made. -/
theorem queueRead_reads (s : State) (r : InternalRead) :
    (s.queueRead r).internal.reads ++ (s.queueRead r).internal.waitingReads =
      s.internal.reads ++ s.internal.waitingReads ++ [r] := by
  unfold State.queueRead
  split
  · next room => simp [State.admitRead, present_reads, present_waitingReads, room.2]
  · simp

theorem queueRead_mail (s : State) (r : InternalRead) : (s.queueRead r).mail = s.mail := by
  unfold State.queueRead
  split <;> rfl

theorem queueRead_link (s : State) (r : InternalRead) (l : LinkSlot) :
    (s.queueRead r).link l = s.link l := by
  unfold State.queueRead
  split <;> rfl

/-! ### A fill goes on (R65, R66) -/

/-- What a fill's data come to: the context with its coverage moved on, before its window follows. -/
def filledTo (c : OutContext) (plain : Nat → Byte) (upto : Nat) (fill : Option Fill) : OutContext :=
  { c with coverage := upto, tag := c.tagThrough plain upto, fill := fill }

section
variable {s : State} {l : LinkSlot} {c : OutContext} {f : Fill} {b : List Byte}

/-- The plaintext of a payload offset among the data of a fill read. -/
def fillByte (c : OutContext) (f : Fill) (b : List Byte) (o : Nat) : Byte :=
  byteAt b (c.pointer + 16 + o - c.beatOf f.next)

/-- The offset that the data of a fill read reach. -/
def fillReach (c : OutContext) (f : Fill) (b : List Byte) : Nat :=
  min (f.last + 1) (c.beatOf f.next + b.length - (c.pointer + 16))

variable (at_ : f.next = c.coverage) (within : f.last < c.len) (keys : c.tag.keys.isSome = true)
  (some_ : f.next < fillReach c f b) (held : c.holdsKeystream f.next (fillReach c f b - 1))
include at_ within keys some_ held

/-- The data of a read, from the next fill offset on, are absorbed to the offset that they reach. -/
theorem fillBytes_of_data (fill : Option Fill) (data : Option (Nat × List Byte)) :
    ({ c with fill := fill } : OutContext).fillBytes { f with outstanding := false, data := data }
      (b.drop (c.pointer + 16 + f.next - c.beatOf f.next)) =
      (filledTo c (fillByte c f b) (fillReach c f b) fill,
        { f with next := fillReach c f b, outstanding := false, data := data }) := by
  have beat : c.beatOf f.next ≤ c.pointer + 16 + f.next := by
    unfold OutContext.beatOf
    omega
  have reach : min (f.last + 1)
      (f.next + (b.drop (c.pointer + 16 + f.next - c.beatOf f.next)).length) = fillReach c f b := by
    unfold fillReach at some_ ⊢
    rw [List.length_drop]
    omega
  have upto : fillReach c f b ≤ f.last + 1 := Nat.min_le_left _ _
  have bytes := fillBytes_eq (plain := fillByte c f b)
    (bs := b.drop (c.pointer + 16 + f.next - c.beatOf f.next)) (c := { c with fill := fill })
    (f := { f with outstanding := false, data := data }) at_ (by simp only; omega) within keys
    (fun i hi => by
      rw [List.length_drop] at hi
      rw [List.getElem?_drop]
      have inside : c.pointer + 16 + f.next - c.beatOf f.next + i < b.length := by omega
      rw [List.getElem?_eq_getElem inside]
      have offset : c.pointer + 16 + (f.next + i) - c.beatOf f.next =
          c.pointer + 16 + f.next - c.beatOf f.next + i := by omega
      simp only [fillByte, byteAt, offset, List.getD_eq_getElem?_getD,
        List.getElem?_eq_getElem inside, Option.getD_some])
    (fun o low high => held o low (by
      rw [reach] at high
      omega))
  rw [reach] at bytes
  exact bytes

/-- The fill ends with its data (R66). -/
theorem advanceFill_of_end (hc : (s.link l).outContext = some { c with
      fill := some { f with outstanding := false, data := some (c.beatOf f.next, b) } })
    (ends : fillReach c f b = f.last + 1) : s.advanceFill l =
      (s.setOut l (some (filledTo c (fillByte c f b) (fillReach c f b) none))).moveOutWindow l
        (blockOf f.last) := by
  have bytes := fillBytes_of_data at_ within keys some_ held
    (some { f with outstanding := false, data := some (c.beatOf f.next, b) })
    (some (c.beatOf f.next, b))
  have past : f.last < fillReach c f b := by omega
  unfold State.advanceFill
  rw [hc]
  dsimp only
  rw [bytes]
  exact if_pos past

/-- The fill's data are used up, and its next read is queued (R66). -/
theorem advanceFill_of_more (hc : (s.link l).outContext = some { c with
      fill := some { f with outstanding := false, data := some (c.beatOf f.next, b) } })
    (more : fillReach c f b ≤ f.last) : s.advanceFill l =
      ((s.setOut l (some (filledTo c (fillByte c f b) (fillReach c f b)
        (some ⟨fillReach c f b, f.last, true, none⟩)))).moveOutWindow l
          (blockOf (fillReach c f b))).queueRead
        (c.fillRead l ⟨fillReach c f b, f.last, true, none⟩) := by
  have bytes := fillBytes_of_data at_ within keys some_ held
    (some { f with outstanding := false, data := some (c.beatOf f.next, b) })
    (some (c.beatOf f.next, b))
  have under : ¬f.last < fillReach c f b := by omega
  have used : c.beatOf f.next + b.length ≤ c.pointer + 16 + fillReach c f b := by
    unfold fillReach at more ⊢
    omega
  unfold State.advanceFill
  rw [hc]
  dsimp only
  rw [bytes]
  exact (if_neg under).trans (if_pos used)

omit at_ within keys some_ held in
/-- The data of a fill read that its context waits for are kept (R66). -/
theorem fillData_of_waiting (hc : (s.link l).outContext = some c) (filling : c.fill = some f)
    (outstanding : f.outstanding = true) : s.fillData l c.ident b =
      (s.setOut l (some { c with
        fill := some { f with outstanding := false, data := some (c.beatOf f.next, b) } })).advanceFill l := by
  simp only [State.fillData, hc, filling, outstanding, and_self, if_true]

end

theorem fillData_of_other {s : State} {l : LinkSlot} {ident : Nat} {b : List Byte}
    (other : ∀ c, (s.link l).outContext = some c → c.ident ≠ ident) : s.fillData l ident b = s := by
  unfold State.fillData
  split
  · rfl
  · next c hc =>
    split
    · rfl
    · exact if_neg fun h => other c hc h.1

theorem setOut_setOut (s : State) (l : LinkSlot) (x y : Option OutContext) :
    (s.setOut l x).setOut l y = s.setOut l y := by
  simp [State.setOut, State.setLink, State.link]

/-- Settles O20: the dispatch of an entry by its bytes, and a fill's data as far as they reach. -/
theorem readDataReachTheirOwner : Obligations.ReadDataReachTheirOwner := by
  refine ⟨?entries, ?fills, ?discarded⟩
  case entries =>
    intro s e b rest whole head fetching t d code
    have runs : exec .internalReadData s = .next (t.recordFetched e b).resume := by
      rw [exec_internalReadData_of_head head, State.readData]
    have known (command : byteAt b 0 = 0x01#8) (low : 1 ≤ code) (high : code ≤ 0x14) :
        t.recordFetched e b = if forStore code then d.askStore .command else d :=
      recordFetched_of_known (s := t) fetching command ((decodeRecord_isSome b).mpr ⟨low, high⟩)
    refine ⟨fun other => ?_, fun command bad => ?_, fun command low high ne ne' => ?_,
      fun command store => ?_⟩
    · rw [runs, recordFetched_of_withdrawn (s := t) fetching other]
    · rw [runs, recordFetched_of_unknown (s := t) fetching command (decodeRecord_eq_none bad)]
    · rw [runs, known command low high, if_neg (by simp [forStore, ne, ne'])]
    · rw [runs, known command (by omega) (by omega), if_pos (by simpa [forStore] using store)]
  case fills =>
    intro s l c f b rest head hc filling outstanding at_ within keys payload beat upto plain more held
    let t : State := { s with completions := rest }
    let v := t.setOut l (some { c with
      fill := some { f with outstanding := false, data := some (c.beatOf f.next, b) } })
    have runs : exec .internalReadData s = .next (v.advanceFill l).resume := by
      rw [exec_internalReadData_of_head head, State.readData,
        fillData_of_waiting (s := { s with completions := rest }) hc filling outstanding]
    have hv : (v.link l).outContext = some { c with
        fill := some { f with outstanding := false, data := some (c.beatOf f.next, b) } } :=
      setOut_outContext t l _
    by_cases ends : upto = f.last + 1
    · rw [advanceFill_of_end at_ within keys more held hv ends, setOut_setOut] at runs
      obtain ⟨k, start, same, context⟩ := moveOutWindow_outContext (blockOf f.last)
        (setOut_outContext t l (some (filledTo c (fillByte c f b) (fillReach c f b) none)))
      refine ⟨_, runs, by simp only [still_moveOutWindow, still_setOut]; rfl, by simp [t],
        fun _ => ⟨by simp [t], k, start, same, context⟩,
        fun le => absurd le (by omega)⟩
    · have more' : upto ≤ f.last := by
        have le : upto ≤ f.last + 1 := Nat.min_le_left _ _
        omega
      rw [advanceFill_of_more at_ within keys more held hv more', setOut_setOut] at runs
      obtain ⟨k, start, same, context⟩ := moveOutWindow_outContext (blockOf (fillReach c f b))
        (setOut_outContext t l (some (filledTo c (fillByte c f b) (fillReach c f b)
          (some ⟨fillReach c f b, f.last, true, none⟩))))
      refine ⟨_, runs, by simp only [still_queueRead, still_moveOutWindow, still_setOut]; rfl,
        by rw [queueRead_mail]; simp [t], fun e => absurd e ends,
        fun _ => ⟨k, start, ?_, ?_⟩⟩
      · rw [queueRead_link]
        exact context
      · rw [queueRead_reads, moveOutWindow_internal]
        rfl
  case discarded =>
    intro s l ident b rest head other
    rw [exec_internalReadData_of_head head, State.readData,
      fillData_of_other (s := { s with completions := rest }) other]

end Sys2Proof.Proofs.ReadData
end


section
/-! PROOFS. What port L traffic leaves alone: the session fields of the links, the jobs and what a held master
presents, whatever the traffic is; the rings, the queued writes and the transmit stamps too where no completion is
written. -/

namespace Sys2Proof.Proofs.TrafficLeavesAlone
open Sys2Proof Sys2Proof.Machine
open Sys2Proof.Proofs.Frames Sys2Proof.Proofs.SlotsAndResults Sys2Proof.Proofs.RenewalJobs

/-! ### The two views -/

/-- The state of a link, its drain stamp and its rings (R17, R24). -/
def sessionOf (x : Link) : LinkState × Option Seq × Option RingIndex × Option RingIndex :=
  (x.state, x.drainStart, x.outRing, x.inRing)

/-- What no traffic of port L changes. -/
structure Session where
  links : Vector (LinkState × Option Seq × Option RingIndex × Option RingIndex) 8
  presented : List BusRequest
  jobs : List Job

/-- What no traffic of port L but a completion write changes. -/
structure Ledger where
  session : Session
  rings : Vector (Option Ring) 16
  writes : List InternalWrite
  waitingWrites : List InternalWrite
  stamps : Vector (Option Seq) 8

/-- The session fields of a state. -/
def session (s : State) : Session :=
  { links := mapTable s.links sessionOf, presented := s.steering.l.presented, jobs := s.keys.jobs }

/-- The session fields, the rings, the queued writes and the transmit stamps of a state. -/
def ledger (s : State) : Ledger :=
  { session := session s, rings := s.rings, writes := s.internal.writes,
    waitingWrites := s.internal.waitingWrites, stamps := mapTable s.links Link.lastTransmit }

theorem session_of_ledger {s t : State} (h : ledger t = ledger s) : session t = session s :=
  congrArg Ledger.session h

theorem sessionOf_of_session {s t : State} (h : session t = session s) (l : LinkSlot) :
    sessionOf (t.link l) = sessionOf (s.link l) := by
  have links : mapTable t.links sessionOf = mapTable s.links sessionOf := congrArg Session.links h
  exact (mapTable_get t.links sessionOf l).symm.trans
    ((congrArg (·[l]) links).trans (mapTable_get s.links sessionOf l))

theorem lastTransmit_of_ledger {s t : State} (h : ledger t = ledger s) (l : LinkSlot) :
    (t.link l).lastTransmit = (s.link l).lastTransmit := by
  have links : mapTable t.links Link.lastTransmit = mapTable s.links Link.lastTransmit :=
    congrArg Ledger.stamps h
  exact (mapTable_get t.links Link.lastTransmit l).symm.trans
    ((congrArg (·[l]) links).trans (mapTable_get s.links Link.lastTransmit l))

/-! ### Updates -/

section updates
variable (s : State)

@[simp] theorem session_setLink (l : LinkSlot) (x : Link)
    (h : sessionOf x = sessionOf (s.link l)) : session (s.setLink l x) = session s := by
  simp only [session, State.setLink, mapTable_set s.links sessionOf l x h]

@[simp] theorem ledger_setLink (l : LinkSlot) (x : Link) (h : sessionOf x = sessionOf (s.link l))
    (stamp : x.lastTransmit = (s.link l).lastTransmit) : ledger (s.setLink l x) = ledger s := by
  simp only [ledger, session_setLink s l x h]
  simp only [State.setLink, mapTable_set s.links Link.lastTransmit l x stamp]

@[simp] theorem ledger_setOut (l : LinkSlot) (c : Option OutContext) :
    ledger (s.setOut l c) = ledger s := ledger_setLink s l _ rfl rfl
@[simp] theorem ledger_setIn (l : LinkSlot) (c : Option InContext) :
    ledger (s.setIn l c) = ledger s := ledger_setLink s l _ rfl rfl
@[simp] theorem ledger_post (b : ReportSource) (l : Option LinkSlot) (d : ReportDetail) :
    ledger (s.post b l d) = ledger s := rfl
@[simp] theorem ledger_fault (l : Option LinkSlot) (a : Nat) : ledger (s.fault l a) = ledger s := rfl
@[simp] theorem ledger_ringFault (l : LinkSlot) (a : Nat) : ledger (s.ringFault l a) = ledger s := rfl
@[simp] theorem ledger_notifyStatus (n : StatusNotice) : ledger (s.notifyStatus n) = ledger s := rfl
@[simp] theorem ledger_askStore (r : StoreRequest) : ledger (s.askStore r) = ledger s := rfl
@[simp] theorem ledger_forgetAsks (q : StoreRequester) : ledger (s.forgetAsks q) = ledger s := rfl
@[simp] theorem ledger_askKeyUnit (r : KeyRequest) : ledger (s.askKeyUnit r) = ledger s := rfl
@[simp] theorem ledger_cipher (c : CipherUnit) : ledger ({ s with cipher := c } : State) = ledger s := rfl
@[simp] theorem ledger_issueL (a : Access) : ledger (s.issueL a) = ledger s := rfl
@[simp] theorem ledger_withdrawPayload (i : Nat) : ledger (s.withdrawPayload i) = ledger s := rfl

theorem ledger_setPort (b : Bool) (x : Port) (h : x.presented = (s.port b).presented) :
    ledger (s.setPort b x) = ledger s := by
  cases b
  · rfl
  · simp only [ledger, session, State.setPort, if_true]
    rw [show x.presented = s.steering.l.presented from h]

@[simp] theorem ledger_issue (b : Bool) (a : Access) : ledger (s.issue b a) = ledger s :=
  ledger_setPort s b _ rfl

@[simp] theorem ledger_queueRead (r : InternalRead) : ledger (s.queueRead r) = ledger s := by
  unfold State.queueRead State.admitRead
  dsimp only
  split
  · simp only [ledger, present_writes, present_waitingWrites, session]
  · rfl

@[simp] theorem session_queueReplacement (r : RingIndex) (i : Nat) (x : Byte) (o : FrameOutcome) :
    session (s.queueReplacement r i x o) = session s :=
  (congrArg session (queueReplacement_eq s r i x o)).trans rfl

@[simp] theorem session_setSlot (r : RingIndex) (i : Nat) (x : SlotRecord) :
    session (s.setSlot r i x) = session s := (congrArg session (setSlot_eq s r i x)).trans rfl

end updates

/-! ### Reads of an outbound extent (R49, R63, R65) -/

section outbound
variable (s : State) (l : LinkSlot)

@[simp] theorem ledger_feedOut : ledger (s.feedOut l) = ledger s := by
  unfold State.feedOut; dsimp only; (repeat' split) <;> simp

@[simp] theorem ledger_moveOutWindow (w : Nat) : ledger (s.moveOutWindow l w) = ledger s := by
  unfold State.moveOutWindow; dsimp only; (repeat' split) <;> simp

@[simp] theorem ledger_beginRelease (c : OutContext) : ledger (s.beginRelease l c) = ledger s := by
  unfold State.beginRelease; simp

@[simp] theorem ledger_startFill (a b : Nat) : ledger (s.startFill l a b) = ledger s := by
  unfold State.startFill; dsimp only; split <;> simp

@[simp] theorem ledger_takePortion (c : OutContext) (p : Portion) :
    ledger (s.takePortion l c p) = ledger s := by
  unfold State.takePortion; dsimp only; (repeat' split) <;> simp

@[simp] theorem ledger_servePortion (i : Nat) (p : Portion) :
    ledger (s.servePortion l i p).1 = ledger s := by
  unfold State.servePortion; dsimp only; (repeat' split) <;> simp

@[simp] theorem ledger_advanceOutbound (phantom : Bool) (i n : Nat) (p : Portion) :
    ledger (s.advanceOutbound l phantom i n p).1 = ledger s := by
  unfold State.advanceOutbound; dsimp only; (repeat' split) <;> simp

end outbound

/-! ### Writes of a receive guard (R50, R83) -/

section inbound
variable (s : State) (l : LinkSlot)

@[simp] theorem ledger_feedIn : ledger (s.feedIn l) = ledger s := by
  unfold State.feedIn; dsimp only; (repeat' split) <;> simp

@[simp] theorem ledger_moveInWindow (w : Nat) : ledger (s.moveInWindow l w) = ledger s := by
  unfold State.moveInWindow; dsimp only; (repeat' split) <;> simp

@[simp] theorem ledger_streamFaultIn : ledger (s.streamFaultIn l) = ledger s := by
  unfold State.streamFaultIn; split <;> simp

@[simp] theorem ledger_askSelection (c : InContext) (h : Header) (cls : FrameClass) :
    ledger (s.askSelection l c h cls) = ledger s := by
  unfold State.askSelection; dsimp only; (repeat' split) <;> simp

@[simp] theorem ledger_parseIn (c : InContext) : ledger (s.parseIn l c) = ledger s := by
  unfold State.parseIn; dsimp only; split <;> simp

@[simp] theorem ledger_takeHeader (c : InContext) (x : Nat) (b : Byte) :
    ledger (s.takeHeader l c x b) = ledger s := by
  unfold State.takeHeader; dsimp only; split <;> simp

theorem ledger_takePayload (c : InContext) (h : Header) (o : Nat) (b : Byte) {r : State × Byte}
    (e : s.takePayload l c h o b = some r) : ledger r.1 = ledger s := by
  unfold State.takePayload at e
  (repeat' split at e) <;> simp only [Option.some.injEq, reduceCtorEq] at e <;> subst e <;> simp

theorem ledger_takeTrailer (c : InContext) (h : Header) (b : Byte) {r : State × Byte}
    (e : s.takeTrailer l c h b = some r) : ledger r.1 = ledger s := by
  unfold State.takeTrailer at e
  split at e
  · cases e
  · cases e
    simp

theorem ledger_takeByte (c : InContext) (x : Nat) (b : Byte) {r : State × Byte}
    (e : s.takeByte l c x b = some r) : ledger r.1 = ledger s := by
  unfold State.takeByte at e
  (repeat' split at e)
  case _ => cases e
  case _ => cases e; rfl
  case _ => cases e; simp
  case _ => cases e; simp
  case _ => exact ledger_takePayload _ _ _ _ _ _ e
  case _ => exact ledger_takeTrailer _ _ _ _ _ e
  case _ => cases e; simp

@[simp] theorem ledger_storeBytes (bs : List (Option Byte)) (p : Portion) :
    ledger (s.storeBytes l p bs).1 = ledger s := by
  induction bs generalizing s p with
  | nil => rfl
  | cons b bs ih =>
    cases b with
    | none => exact ih s _
    | some b =>
      unfold State.storeBytes
      dsimp only
      split
      · rw [ih]
        split <;> simp
      · split
        · rfl
        · rename_i r e
          rw [ih, ledger_takeByte _ _ _ _ _ e]

@[simp] theorem ledger_issueBeats (i n : Nat) (p : Portion) :
    ledger (s.issueBeats i p n).1 = ledger s := by
  induction n generalizing s p with
  | zero => rfl
  | succ n ih => unfold State.issueBeats; dsimp only; (repeat' split) <;> simp [ih]

@[simp] theorem ledger_advanceInbound (i : Nat) (p : Portion) :
    ledger (s.advanceInbound l i p).1 = ledger s := by
  unfold State.advanceInbound; simp

end inbound

/-! ### Completion writes (R35) -/

section completions
variable (s : State) (l : LinkSlot)

@[simp] theorem session_closeOut : session (s.closeOut l) = session s := by
  unfold State.closeOut
  split
  · rfl
  · exact session_of_ledger (by simp)

@[simp] theorem session_closeIn : session (s.closeIn l) = session s := by
  unfold State.closeIn
  split
  · rfl
  · exact session_of_ledger (by simp)

@[simp] theorem session_notifyStatus (n : StatusNotice) : session (s.notifyStatus n) = session s := rfl

@[simp] theorem session_finishOut (x : Byte) : session (s.finishOut l x) = session s := by
  unfold State.finishOut
  dsimp only
  rw [session_closeOut]
  have stamped : session (s.setLink l { s.link l with lastTransmit := some s.time.rawTick, idle := 0 }) =
      session s := session_setLink s l _ rfl
  split
  · exact stamped
  · exact stamped

@[simp] theorem session_completeOut (c : OutContext) (r : RingIndex) (x : Byte) :
    session (s.completeOut l c r x) = session s := by
  unfold State.completeOut; split <;> simp

@[simp] theorem session_endSettlement (c : InContext) (x : Byte) (b : Bool) :
    session (s.endSettlement l c x b) = session s := by
  unfold State.endSettlement; dsimp only; split <;> simp

@[simp] theorem ledger_confirm (c : InContext) (q : Seq) : ledger (s.confirm l c q) = ledger s := by
  unfold State.confirm; dsimp only; (repeat' split) <;> simp

@[simp] theorem session_settle (c : InContext) (x : Byte) (n : Nat) :
    session (s.settle l c x n) = session s := by
  unfold State.settle State.settleWith
  split
  · simp
  · split
    · simp
    · exact session_of_ledger (by simp)

theorem session_completeIdle (r : RingIndex) (ring : Ring) (i : Nat) (x : Byte) {t : State}
    (e : s.completeIdle r ring i x = some t) : session t = session s := by
  unfold State.completeIdle at e
  (repeat' split at e) <;> simp only [Option.some.injEq, reduceCtorEq] at e <;> subst e <;> simp

theorem session_completeSlot (r : RingIndex) (ring : Ring) (i : Nat) (x : Byte) (n : Nat)
    {t : State} (e : s.completeSlot r ring i x n = some t) : session t = session s := by
  unfold State.completeSlot at e
  (repeat' split at e)
  case _ => cases e
  case _ => cases e; simp
  case _ => exact session_completeIdle _ _ _ _ _ e
  case _ => cases e; simp
  case _ => exact session_completeIdle _ _ _ _ _ e

@[simp] theorem session_completeAll (r : RingIndex) (a : Area) (cs : List (Nat × Byte × Nat))
    (b : Bool) : session (s.completeAll r a b cs).1 = session s := by
  induction cs generalizing s b with
  | nil => rfl
  | cons c cs ih =>
    obtain ⟨i, x, n⟩ := c
    unfold State.completeAll
    split
    · rename_i t e
      obtain ⟨ring, -, e⟩ := Option.bind_eq_some_iff.mp e
      rw [ih, session_completeSlot _ _ _ _ _ _ e]
    · exact ih s true

@[simp] theorem session_completeWrite (r : RingIndex) (a : Area) (n : Nat) (b : List (Option Byte)) :
    session (s.completeWrite r a n b) = session s := by
  unfold State.completeWrite
  dsimp only
  split
  · rw [session_of_ledger (ledger_ringFault _ _ _), session_completeAll]
  · exact session_completeAll _ _ _ _ _

end completions

/-! ### The port's portions (R43, R44) -/

section portions
variable (s : State)

@[simp] theorem ledger_passPortion (b isRead : Bool) (i : Nat) (p : Portion) :
    ledger (s.passPortion b isRead i p).1 = ledger s := by
  unfold State.passPortion; simp

@[simp] theorem ledger_advanceReadL (i n : Nat) (p : Portion) :
    ledger (s.advanceReadL i n p).1 = ledger s := by
  unfold State.advanceReadL; split <;> simp

/-- A write that is no completion. -/
theorem ledger_advanceWriteL {i : Nat} {p : Portion} (other : ∀ r area, p.place ≠ .descriptors r area) :
    ledger (s.advanceWriteL i p).1 = ledger s := by
  unfold State.advanceWriteL
  split
  case h_4 r area e => exact absurd e (other r area)
  all_goals simp

@[simp] theorem session_advanceWriteL (i : Nat) (p : Portion) :
    session (s.advanceWriteL i p).1 = session s := by
  cases e : p.place with
  | descriptors r area => simp [State.advanceWriteL, e]
  | _ => exact session_of_ledger (ledger_advanceWriteL s (by simp [e]))

end portions

/-- A portion that completes no slot: of a read, done, or elsewhere than in a descriptor area (R35). -/
def completesNothing (isRead : Bool) (p : Portion) : Prop :=
  isRead = true ∨ p.done = true ∨ ∀ r area, p.place ≠ .descriptors r area

section handling
variable (s : State)

/-- Port L leaves a portion where it is, or lets its owner go on with it. -/
theorem advance_onL (isRead issued done : Bool) (i n : Nat) (p : Portion) :
    s.advance true isRead issued done i n p = (s, p) ∨
    (isRead = true ∧ s.advance true isRead issued done i n p = s.advanceReadL i n p) ∨
    (isRead = false ∧ p.done = false ∧
      s.advance true isRead issued done i n p = s.advanceWriteL i p) := by
  unfold State.advance
  split
  · exact .inl rfl
  · rename_i going
    replace going : p.done = false := (Bool.or_eq_false_iff.mp (Bool.eq_false_of_not_eq_true going)).1
    generalize (if p.isPlain true isRead then issued else p.started || done) = ready
    cases ready
    · exact .inl rfl
    · cases isRead
      · exact .inr (.inr ⟨rfl, going, rfl⟩)
      · exact .inr (.inl ⟨rfl, rfl⟩)

@[simp] theorem session_advance (isRead issued done : Bool) (i n : Nat) (p : Portion) :
    session (s.advance true isRead issued done i n p).1 = session s := by
  obtain stays | ⟨-, reads⟩ | ⟨-, -, writes⟩ := advance_onL s isRead issued done i n p
  · rw [stays]
  · rw [reads]
    exact session_of_ledger (ledger_advanceReadL s i n p)
  · rw [writes, session_advanceWriteL]

theorem ledger_advance {isRead : Bool} {p : Portion} (h : completesNothing isRead p)
    (issued done : Bool) (i n : Nat) :
    ledger (s.advance true isRead issued done i n p).1 = ledger s := by
  obtain stays | ⟨-, reads⟩ | ⟨write, going, writes⟩ := advance_onL s isRead issued done i n p
  · rw [stays]
  · rw [reads, ledger_advanceReadL]
  · rw [writes]
    obtain read | finished | other := h
    · exact absurd (read.symm.trans write) (by decide)
    · exact absurd (finished.symm.trans going) (by decide)
    · exact ledger_advanceWriteL s other

@[simp] theorem session_advanceAll (isRead : Bool) (n i o : Nat) (issued done : Bool) (ps : List Portion) :
    session (s.advanceAll true isRead n i o issued done ps).1 = session s := by
  induction ps generalizing s i o issued done with
  | nil => rfl
  | cons p ps ih =>
    unfold State.advanceAll
    dsimp only
    rw [ih, session_advance]

theorem ledger_advanceAll {isRead : Bool} {ps : List Portion} (h : ∀ p ∈ ps, completesNothing isRead p)
    (n i o : Nat) (issued done : Bool) :
    ledger (s.advanceAll true isRead n i o issued done ps).1 = ledger s := by
  induction ps generalizing s i o issued done with
  | nil => rfl
  | cons p ps ih =>
    obtain ⟨first, rest⟩ := List.forall_mem_cons.mp h
    unfold State.advanceAll
    dsimp only
    rw [ih _ rest, ledger_advance s first]

/-- The port's transaction goes as far as it can; then the port's own record is written, what is presented
to it standing. -/
theorem handle_onL {x : Transaction} (inside : s.steering.l.current = some x) :
    ∃ port : Port, s.handle true = (s.advanceTransaction true x).1.setPort true port ∧
      port.presented = (s.advanceTransaction true x).1.steering.l.presented := by
  unfold State.handle
  simp only [State.port, inside]
  split
  · exact ⟨_, rfl, rfl⟩
  · exact ⟨_, rfl, rfl⟩

theorem handle_of_idle (idle : s.steering.l.current = none) : s.handle true = s := by
  simp only [State.handle, State.port, idle]

@[simp] theorem session_handle : session (s.handle true) = session s := by
  cases inside : s.steering.l.current with
  | none => rw [handle_of_idle s inside]
  | some x =>
    obtain ⟨port, handled, same⟩ := handle_onL s inside
    rw [handled, session_of_ledger (ledger_setPort _ _ _ same)]
    exact session_advanceAll s _ _ _ _ _ _ _

theorem ledger_handle (h : ∀ x, s.steering.l.current = some x → x.request.isRead = true ∨
      ∀ p ∈ x.portions, p.done = true ∨ ∀ r area, p.place ≠ .descriptors r area) :
    ledger (s.handle true) = ledger s := by
  cases inside : s.steering.l.current with
  | none => rw [handle_of_idle s inside]
  | some x =>
    obtain ⟨port, handled, same⟩ := handle_onL s inside
    rw [handled, ledger_setPort _ _ _ same]
    exact ledger_advanceAll s (fun p mem => (h x inside).imp_right (fun all => all p mem)) _ _ _ _ _

end handling

end Sys2Proof.Proofs.TrafficLeavesAlone
end


section
/-! PROOFS. The frame contexts under port L traffic: a read leaves a key-lost frame alone, and a write of a receive
guard keeps the outbound frame and the slot of the inbound one. -/

namespace Sys2Proof.Proofs.TrafficKeepsContexts
open Sys2Proof Sys2Proof.Machine
open Sys2Proof.Proofs.CipherTaking Sys2Proof.Proofs.SequenceRequests
open Sys2Proof.Proofs.TrafficLeavesAlone

/-! ### Reads: the other links, and a key-lost frame -/

section reads
variable (s : State) {l m : LinkSlot}

theorem queueRead_links (r : InternalRead) : (s.queueRead r).links = s.links := by
  unfold State.queueRead State.admitRead
  split <;> rfl

theorem moveOutWindow_link_ne (w : Nat) (ne : m ≠ l) : (s.moveOutWindow l w).link m = s.link m := by
  unfold State.moveOutWindow
  split
  · rfl
  · dsimp only
    split
    · rfl
    · rw [feedOut_link_ne _ ne, setOut_link_ne _ _ ne]

theorem startFill_link_ne (a b : Nat) (ne : m ≠ l) : (s.startFill l a b).link m = s.link m := by
  unfold State.startFill
  split
  · rfl
  · dsimp only
    rw [State.link, queueRead_links, ← State.link, moveOutWindow_link_ne _ _ ne, setOut_link_ne _ _ ne]

theorem takePortion_link_ne (c : OutContext) (p : Portion) (ne : m ≠ l) :
    (s.takePortion l c p).link m = s.link m := by
  unfold State.takePortion
  dsimp only
  (repeat' split)
  · exact startFill_link_ne s _ _ ne
  · exact moveOutWindow_link_ne s _ ne
  · rfl
  · exact startFill_link_ne s _ _ ne
  · rfl

theorem servePortion_link_ne (i : Nat) (p : Portion) (ne : m ≠ l) :
    (s.servePortion l i p).1.link m = s.link m := by
  unfold State.servePortion
  dsimp only
  split
  · rfl
  · split
    · rfl
    · split <;> exact setOut_link_ne _ _ ne

theorem advanceOutbound_link_ne (phantom : Bool) (i n : Nat) (p : Portion) (ne : m ≠ l) :
    (s.advanceOutbound l phantom i n p).1.link m = s.link m := by
  unfold State.advanceOutbound
  split
  · split <;> rfl
  · split
    · split
      · rfl
      · split
        · exact setOut_link_ne s _ ne
        · rfl
        · rfl
        · rw [servePortion_link_ne _ _ _ ne]
          split
          · rfl
          · exact takePortion_link_ne s _ _ ne
    · split <;> rfl

/-- The link has no outbound frame, or a key-lost one. -/
def FrameLost (x : Link) : Prop := ∀ c, x.outContext = some c → c.lost.isSome = true

/-- A key-lost frame is answered as it stands (R70). -/
theorem advanceOutbound_link_of_lost (h : FrameLost (s.link l)) (phantom : Bool) (i n : Nat)
    (p : Portion) : (s.advanceOutbound l phantom i n p).1.link l = s.link l := by
  unfold State.advanceOutbound
  split
  · split <;> rfl
  · rename_i c held
    split
    · rw [if_pos (h c held)]
      rfl
    · split <;> rfl

theorem advanceReadL_link (h : FrameLost (s.link l)) (i n : Nat) (p : Portion) :
    (s.advanceReadL i n p).1.link l = s.link l := by
  have extent (m : LinkSlot) (phantom : Bool) :
      (s.advanceOutbound m phantom i n p).1.link l = s.link l := by
    by_cases same : l = m
    · subst same
      exact advanceOutbound_link_of_lost s h phantom i n p
    · exact advanceOutbound_link_ne s phantom i n p same
  unfold State.advanceReadL
  split
  case h_5 => exact extent _ _
  case h_7 => exact extent _ _
  all_goals rfl

end reads

/-! ### Writes: the outbound frame, and the slot of the inbound one -/

/-- The outbound frame of a link, and the slot of its inbound one. -/
def contextsOf (x : Link) : Option OutContext × Option Nat :=
  (x.outContext, x.inContext.map InContext.slot)

section writes
variable (s : State) (l m : LinkSlot)

theorem contextsOf_setIn {c : Option InContext}
    (h : c.map InContext.slot = (s.link l).inContext.map InContext.slot) :
    contextsOf ((s.setIn l c).link m) = contextsOf (s.link m) := by
  by_cases same : m = l
  · subst same
    rw [State.setIn, State.setLink_link_self]
    exact Prod.ext rfl h
  · rw [setIn_link_ne _ _ same]

/-- The context written back with its slot. -/
theorem contextsOf_setIn_some {s : State} {l : LinkSlot} {c c' : InContext} (m : LinkSlot)
    (held : (s.link l).inContext = some c) (slot : c'.slot = c.slot) :
    contextsOf ((s.setIn l (some c')).link m) = contextsOf (s.link m) :=
  contextsOf_setIn _ _ _ (by rw [held, Option.map_some, Option.map_some, slot])

theorem contextsOf_feedIn : contextsOf ((s.feedIn l).link m) = contextsOf (s.link m) := by
  unfold State.feedIn
  split
  · rfl
  · rename_i c held
    split
    · exact contextsOf_setIn_some (s := { s with cipher := _ }) m held rfl
    · rfl

theorem contextsOf_moveInWindow (w : Nat) :
    contextsOf ((s.moveInWindow l w).link m) = contextsOf (s.link m) := by
  unfold State.moveInWindow
  split
  · rfl
  · rename_i c held
    split
    · rfl
    · dsimp only
      split
      · rfl
      · rw [contextsOf_feedIn]
        exact contextsOf_setIn_some m held rfl

theorem contextsOf_streamFaultIn :
    contextsOf ((s.streamFaultIn l).link m) = contextsOf (s.link m) := by
  unfold State.streamFaultIn
  split
  · rfl
  · rename_i c held
    exact contextsOf_setIn_some (s := { s with cipher := _ }) m held rfl

theorem withBuffers_slot (cls : FrameClass) (c : InContext) : (c.withBuffers cls).slot = c.slot := by
  cases cls <;> rfl

theorem compare_slot (c : InContext) : c.compare.slot = c.slot := by
  unfold InContext.compare
  split <;> rfl

variable {s l} {c : InContext} (held : (s.link l).inContext = some c)
include held

theorem contextsOf_askSelection {c' : InContext} (slot : c'.slot = c.slot) (h : Header)
    (cls : FrameClass) : contextsOf ((s.askSelection l c' h cls).link m) = contextsOf (s.link m) := by
  have buffered (f : InContext → InContext) (kept : ∀ x, (f x).slot = x.slot) :
      contextsOf ((s.setIn l (some (f (c'.withBuffers cls)))).link m) = contextsOf (s.link m) :=
    contextsOf_setIn_some m held ((kept _).trans ((withBuffers_slot cls c').trans slot))
  unfold State.askSelection
  dsimp only
  (repeat' split)
  · exact buffered (fun x => { x with asking := true }) fun _ => rfl
  · exact buffered (fun x => { x with early := some .noKey }) fun _ => rfl
  · exact buffered (fun x => { x with early := some .kekAbsent }) fun _ => rfl
  · exact buffered (fun x => { x with asking := true }) fun _ => rfl

theorem contextsOf_takeHeader (x : Nat) (b : Byte) :
    contextsOf ((s.takeHeader l c x b).link m) = contextsOf (s.link m) := by
  unfold State.takeHeader State.parseIn
  dsimp only
  split
  · split
    · exact contextsOf_setIn_some m held rfl
    · exact contextsOf_askSelection m held (c' := { c with
        next := x + 1, headerBytes := _, header := _ }) rfl _ _
  · exact contextsOf_setIn_some m held rfl

theorem contextsOf_takePayload (h : Header) (o : Nat) (b : Byte) {r : State × Byte}
    (e : s.takePayload l c h o b = some r) : contextsOf (r.1.link m) = contextsOf (s.link m) := by
  unfold State.takePayload at e
  split at e
  · cases e
    exact contextsOf_setIn_some m held rfl
  split at e
  · cases e
  split at e
  · cases e
    exact contextsOf_setIn_some m held rfl
  split at e
  · cases e
  cases e
  dsimp only
  split
  · rw [contextsOf_moveInWindow]
    exact contextsOf_setIn_some m held rfl
  · exact contextsOf_setIn_some m held rfl

theorem contextsOf_takeTrailer (h : Header) (b : Byte) {r : State × Byte}
    (e : s.takeTrailer l c h b = some r) : contextsOf (r.1.link m) = contextsOf (s.link m) := by
  unfold State.takeTrailer at e
  split at e
  · cases e
  · cases e
    exact contextsOf_setIn_some m held ((compare_slot _).trans rfl)

theorem contextsOf_takeByte (x : Nat) (b : Byte) {r : State × Byte}
    (e : s.takeByte l c x b = some r) : contextsOf (r.1.link m) = contextsOf (s.link m) := by
  unfold State.takeByte at e
  (repeat' split at e)
  case _ => cases e
  case _ => cases e; rfl
  case _ => cases e; exact contextsOf_streamFaultIn s l m
  case _ => cases e; exact contextsOf_takeHeader m held _ _
  case _ => exact contextsOf_takePayload m held _ _ _ e
  case _ => exact contextsOf_takeTrailer m held _ _ e
  case _ => cases e; exact contextsOf_streamFaultIn s l m

end writes

section writing
variable (s : State) (l m : LinkSlot)

/-- The context that takes a byte is the link's. -/
theorem inContext_of_taker {s : State} {l : LinkSlot} {a : Nat} {c : InContext}
    (h : s.taker l a = some c) : (s.link l).inContext = some c :=
  (Option.filter_eq_some_iff.mp h).1

theorem contextsOf_storeBytes (bs : List (Option Byte)) (p : Portion) :
    contextsOf ((s.storeBytes l p bs).1.link m) = contextsOf (s.link m) := by
  induction bs generalizing s p with
  | nil => rfl
  | cons b bs ih =>
    cases b with
    | none => exact ih s _
    | some b =>
      unfold State.storeBytes
      dsimp only
      split
      · rw [ih]
        split <;> rfl
      · rename_i c taken
        split
        · rfl
        · rename_i r e
          rw [ih, contextsOf_takeByte m (inContext_of_taker taken) _ _ e]

theorem issueBeats_links (i n : Nat) (p : Portion) : (s.issueBeats i p n).1.links = s.links := by
  induction n generalizing s p with
  | zero => rfl
  | succ n ih =>
    unfold State.issueBeats
    dsimp only
    (repeat' split)
    · rfl
    · rw [ih]
      rfl
    · rw [ih]

theorem contextsOf_advanceInbound (i : Nat) (p : Portion) :
    contextsOf ((s.advanceInbound l i p).1.link m) = contextsOf (s.link m) := by
  unfold State.advanceInbound
  dsimp only
  rw [State.link, issueBeats_links]
  exact contextsOf_storeBytes s l m _ _

/-- A write that is no completion. -/
theorem contextsOf_advanceWriteL {i : Nat} {p : Portion}
    (other : ∀ r area, p.place ≠ .descriptors r area) :
    contextsOf ((s.advanceWriteL i p).1.link m) = contextsOf (s.link m) := by
  unfold State.advanceWriteL
  split
  case h_4 r area e => exact absurd e (other r area)
  case h_6 => exact contextsOf_advanceInbound _ _ _ _ _
  all_goals rfl

end writing

/-! ### The transaction inside the port -/

section handling
variable (s : State) {l : LinkSlot}

theorem contextsOf_advance (h : FrameLost (s.link l)) {isRead : Bool} {p : Portion}
    (nothing : completesNothing isRead p) (issued done : Bool) (i n : Nat) :
    contextsOf ((s.advance true isRead issued done i n p).1.link l) = contextsOf (s.link l) := by
  obtain stays | ⟨-, reads⟩ | ⟨write, going, writes⟩ := advance_onL s isRead issued done i n p
  · rw [stays]
  · rw [reads, advanceReadL_link s h]
  · rw [writes]
    obtain read | finished | other := nothing
    · exact absurd (read.symm.trans write) (by decide)
    · exact absurd (finished.symm.trans going) (by decide)
    · exact contextsOf_advanceWriteL s l other

theorem frameLost_of_contexts {x y : Link} (h : contextsOf y = contextsOf x) (lost : FrameLost x) :
    FrameLost y := fun c held => lost c ((congrArg Prod.fst h).symm.trans held)

theorem contextsOf_advanceAll (h : FrameLost (s.link l)) {isRead : Bool} {ps : List Portion}
    (nothing : ∀ p ∈ ps, completesNothing isRead p) (n i o : Nat) (issued done : Bool) :
    contextsOf ((s.advanceAll true isRead n i o issued done ps).1.link l) = contextsOf (s.link l) := by
  induction ps generalizing s i o issued done with
  | nil => rfl
  | cons p ps ih =>
    obtain ⟨first, rest⟩ := List.forall_mem_cons.mp nothing
    have one := contextsOf_advance s h first issued done i (n - o)
    unfold State.advanceAll
    dsimp only
    rw [ih _ (frameLost_of_contexts one h) rest, one]

theorem setPort_links (b : Bool) (x : Port) : (s.setPort b x).links = s.links := by
  cases b <;> rfl

theorem contextsOf_handle (h : FrameLost (s.link l))
    (nothing : ∀ x, s.steering.l.current = some x → x.request.isRead = true ∨
      ∀ p ∈ x.portions, p.done = true ∨ ∀ r area, p.place ≠ .descriptors r area) :
    contextsOf ((s.handle true).link l) = contextsOf (s.link l) := by
  cases inside : s.steering.l.current with
  | none => rw [handle_of_idle s inside]
  | some x =>
    obtain ⟨port, handled, -⟩ := handle_onL s inside
    rw [handled, State.link, setPort_links]
    exact contextsOf_advanceAll s h (fun p mem => (nothing x inside).imp_right (fun all => all p mem))
      _ _ _ _ _

end handling

end Sys2Proof.Proofs.TrafficKeepsContexts
end


section
/-! PROOFS. The drain limit (R26, R73): the answer of a key-lost frame, what closing a link's contexts and
replacing its slots changes, and DRAIN_LIMIT_EXPIRY. -/

namespace Sys2Proof.Proofs.DrainLimit
open Sys2Proof Sys2Proof.Machine
open Sys2Proof.Proofs.SlotsAndResults Sys2Proof.Proofs.RenewalJobs
open Sys2Proof.Proofs.CipherTaking Sys2Proof.Proofs.MemoryPort Sys2Proof.Proofs.Grants
open Sys2Proof.Proofs.TrafficLeavesAlone Sys2Proof.Proofs.TrafficKeepsContexts

/-! ### The answer of a key-lost frame (R12, R70) -/

theorem byteAt_leBytes (n v i : Nat) :
    byteAt (leBytes n v) i = if i < n then BitVec.ofNat 8 (v / 256 ^ i) else 0 := by
  induction n generalizing v i with
  | zero => simp [leBytes, byteAt]
  | succ n ih =>
    cases i with
    | zero => simp [leBytes, byteAt]
    | succ i =>
      have next : byteAt (leBytes (n + 1) v) (i + 1) = byteAt (leBytes n (v / 256)) i := rfl
      rw [next, ih, Nat.pow_succ', ← Nat.div_div_eq_div_mul]
      simp only [Nat.succ_lt_succ_iff]

theorem byteAt_tagBytes (v : Nat) {i : Nat} (within : i < 8) :
    byteAt (tagBytes v) i = BitVec.ofNat 8 (v / 256 ^ i) := by
  rw [tagBytes, byteAt_leBytes, if_pos within]

theorem byteAt_zeroes (n i : Nat) : byteAt (zeroes n) i = 0 := by
  rw [byteAt, zeroes, List.getD_eq_getElem?_getD, List.getElem?_replicate]
  split <;> rfl

theorem byteAt_map_not {bs : List Byte} {i : Nat} (within : i < bs.length) :
    byteAt (bs.map (fun b => ~~~b)) i = ~~~(byteAt bs i) := by
  simp [byteAt, List.getD, within]

/-- A byte of the trailer that a key-lost frame shows. -/
theorem byteAt_lostTrailer (t : Tag) {i : Nat} (within : i < 8) : byteAt (lostTrailer t) i =
    match t.value with
    | some v => ~~~(BitVec.ofNat 8 (v / 256 ^ i))
    | none => 0xFF#8 := by
  unfold lostTrailer
  cases t.value with
  | none =>
    rw [byteAt_map_not (by simpa [zeroes] using within)]
    simp only [Option.map_none, Option.getD_none, byteAt_zeroes]
    rfl
  | some v =>
    rw [byteAt_map_not (by simpa [tagBytes] using within)]
    simp only [Option.map_some, Option.getD_some, byteAt_tagBytes v within]

/-- What a key-lost frame shows at an address: zero, but its tag's complement in the trailer. -/
def lostAnswer (c : OutContext) (a : Nat) : Byte :=
  let trailer := c.pointer + 16 + c.len
  if trailer ≤ a ∧ a < trailer + 8 then
    (match c.tag.value with
      | some v => ~~~(BitVec.ofNat 8 (v / 256 ^ (a - trailer)))
      | none => 0xFF#8)
  else 0x00#8

theorem lostByte_eq (c : OutContext) (a : Nat) : c.lostByte a = lostAnswer c a := by
  have ends : c.pointer + extentLength c.len = c.pointer + 16 + c.len + 8 := by
    unfold extentLength
    omega
  unfold OutContext.lostByte lostAnswer
  rw [ends]
  dsimp only
  split
  · rename_i inside
    rw [byteAt_lostTrailer _ (by omega),
      show a - c.pointer - 16 - c.len = a - (c.pointer + 16 + c.len) by omega]
  · rfl

/-- A portion that touches a key-lost frame is answered whole (R70). -/
theorem advanceOutbound_of_lost {s : State} {l : LinkSlot} {c : OutContext} {phantom : Bool} {p : Portion}
    (hc : (s.link l).outContext = some c) (kind : c.substituted = phantom) (lost : c.lost.isSome = true)
    (touches : max p.start c.pointer < min (p.start + 8 * p.beats) (c.pointer + 24 + c.len))
    (new : p.answer = []) (i n : Nat) :
    s.advanceOutbound l phantom i n p = (s.withdrawPayload i, { p with
      started := true
      issued := true
      answer := (List.range (8 * p.beats)).map (fun j => lostAnswer c (p.start + j))
      done := true }) := by
  have touched : p.touches c.pointer (c.pointer + extentLength c.len) = true :=
    decide_eq_true (by unfold extentLength; omega)
  unfold State.advanceOutbound
  simp only [hc]
  rw [if_pos ⟨kind, touched⟩, if_pos lost]
  simp only [new, List.take_nil, List.nil_append, List.length_nil, List.drop_zero, lostByte_eq]

/-! ### What a replacement changes -/

/-- The writes of the internal master, those that wait for a place included. -/
def queued (s : State) : List InternalWrite := s.internal.writes ++ s.internal.waitingWrites

/-- The writes queued between two states are replacements of slots of one ring. -/
def OnlyReplaces (r : RingIndex) (s t : State) : Prop :=
  ∃ more, queued t = queued s ++ more ∧ ∀ w ∈ more, ∃ j, w.use = .replacement r j

theorem OnlyReplaces.refl (r : RingIndex) (s : State) : OnlyReplaces r s s := ⟨[], by simp, by simp⟩

theorem OnlyReplaces.of_internal {r : RingIndex} {s t : State} (h : t.internal = s.internal) :
    OnlyReplaces r s t := ⟨[], by simp [queued, h], by simp⟩

theorem OnlyReplaces.trans {r : RingIndex} {s t u : State} (h : OnlyReplaces r s t)
    (h' : OnlyReplaces r t u) : OnlyReplaces r s u := by
  obtain ⟨xs, hx, allx⟩ := h
  obtain ⟨ys, hy, ally⟩ := h'
  exact ⟨xs ++ ys, by rw [hy, hx, List.append_assoc],
    fun w mem => (List.mem_append.mp mem).elim (allx w) (ally w)⟩

theorem OnlyReplaces.subset {r : RingIndex} {s t : State} (h : OnlyReplaces r s t) :
    queued s ⊆ queued t := by
  obtain ⟨more, grown, -⟩ := h
  simp [grown]

theorem OnlyReplaces.of_mem {r q : RingIndex} {s t : State} (h : OnlyReplaces r s t) (ne : q ≠ r)
    {w : InternalWrite} (mem : w ∈ queued t) (replaces : ∃ j, w.use = .replacement q j) :
    w ∈ queued s := by
  obtain ⟨more, grown, all⟩ := h
  rw [grown, List.mem_append] at mem
  refine mem.resolve_right fun new => ?_
  obtain ⟨i, hi⟩ := all w new
  obtain ⟨j, hj⟩ := replaces
  exact ne (WriteUse.replacement.inj (hj.symm.trans hi)).1

theorem queueWrite_slot (s : State) (w : InternalWrite) (q : RingIndex) (j : Nat) :
    (s.queueWrite w).slot q j = s.slot q j :=
  slot_eq_of_rings ((congrArg State.rings (queueWrite_eq s w)).trans rfl) q j

section replacement
variable (s : State) (r : RingIndex) (i : Nat) (status : Byte) (o : FrameOutcome)

theorem onlyReplaces_queueReplacement : OnlyReplaces r s (s.queueReplacement r i status o) := by
  unfold State.queueReplacement
  split
  · exact .refl r s
  · split
    · exact .refl r s
    · refine ⟨[_], (queueWrite_writes _ _).trans (by rw [setSlot_internal]; rfl), ?_⟩
      simp only [List.mem_singleton, forall_eq]
      exact ⟨i, rfl⟩

theorem queueReplacement_slot_ne {q : RingIndex} {j : Nat} (ne : q ≠ r ∨ j ≠ i) :
    (s.queueReplacement r i status o).slot q j = s.slot q j := by
  unfold State.queueReplacement
  split
  · rfl
  · split
    · rfl
    · rw [queueWrite_slot, slot_setSlot_ne _ _ ne]

/-- A slot with a presented copy is one of its ring's. -/
theorem ring_of_copy {copy : List Byte} (h : (s.slot r i).copy = some copy) :
    ∃ ring, s.ring r = some ring ∧ ring.slot i = s.slot r i ∧ i < ring.slots.length := by
  cases held : s.ring r with
  | none =>
    rw [slot_of_no_ring held] at h
    cases h
  | some ring =>
    refine ⟨ring, rfl, (slot_of_ring held i).symm, ?_⟩
    by_contra past
    rw [slot_of_ring held, Ring.slot, List.getD_eq_default _ _ (Nat.le_of_not_lt past)] at h
    cases h

variable {s r i}

theorem queueReplacement_slot_self {copy : List Byte} (h : (s.slot r i).copy = some copy) :
    (s.queueReplacement r i status o).slot r i = { s.slot r i with pending := true, job := none } := by
  obtain ⟨ring, held, same, within⟩ := ring_of_copy s r i h
  unfold State.queueReplacement
  simp only [held, same, h]
  rw [queueWrite_slot, slot_setSlot_self _ held within]

/-- The replacement is queued, its first byte the final status. -/
theorem mem_queued_queueReplacement {copy : List Byte} (h : (s.slot r i).copy = some copy) :
    ∃ w ∈ queued (s.queueReplacement r i status o),
      w.use = .replacement r i ∧ byteAt w.bytes 0 = status := by
  obtain ⟨ring, held, same, -⟩ := ring_of_copy s r i h
  exact mem_queueReplacement held (by rw [same, h])

end replacement

/-! ### The outbound frame -/

section outbound
variable (s : State) (l : LinkSlot)

theorem closeOut_link : (s.closeOut l).link l = { s.link l with outContext := none } := by
  unfold State.closeOut
  split
  · rename_i none
    rw [← none]
  · exact State.setLink_link_self _ _ _

/-- What closing an outbound frame changes. -/
theorem closeOut_eq : s.closeOut l = { s with
    links := (s.closeOut l).links, cipher := (s.closeOut l).cipher, store := (s.closeOut l).store } := by
  unfold State.closeOut
  split <;> rfl

theorem closeOut_rings : (s.closeOut l).rings = s.rings :=
  (congrArg State.rings (closeOut_eq s l)).trans rfl

theorem closeOut_internal : (s.closeOut l).internal = s.internal :=
  (congrArg State.internal (closeOut_eq s l)).trans rfl

theorem closeOut_mail : (s.closeOut l).mail = s.mail :=
  (congrArg State.mail (closeOut_eq s l)).trans rfl

/-- What forcing the outbound frame changes. -/
theorem forceOut_eq : s.forceOut l = { s with
    links := (s.closeOut l).links
    cipher := (s.closeOut l).cipher
    store := (s.closeOut l).store
    rings := (s.forceOut l).rings
    internal := (s.forceOut l).internal
    mail := (s.forceOut l).mail } := by
  unfold State.forceOut
  cases held : (s.link l).outContext with
  | none =>
    have closed : s.closeOut l = s := by simp only [State.closeOut, held]
    rw [closed]
  | some c =>
    have closed : s.closeOut l = { s with
        links := (s.closeOut l).links
        cipher := (s.closeOut l).cipher
        store := (s.closeOut l).store
        rings := (s.closeOut l).rings
        internal := (s.closeOut l).internal
        mail := (s.closeOut l).mail } := by
      rw [closeOut_rings, closeOut_internal, closeOut_mail, ← closeOut_eq]
    dsimp only
    split
    · exact closed
    · split
      · exact closed
      · rw [queueReplacement_eq, closeOut_eq]

theorem forceOut_link : (s.forceOut l).link l = { s.link l with outContext := none } :=
  (congrArg (fun t => State.link t l) (forceOut_eq s l)).trans (closeOut_link s l)

theorem forceOut_steering : (s.forceOut l).steering = s.steering :=
  (congrArg State.steering (forceOut_eq s l)).trans rfl

theorem forceOut_keys : (s.forceOut l).keys = s.keys :=
  (congrArg State.keys (forceOut_eq s l)).trans rfl

variable {s l}

/-- The frame's slot is its ring's, and nothing else changes there. -/
theorem forceOut_of_software {c : OutContext} {q : RingIndex} (hc : (s.link l).outContext = some c)
    (software : c.substituted = false) (hq : (s.link l).outRing = some q) :
    s.forceOut l = (s.closeOut l).queueReplacement q c.slot PartCode.keyLost.byte c.outcome := by
  have ring : ((s.closeOut l).link l).outRing = some q := by rw [closeOut_link]; exact hq
  simp only [State.forceOut, hc, software, ring, Bool.false_eq_true, if_false]

theorem forceOut_of_substituted {c : OutContext} (hc : (s.link l).outContext = some c)
    (substituted : c.substituted = true) : s.forceOut l = s.closeOut l := by
  simp only [State.forceOut, hc, substituted, if_true]

theorem forceOut_slot_ne {q : RingIndex} (ne : (s.link l).outRing ≠ some q) (j : Nat) :
    (s.forceOut l).slot q j = s.slot q j := by
  have closed (j : Nat) : (s.closeOut l).slot q j = s.slot q j := slot_eq_of_rings (closeOut_rings s l) q j
  unfold State.forceOut
  split
  · rfl
  · dsimp only
    split
    · exact closed j
    · split
      · exact closed j
      · rename_i r hr
        rw [closeOut_link] at hr
        rw [queueReplacement_slot_ne _ _ _ _ _ (.inl fun same => ne (hr.trans (congrArg some same.symm))), closed]

theorem queued_forceOut : queued s ⊆ queued (s.forceOut l) := by
  have closed : queued (s.closeOut l) = queued s := by rw [queued, closeOut_internal]; rfl
  unfold State.forceOut
  split
  · exact List.Subset.refl _
  · dsimp only
    split
    · rw [closed]
      exact List.Subset.refl _
    · split
      · rw [closed]
        exact List.Subset.refl _
      · rw [← closed]
        exact (onlyReplaces_queueReplacement _ _ _ _ _).subset

end outbound

/-! ### The inbound frame -/

section inbound
variable (s : State) (l : LinkSlot)

theorem closeIn_link : (s.closeIn l).link l = { s.link l with inContext := none } := by
  unfold State.closeIn
  split
  · rename_i none
    rw [← none]
  · exact State.setLink_link_self _ _ _

/-- What closing an inbound frame changes. -/
theorem closeIn_eq : s.closeIn l = { s with
    links := (s.closeIn l).links, cipher := (s.closeIn l).cipher, store := (s.closeIn l).store } := by
  unfold State.closeIn
  split <;> rfl

variable (c : InContext) (status : Byte) (byController : Bool)

/-- The settled frame: its status handed on, its context closed. -/
def settledFrame : State := (s.notifyStatus ⟨l, true, status, byController⟩).closeIn l

theorem endSettlement_of_ring {q : RingIndex} (hq : (s.link l).inRing = some q) :
    s.endSettlement l c status byController =
      (settledFrame s l status byController).queueReplacement q c.slot status c.frame := by
  have ring : ((settledFrame s l status byController).link l).inRing = some q := by
    rw [settledFrame, closeIn_link]; exact hq
  unfold State.endSettlement
  dsimp only
  rw [← settledFrame, ring]

theorem endSettlement_of_no_ring (hq : (s.link l).inRing = none) :
    s.endSettlement l c status byController = settledFrame s l status byController := by
  have ring : ((settledFrame s l status byController).link l).inRing = none := by
    rw [settledFrame, closeIn_link]; exact hq
  unfold State.endSettlement
  dsimp only
  rw [← settledFrame, ring]

theorem settledFrame_link :
    (settledFrame s l status byController).link l = { s.link l with inContext := none } :=
  closeIn_link _ _

/-- What handing on the status and closing the context changes. -/
theorem settledFrame_eq : settledFrame s l status byController = { s with
    links := (settledFrame s l status byController).links
    cipher := (settledFrame s l status byController).cipher
    store := (settledFrame s l status byController).store
    mail := { s.mail with statuses := s.mail.statuses ++ [⟨l, true, status, byController⟩] } } := by
  unfold settledFrame
  rw [closeIn_eq]
  rfl

/-- What the end of a settlement changes. -/
theorem endSettlement_eq : s.endSettlement l c status byController = { s with
    links := (settledFrame s l status byController).links
    cipher := (settledFrame s l status byController).cipher
    store := (settledFrame s l status byController).store
    rings := (s.endSettlement l c status byController).rings
    internal := (s.endSettlement l c status byController).internal
    mail := (s.endSettlement l c status byController).mail } := by
  cases hq : (s.link l).inRing with
  | none => rw [endSettlement_of_no_ring s l c status byController hq, settledFrame_eq]
  | some q => rw [endSettlement_of_ring s l c status byController hq, queueReplacement_eq, settledFrame_eq]

theorem endSettlement_link :
    (s.endSettlement l c status byController).link l = { s.link l with inContext := none } :=
  (congrArg (fun t => State.link t l) (endSettlement_eq s l c status byController)).trans
    (settledFrame_link s l status byController)

theorem forceIn_of_some {s : State} {l : LinkSlot} {c : InContext} (hc : (s.link l).inContext = some c) :
    s.forceIn l = s.endSettlement l c PartCode.streamFault.byte false := by
  simp only [State.forceIn, hc, State.settleWith]

theorem forceIn_of_none {s : State} {l : LinkSlot} (hc : (s.link l).inContext = none) :
    s.forceIn l = s := by
  simp only [State.forceIn, hc]

theorem forceIn_link : (s.forceIn l).link l = { s.link l with inContext := none } := by
  cases hc : (s.link l).inContext with
  | none => rw [forceIn_of_none hc, ← hc]
  | some c => rw [forceIn_of_some hc, endSettlement_link]

theorem forceIn_steering : (s.forceIn l).steering = s.steering := by
  cases hc : (s.link l).inContext with
  | none => rw [forceIn_of_none hc]
  | some c =>
    rw [forceIn_of_some hc]
    exact (congrArg State.steering (endSettlement_eq s l c _ _)).trans rfl

theorem forceIn_keys : (s.forceIn l).keys = s.keys := by
  cases hc : (s.link l).inContext with
  | none => rw [forceIn_of_none hc]
  | some c =>
    rw [forceIn_of_some hc]
    exact (congrArg State.keys (endSettlement_eq s l c _ _)).trans rfl

theorem settledFrame_slot (q : RingIndex) (j : Nat) :
    (settledFrame s l status byController).slot q j = s.slot q j :=
  slot_eq_of_rings ((congrArg State.rings (settledFrame_eq s l status byController)).trans rfl) q j

theorem settledFrame_internal : (settledFrame s l status byController).internal = s.internal :=
  (congrArg State.internal (settledFrame_eq s l status byController)).trans rfl

variable {s l c}

theorem forceIn_slot_ne {q : RingIndex} {j : Nat}
    (ne : (s.link l).inRing ≠ some q ∨ ∀ c, (s.link l).inContext = some c → c.slot ≠ j) :
    (s.forceIn l).slot q j = s.slot q j := by
  cases hc : (s.link l).inContext with
  | none => rw [forceIn_of_none hc]
  | some c =>
    rw [forceIn_of_some hc]
    cases hr : (s.link l).inRing with
    | none => rw [endSettlement_of_no_ring _ _ _ _ _ hr, settledFrame_slot]
    | some r =>
      rw [endSettlement_of_ring _ _ _ _ _ hr, queueReplacement_slot_ne _ _ _ _ _ ?_, settledFrame_slot]
      exact ne.imp (fun other same => other (same ▸ hr)) (fun other same => other c hc same.symm)

theorem onlyReplaces_forceIn {q : RingIndex} (hq : (s.link l).inRing = some q) :
    OnlyReplaces q s (s.forceIn l) := by
  cases hc : (s.link l).inContext with
  | none => rw [forceIn_of_none hc]; exact .refl q s
  | some c =>
    rw [forceIn_of_some hc, endSettlement_of_ring _ _ _ _ _ hq]
    exact .trans (.of_internal (settledFrame_internal s l _ _)) (onlyReplaces_queueReplacement _ _ _ _ _)

theorem queued_forceIn_of_no_ring (hq : (s.link l).inRing = none) :
    queued (s.forceIn l) = queued s := by
  cases hc : (s.link l).inContext with
  | none => rw [forceIn_of_none hc]
  | some c =>
    rw [forceIn_of_some hc, endSettlement_of_no_ring _ _ _ _ _ hq, queued, settledFrame_internal]
    rfl

end inbound

/-! ### The slots that wait for a renewal job -/

/-- The replacement of a slot that waits for a job (R26). -/
def replaceJob (l : LinkSlot) (r : RingIndex) (s : State) (i : Nat) : State :=
  match (s.slot r i).job with
  | none => s
  | some o =>
    (s.notifyStatus ⟨l, true, PartCode.linkClosed.byte, false⟩).queueReplacement r i
      PartCode.linkClosed.byte o

section jobs
variable (s : State) (l : LinkSlot) (r : RingIndex)

theorem replaceJob_eq (i : Nat) : replaceJob l r s i = { s with
    rings := (replaceJob l r s i).rings
    internal := (replaceJob l r s i).internal
    mail := (replaceJob l r s i).mail } := by
  unfold replaceJob
  split
  · rfl
  · rw [queueReplacement_eq]
    rfl

theorem replaceJobs_eq (xs : List Nat) : xs.foldl (replaceJob l r) s = { s with
    rings := (xs.foldl (replaceJob l r) s).rings
    internal := (xs.foldl (replaceJob l r) s).internal
    mail := (xs.foldl (replaceJob l r) s).mail } := by
  induction xs generalizing s with
  | nil => rfl
  | cons i xs ih => rw [List.foldl_cons, ih, replaceJob_eq]

theorem replaceJob_slot_ne {i j : Nat} {q : RingIndex} (ne : q ≠ r ∨ j ≠ i) :
    (replaceJob l r s i).slot q j = s.slot q j := by
  unfold replaceJob
  split
  · rfl
  · exact (queueReplacement_slot_ne _ _ _ _ _ ne).trans rfl

theorem replaceJobs_slot_ne {xs : List Nat} {j : Nat} {q : RingIndex} (ne : q ≠ r ∨ j ∉ xs) :
    (xs.foldl (replaceJob l r) s).slot q j = s.slot q j := by
  induction xs generalizing s with
  | nil => rfl
  | cons i xs ih =>
    rw [List.foldl_cons, ih _ (ne.imp_right fun out mem => out (List.mem_cons_of_mem _ mem)),
      replaceJob_slot_ne _ _ _ (ne.imp_right fun out same => out (List.mem_cons.mpr (.inl same)))]

theorem onlyReplaces_replaceJob (i : Nat) : OnlyReplaces r s (replaceJob l r s i) := by
  unfold replaceJob
  split
  · exact .refl r s
  · exact .trans (.of_internal rfl) (onlyReplaces_queueReplacement _ _ _ _ _)

theorem onlyReplaces_replaceJobs (xs : List Nat) : OnlyReplaces r s (xs.foldl (replaceJob l r) s) := by
  induction xs generalizing s with
  | nil => exact .refl r s
  | cons i xs ih => exact (onlyReplaces_replaceJob s l r i).trans (ih _)

/-- A slot of the list that waits for a job is replaced with LINK_CLOSED. -/
theorem replaceJobs_of_mem {xs : List Nat} (distinct : xs.Nodup) {i : Nat} (mem : i ∈ xs)
    {o : FrameOutcome} (job : (s.slot r i).job = some o) {copy : List Byte}
    (presented : (s.slot r i).copy = some copy) :
    (xs.foldl (replaceJob l r) s).slot r i = { s.slot r i with pending := true, job := none } ∧
    ∃ w ∈ queued (xs.foldl (replaceJob l r) s), w.use = .replacement r i ∧ byteAt w.bytes 0 = 0x43#8 := by
  obtain ⟨before, after, rfl⟩ := List.append_of_mem mem
  obtain ⟨-, unique, apart⟩ := List.nodup_append.mp distinct
  have early : i ∉ before := fun h => apart i h i List.mem_cons_self rfl
  have late : i ∉ after := (List.nodup_cons.mp unique).1
  have same := replaceJobs_slot_ne s l r (q := r) (.inr early)
  rw [List.foldl_append, List.foldl_cons]
  generalize before.foldl (replaceJob l r) s = t at same ⊢
  have step : replaceJob l r t i = (t.notifyStatus ⟨l, true, PartCode.linkClosed.byte, false⟩).queueReplacement
      r i PartCode.linkClosed.byte o := by
    simp only [replaceJob, same, job]
  have copied : ((t.notifyStatus ⟨l, true, PartCode.linkClosed.byte, false⟩).slot r i).copy = some copy :=
    (congrArg SlotRecord.copy same).trans presented
  constructor
  · rw [replaceJobs_slot_ne _ _ _ (.inr late), step, queueReplacement_slot_self _ _ copied, ← same]
    rfl
  · obtain ⟨w, new, use, byte⟩ := mem_queued_queueReplacement PartCode.linkClosed.byte o copied
    exact ⟨w, (onlyReplaces_replaceJobs _ l r after).subset (step ▸ new), use, byte⟩

theorem forceJobs_of_ring {ring : Ring} (hr : (s.link l).inRing = some r) (held : s.ring r = some ring) :
    s.forceJobs l = (List.range ring.slots.length).foldl (replaceJob l r) s := by
  simp only [State.forceJobs, hr, held]
  rfl

theorem forceJobs_cases : s.forceJobs l = s ∨ ∃ (r : RingIndex) (xs : List Nat), (s.link l).inRing = some r ∧
    s.forceJobs l = xs.foldl (replaceJob l r) s := by
  cases hr : (s.link l).inRing with
  | none => exact .inl (by simp only [State.forceJobs, hr])
  | some r =>
    cases held : s.ring r with
    | none => exact .inl (by simp only [State.forceJobs, hr, held])
    | some ring => exact .inr ⟨r, _, rfl, forceJobs_of_ring s l r hr held⟩

theorem forceJobs_eq : s.forceJobs l = { s with
    rings := (s.forceJobs l).rings, internal := (s.forceJobs l).internal, mail := (s.forceJobs l).mail } := by
  obtain same | ⟨r, xs, -, runs⟩ := forceJobs_cases s l
  · rw [same]
  · rw [runs, replaceJobs_eq]

theorem forceJobs_slot_ne {q : RingIndex} (ne : (s.link l).inRing ≠ some q) (j : Nat) :
    (s.forceJobs l).slot q j = s.slot q j := by
  obtain same | ⟨r, xs, hr, runs⟩ := forceJobs_cases s l
  · rw [same]
  · rw [runs, replaceJobs_slot_ne _ _ _ (.inl fun same => ne (hr.trans (congrArg some same.symm)))]

theorem onlyReplaces_forceJobs {r : RingIndex} (hr : (s.link l).inRing = some r) :
    OnlyReplaces r s (s.forceJobs l) := by
  obtain same | ⟨q, xs, hq, runs⟩ := forceJobs_cases s l
  · rw [same]
    exact .refl r s
  · rw [runs, Option.some.inj (hr.symm.trans hq)]
    exact onlyReplaces_replaceJobs s l q xs

theorem forceJobs_of_no_ring (hr : (s.link l).inRing = none) : s.forceJobs l = s := by
  simp only [State.forceJobs, hr]

end jobs

end Sys2Proof.Proofs.DrainLimit
end


section
/-! PROOFS. DRAIN_LIMIT_EXPIRY (R26): what it does before the limit, and the state after it. -/

namespace Sys2Proof.Proofs.DrainForced
open Sys2Proof Sys2Proof.Machine
open Sys2Proof.Proofs.SlotsAndResults
open Sys2Proof.Proofs.CipherTaking Sys2Proof.Proofs.MemoryPort Sys2Proof.Proofs.Grants
open Sys2Proof.Proofs.TrafficLeavesAlone Sys2Proof.Proofs.TrafficKeepsContexts
open Sys2Proof.Proofs.DrainLimit

/-! ### The limit (R24) -/

theorem limitDue_iff (s : State) (l : LinkSlot) : s.limitDue l = true ↔
    (s.link l).state = .closing ∧
      ∃ stamp, (s.link l).drainStart = some stamp ∧ 65536 ≤ s.time.rawTick.toNat - stamp.toNat := by
  simp only [State.limitDue, Bool.and_eq_true, beq_iff_eq, Option.any_eq_true, decide_eq_true_eq]
  rfl

/-! ### A frame that is lost at the limit (R68, R73) -/

section lost
variable (s : State) (l : LinkSlot) (code : PartCode)

theorem loseOut_eq : s.loseOut l code = { s with
    links := (s.loseOut l code).links, cipher := (s.loseOut l code).cipher } := by
  unfold State.loseOut
  split
  · rfl
  · split <;> rfl

theorem ledger_loseOut : ledger (s.loseOut l code) = ledger s := by
  unfold State.loseOut
  split
  · rfl
  · split
    · rfl
    · rw [ledger_setOut, ledger_cipher]

theorem loseOut_inContext : ((s.loseOut l code).link l).inContext = (s.link l).inContext := by
  unfold State.loseOut
  split
  · rfl
  · split
    · rfl
    · exact setOut_inContext _ _ _

/-- The frame as it was, but key-lost. -/
theorem loseOut_lost {s : State} {l : LinkSlot} {c : OutContext} (hc : (s.link l).outContext = some c) :
    ∃ c', ((s.loseOut l code).link l).outContext = some c' ∧ c'.lost.isSome = true ∧
      c'.slot = c.slot ∧ c'.substituted = c.substituted ∧ c'.pointer = c.pointer ∧ c'.len = c.len ∧
      c'.tag = c.tag := by
  cases kept : c.lost with
  | some first =>
    refine ⟨c, ?_, by rw [kept]; rfl, rfl, rfl, rfl, rfl, rfl⟩
    simp only [State.loseOut, hc, kept, Option.isSome_some, if_true]
  | none => exact ⟨_, loseOut_outContext hc kept code, rfl, rfl, rfl, rfl, rfl, rfl⟩

theorem frameLost_loseOut : FrameLost ((s.loseOut l code).link l) := by
  intro c' held
  cases hc : (s.link l).outContext with
  | none =>
    have same : s.loseOut l code = s := by simp only [State.loseOut, hc]
    rw [same, hc] at held
    cases held
  | some c =>
    obtain ⟨x, kept, lost, -⟩ := loseOut_lost code hc
    exact Option.some.inj (kept.symm.trans held) ▸ lost

end lost

/-! ### Until the held read is answered -/

/-- The state in which the held transaction goes on: no drain stamp, the outbound frame key-lost. -/
def atLimit (s : State) (l : LinkSlot) : State :=
  (s.setLink l { s.link l with drainStart := none }).loseOut l .keyLost

/-- The state once the held transaction has gone as far as it can. -/
def answeredAtLimit (s : State) (l : LinkSlot) : State := (atLimit s l).handle true

theorem forceDrain_eq (s : State) (l : LinkSlot) :
    s.forceDrain l = (((answeredAtLimit s l).forceOut l).forceIn l).forceJobs l := rfl

section limit
variable (s : State) (l : LinkSlot)

theorem atLimit_steering : (atLimit s l).steering = s.steering :=
  (congrArg State.steering (loseOut_eq _ l .keyLost)).trans rfl

theorem session_answeredAtLimit : session (answeredAtLimit s l) =
    session (s.setLink l { s.link l with drainStart := none }) :=
  (session_handle _).trans (session_of_ledger (ledger_loseOut _ _ _))

theorem sessionOf_answeredAtLimit : sessionOf ((answeredAtLimit s l).link l) =
    sessionOf { s.link l with drainStart := none } := by
  rw [sessionOf_of_session (session_answeredAtLimit s l) l, State.setLink_link_self]

variable {s l}

theorem ledger_answeredAtLimit (quiet : ∀ x, s.steering.l.current = some x → x.request.isRead = true ∨
      ∀ p ∈ x.portions, p.done = true ∨ ∀ r area, p.place ≠ .descriptors r area) :
    ledger (answeredAtLimit s l) = ledger (s.setLink l { s.link l with drainStart := none }) :=
  (ledger_handle _ (by rwa [atLimit_steering])).trans (ledger_loseOut _ _ _)

theorem contextsOf_answeredAtLimit
    (quiet : ∀ x, s.steering.l.current = some x → x.request.isRead = true ∨
      ∀ p ∈ x.portions, p.done = true ∨ ∀ r area, p.place ≠ .descriptors r area) :
    contextsOf ((answeredAtLimit s l).link l) = contextsOf ((atLimit s l).link l) :=
  contextsOf_handle _ (frameLost_loseOut _ _ _) (by rwa [atLimit_steering])

/-- The outbound frame still stands, on the slot that it had. -/
theorem outContext_answeredAtLimit
    (quiet : ∀ x, s.steering.l.current = some x → x.request.isRead = true ∨
      ∀ p ∈ x.portions, p.done = true ∨ ∀ r area, p.place ≠ .descriptors r area)
    {c : OutContext} (hc : (s.link l).outContext = some c) :
    ∃ c', ((answeredAtLimit s l).link l).outContext = some c' ∧ c'.slot = c.slot ∧
      c'.substituted = c.substituted := by
  have here : ((s.setLink l { s.link l with drainStart := none }).link l).outContext = some c := by
    rw [State.setLink_link_self]
    exact hc
  obtain ⟨c', held, -, slot, kind, -⟩ := loseOut_lost .keyLost here
  exact ⟨c', (congrArg Prod.fst (contextsOf_answeredAtLimit quiet)).trans held, slot, kind⟩

/-- So does the inbound one, and no other. -/
theorem inContext_answeredAtLimit
    (quiet : ∀ x, s.steering.l.current = some x → x.request.isRead = true ∨
      ∀ p ∈ x.portions, p.done = true ∨ ∀ r area, p.place ≠ .descriptors r area) :
    ((answeredAtLimit s l).link l).inContext.map InContext.slot =
      (s.link l).inContext.map InContext.slot := by
  refine (congrArg Prod.snd (contextsOf_answeredAtLimit quiet)).trans ?_
  have same : ((atLimit s l).link l).inContext = (s.link l).inContext := by
    rw [atLimit, loseOut_inContext, State.setLink_link_self]
  exact congrArg (Option.map InContext.slot) same

theorem slot_answeredAtLimit (quiet : ∀ x, s.steering.l.current = some x → x.request.isRead = true ∨
      ∀ p ∈ x.portions, p.done = true ∨ ∀ r area, p.place ≠ .descriptors r area)
    (q : RingIndex) (j : Nat) : (answeredAtLimit s l).slot q j = s.slot q j :=
  slot_eq_of_rings (congrArg Ledger.rings (ledger_answeredAtLimit quiet)) q j

theorem queued_answeredAtLimit (quiet : ∀ x, s.steering.l.current = some x → x.request.isRead = true ∨
      ∀ p ∈ x.portions, p.done = true ∨ ∀ r area, p.place ≠ .descriptors r area) :
    queued (answeredAtLimit s l) = queued s :=
  congrArg₂ (· ++ ·) (congrArg Ledger.writes (ledger_answeredAtLimit quiet))
    (congrArg Ledger.waitingWrites (ledger_answeredAtLimit quiet))

end limit

/-! ### The held read (R70) -/

theorem advance_of_transmit {s : State} {p : Portion} {l : LinkSlot} (place : p.place = .transmitGuard l)
    (going : p.done = false) (n : Nat) :
    s.advance true true true true 0 n p = s.advanceOutbound l false 0 n p := by
  simp [State.advance, going, Portion.atMemory, Portion.isPlain, place, State.advanceReadL]

/-- The held read of the outbound frame is answered as of a key-lost one. -/
theorem port_answeredAtLimit {s : State} {l : LinkSlot} {c : OutContext} {x : Transaction} {p : Portion}
    (hc : (s.link l).outContext = some c) (inside : s.steering.l.current = some x)
    (read : x.request.isRead = true) (one : x.portions = [p]) (fresh : x.returned = [])
    (new : p.answer = []) (going : p.done = false) (place : p.place = .transmitGuard l)
    (software : c.substituted = false)
    (touches : max p.start c.pointer < min (p.start + 8 * p.beats) (c.pointer + 24 + c.len)) :
    (answeredAtLimit s l).steering.l.current = none ∧
    (answeredAtLimit s l).steering.l.answered =
      some (.data ((List.range (8 * p.beats)).map (fun j => lostAnswer c (p.start + j)))) := by
  have here : ((s.setLink l { s.link l with drainStart := none }).link l).outContext = some c := by
    rw [State.setLink_link_self]
    exact hc
  obtain ⟨c', held, lost, -, kind, pointer, len, tag⟩ := loseOut_lost .keyLost here
  have shown : lostAnswer c' = lostAnswer c := by
    funext a
    simp only [lostAnswer, pointer, len, tag]
  have step := advanceOutbound_of_lost (s := atLimit s l) held (kind.trans software) lost
    (by rwa [pointer, len]) new 0 0
  have handled := handle_of_one (s := atLimit s l) (onL := true)
    ((congrArg (fun z => z.l.current) (atLimit_steering s l)).trans inside) one
  rw [read, fresh, List.length_nil, advance_of_transmit place going, step, shown] at handled
  have port : (answeredAtLimit s l).steering.l = _ := (congrArg (fun t => State.port t true) handled).trans
    (port_setPort_self _ true _)
  rw [port]
  dsimp only
  rw [settledPort, if_pos rfl, read, if_pos rfl, readyBytes_of_whole (by simp)]
  exact ⟨rfl, rfl⟩

/-! ### After the forcing -/

section forced
variable (s : State) (l : LinkSlot)

theorem forceDrain_link : (s.forceDrain l).link l =
    { (answeredAtLimit s l).link l with outContext := none, inContext := none } := by
  have jobs (t : State) : (t.forceJobs l).link l = t.link l :=
    (congrArg (fun u => State.link u l) (forceJobs_eq t l)).trans rfl
  rw [forceDrain_eq, jobs, forceIn_link, forceOut_link]

theorem forceDrain_steering : (s.forceDrain l).steering = (answeredAtLimit s l).steering := by
  have jobs (t : State) : (t.forceJobs l).steering = t.steering :=
    (congrArg State.steering (forceJobs_eq t l)).trans rfl
  rw [forceDrain_eq, jobs, forceIn_steering, forceOut_steering]

theorem forceDrain_keys : (s.forceDrain l).keys = (answeredAtLimit s l).keys := by
  have jobs (t : State) : (t.forceJobs l).keys = t.keys :=
    (congrArg State.keys (forceJobs_eq t l)).trans rfl
  rw [forceDrain_eq, jobs, forceIn_keys, forceOut_keys]

theorem still_forceDrain : (s.forceDrain l).still = s.still := by
  simp [State.forceDrain]

/-- The rings of a link are those it had. -/
theorem rings_forceOut (t : State) : ((t.forceOut l).link l).inRing = (t.link l).inRing ∧
    ((t.forceOut l).link l).inContext = (t.link l).inContext ∧
    ((t.forceIn l).link l).inRing = (t.link l).inRing := by
  rw [forceOut_link, forceIn_link]
  exact ⟨rfl, rfl, rfl⟩

/-- A write queued before the inbound frame is forced is still queued at the end. -/
theorem queued_of_forceOut (t : State) :
    queued (t.forceOut l) ⊆ queued (((t.forceOut l).forceIn l).forceJobs l) := by
  cases hr : ((t.forceOut l).link l).inRing with
  | none =>
    have ring : (((t.forceOut l).forceIn l).link l).inRing = none := by rw [forceIn_link]; exact hr
    rw [forceJobs_of_no_ring _ _ ring, queued_forceIn_of_no_ring hr]
    exact List.Subset.refl _
  | some r =>
    have ring : (((t.forceOut l).forceIn l).link l).inRing = some r := by rw [forceIn_link]; exact hr
    exact ((onlyReplaces_forceIn hr).trans (onlyReplaces_forceJobs _ l ring)).subset

/-- A write queued before the waiting slots are replaced is still queued at the end. -/
theorem queued_of_forceIn (t : State) : queued t ⊆ queued (t.forceJobs l) := by
  cases hr : (t.link l).inRing with
  | none =>
    rw [forceJobs_of_no_ring _ _ hr]
    exact List.Subset.refl _
  | some r => exact (onlyReplaces_forceJobs _ l hr).subset

end forced

/-- The rings that the forcing finds. -/
theorem rings_answeredAtLimit (s : State) (l : LinkSlot) :
    ((answeredAtLimit s l).link l).outRing = (s.link l).outRing ∧
    ((answeredAtLimit s l).link l).inRing = (s.link l).inRing := by
  have same := sessionOf_answeredAtLimit s l
  exact ⟨congrArg (fun z => z.2.2.1) same, congrArg (fun z => z.2.2.2) same⟩

/-! ### DRAIN_LIMIT_EXPIRY -/

section expiry
variable {s : State} {l : LinkSlot}

theorem exec_drainLimitExpiry_of_due (due : s.limitDue l = true) :
    exec (.drainLimitExpiry l) s = .next (s.forceDrain l).resume :=
  congrArg Host.Outcome.next (if_pos due)

theorem exec_drainLimitExpiry_of_not_due (h : s.limitDue l = false) :
    exec (.drainLimitExpiry l) s = .next s :=
  congrArg Host.Outcome.next (if_neg (by rw [h]; decide))

variable (quiet : ∀ x, s.steering.l.current = some x → x.request.isRead = true ∨
  ∀ p ∈ x.portions, p.done = true ∨ ∀ r area, p.place ≠ .descriptors r area)
include quiet

/-- A software frame's slot is replaced with KEY_LOST. -/
theorem forced_outbound {c : OutContext} {q : RingIndex} {copy : List Byte}
    (hc : (s.link l).outContext = some c) (software : c.substituted = false)
    (hq : (s.link l).outRing = some q) (presented : (s.slot q c.slot).copy = some copy) :
    ∃ w ∈ queued (s.forceDrain l), w.use = .replacement q c.slot ∧ byteAt w.bytes 0 = 0x45#8 := by
  obtain ⟨c', held, slot, kind⟩ := outContext_answeredAtLimit quiet hc
  have ring := (rings_answeredAtLimit s l).1.trans hq
  have same := slot_answeredAtLimit (l := l) quiet q c'.slot
  rw [forceDrain_eq]
  generalize answeredAtLimit s l = t at *
  have copied : ((t.closeOut l).slot q c'.slot).copy = some copy := by
    rw [slot_eq_of_rings (closeOut_rings t l), same, slot, presented]
  obtain ⟨w, mem, use, byte⟩ := mem_queued_queueReplacement PartCode.keyLost.byte c'.outcome copied
  rw [← forceOut_of_software held (kind.trans software) ring] at mem
  exact ⟨w, queued_of_forceOut l t mem, by rw [use, slot], byte⟩

/-- An inbound frame's slot is replaced with STREAM_FAULT. -/
theorem forced_inbound {c : InContext} {q : RingIndex} {copy : List Byte}
    (hc : (s.link l).inContext = some c) (hq : (s.link l).inRing = some q)
    (apart : (s.link l).outRing ≠ some q) (presented : (s.slot q c.slot).copy = some copy) :
    ∃ w ∈ queued (s.forceDrain l), w.use = .replacement q c.slot ∧ byteAt w.bytes 0 = 0x4C#8 := by
  obtain ⟨out, ring⟩ := rings_answeredAtLimit s l
  have inbound := inContext_answeredAtLimit (l := l) quiet
  have same := slot_answeredAtLimit (l := l) quiet q c.slot
  rw [hc] at inbound
  obtain ⟨c', held, slot⟩ := Option.map_eq_some_iff.mp inbound
  rw [forceDrain_eq]
  generalize answeredAtLimit s l = t at *
  obtain ⟨sameRing, sameContext, -⟩ := rings_forceOut l t
  have hr : ((t.forceOut l).link l).inRing = some q := by rw [sameRing, ring, hq]
  have copied : ((settledFrame (t.forceOut l) l PartCode.streamFault.byte false).slot q c'.slot).copy =
      some copy := by
    rw [settledFrame_slot, forceOut_slot_ne (by rwa [out]), slot, same, presented]
  obtain ⟨w, mem, use, byte⟩ := mem_queued_queueReplacement PartCode.streamFault.byte c'.frame copied
  rw [← endSettlement_of_ring _ _ _ _ _ hr, ← forceIn_of_some (sameContext.trans held)] at mem
  exact ⟨w, queued_of_forceIn l _ mem, by rw [use, slot], byte⟩

/-- A substituted keepalive closes without a replacement. -/
theorem forced_substituted {c : OutContext} {q : RingIndex} (hc : (s.link l).outContext = some c)
    (substituted : c.substituted = true) (apart : (s.link l).inRing ≠ some q) :
    (∀ j, (s.forceDrain l).slot q j = s.slot q j) ∧
    ∀ w ∈ queued (s.forceDrain l), (∃ j, w.use = .replacement q j) → w ∈ queued s := by
  obtain ⟨c', held, -, kind⟩ := outContext_answeredAtLimit quiet hc
  obtain ⟨-, ring⟩ := rings_answeredAtLimit s l
  have same := slot_answeredAtLimit (l := l) quiet q
  have writes := queued_answeredAtLimit (l := l) quiet
  rw [forceDrain_eq]
  generalize answeredAtLimit s l = t at *
  have closes := forceOut_of_substituted held (kind.trans substituted)
  obtain ⟨sameRing, -⟩ := rings_forceOut l t
  have inRing : ((t.forceOut l).link l).inRing ≠ some q := by rwa [sameRing, ring]
  have inRing' : (((t.forceOut l).forceIn l).link l).inRing ≠ some q := by rwa [forceIn_link]
  have outbound : queued (t.forceOut l) = queued s := by
    rw [closes, queued, closeOut_internal, ← queued, writes]
  refine ⟨fun j => ?_, fun w mem replaces => ?_⟩
  · rw [forceJobs_slot_ne _ _ inRing', forceIn_slot_ne (.inl inRing), closes,
      slot_eq_of_rings (closeOut_rings t l), same]
  · cases hr : ((t.forceOut l).link l).inRing with
    | none =>
      have none' : (((t.forceOut l).forceIn l).link l).inRing = none := by rw [forceIn_link]; exact hr
      rwa [forceJobs_of_no_ring _ _ none', queued_forceIn_of_no_ring hr, outbound] at mem
    | some r =>
      have some' : (((t.forceOut l).forceIn l).link l).inRing = some r := by rw [forceIn_link]; exact hr
      have only := (onlyReplaces_forceIn hr).trans (onlyReplaces_forceJobs _ l some')
      rw [← outbound]
      exact only.of_mem (fun e => inRing (hr.trans (congrArg some e.symm))) mem replaces

/-- A slot that waits for a renewal job is replaced with LINK_CLOSED. -/
theorem forced_waiting {q : RingIndex} {ring : Ring} {i : Nat} {o : FrameOutcome} {copy : List Byte}
    (hq : (s.link l).inRing = some q) (apart : (s.link l).outRing ≠ some q) (held : s.ring q = some ring)
    (job : (ring.slot i).job = some o)
    (presented : (ring.slot i).copy = some copy)
    (other : ∀ c, (s.link l).inContext = some c → c.slot ≠ i) :
    (s.forceDrain l).slot q i = { ring.slot i with pending := true, job := none } ∧
    ∃ w ∈ queued (s.forceDrain l), w.use = .replacement q i ∧ byteAt w.bytes 0 = 0x43#8 := by
  obtain ⟨out, inRing⟩ := rings_answeredAtLimit s l
  have inbound := inContext_answeredAtLimit (l := l) quiet
  have same := slot_answeredAtLimit (l := l) quiet q i
  rw [forceDrain_eq]
  generalize answeredAtLimit s l = t at *
  obtain ⟨sameRing, sameContext, -⟩ := rings_forceOut l t
  have ringed : (((t.forceOut l).forceIn l).link l).inRing = some q := by
    rw [forceIn_link]
    exact sameRing.trans (inRing.trans hq)
  have apartSlot : ∀ c, ((t.forceOut l).link l).inContext = some c → c.slot ≠ i := by
    intro c hc
    rw [sameContext] at hc
    rw [hc] at inbound
    obtain ⟨c', had, slot⟩ := Option.map_eq_some_iff.mp inbound.symm
    exact slot ▸ other c' had
  have kept : ((t.forceOut l).forceIn l).slot q i = ring.slot i := by
    rw [forceIn_slot_ne (.inr apartSlot), forceOut_slot_ne (by rwa [out]), same, slot_of_ring held]
  generalize (t.forceOut l).forceIn l = v at *
  obtain ⟨ring', held', -, within'⟩ := ring_of_copy v q i ((congrArg SlotRecord.copy kept).trans presented)
  rw [forceJobs_of_ring _ _ _ ringed held', ← kept]
  exact replaceJobs_of_mem v l q List.nodup_range (List.mem_range.mpr within')
    ((congrArg SlotRecord.job kept).trans job) ((congrArg SlotRecord.copy kept).trans presented)

end expiry

/-- Settles O29: the forcing, part by part. -/
theorem drainLimitForcesTheDrain : Obligations.DrainLimitForcesTheDrain := by
  intro s l
  refine ⟨fun early => ?_, fun stamp closing started expired => ?_⟩
  · refine exec_drainLimitExpiry_of_not_due (Bool.eq_false_iff.mpr fun due => ?_)
    obtain ⟨closing, stamp, started, expired⟩ := (limitDue_iff s l).mp due
    obtain other | recent := early
    · exact other closing
    · exact Nat.not_lt.mpr expired (recent stamp started)
  · have session := session_answeredAtLimit s l
    have fields := sessionOf_answeredAtLimit s l
    refine ⟨s.forceDrain l,
      exec_drainLimitExpiry_of_due ((limitDue_iff s l).mpr ⟨closing, stamp, started, expired⟩),
      ?_, ?_, ?_, ?_, still_forceDrain s l, ?_, ?_, fun quiet => ⟨?_, ?_, ?_, ?_, ?_, ?_⟩⟩
    · rw [forceDrain_link]
      exact (congrArg (fun z => z.1) fields).trans closing
    · rw [forceDrain_link]
    · rw [forceDrain_link]
    · rw [forceDrain_link]
      exact congrArg (fun z => z.2.1) fields
    · rw [forceDrain_steering]
      exact congrArg Session.presented session
    · intro c x p hc inside read one fresh new going place software touches
      rw [forceDrain_steering]
      exact port_answeredAtLimit hc inside read one fresh new going place software touches
    · intro c q ring copy hc software hq held presented
      exact forced_outbound quiet hc software hq (by rwa [slot_of_ring held])
    · intro c q ring copy hc hq apart held presented
      exact forced_inbound quiet hc hq apart (by rwa [slot_of_ring held])
    · intro c q hc substituted _ apart
      exact forced_substituted quiet hc substituted apart
    · intro q ring i o copy hq apart held _ job presented other
      exact forced_waiting quiet hq apart held job presented other
    · rw [forceDrain_keys]
      exact congrArg Session.jobs session
    · rw [forceDrain_link]
      refine (lastTransmit_of_ledger (ledger_answeredAtLimit quiet) l).trans ?_
      rw [State.setLink_link_self]

end Sys2Proof.Proofs.DrainForced
end


section
/-! PROOFS. What becomes of a settled frame (R97 to R99, R101, R103): the end of a settlement, and the verified
frame class by class. -/

namespace Sys2Proof.Proofs.Settlement
open Sys2Proof Sys2Proof.Machine
open Sys2Proof.Proofs.Frames Sys2Proof.Proofs.SlotsAndResults Sys2Proof.Proofs.RenewalJobs
open Sys2Proof.Proofs.CipherTaking Sys2Proof.Proofs.KeyChanges Sys2Proof.Proofs.SequenceRequests
open Sys2Proof.Proofs.DrainLimit Sys2Proof.Proofs.StoreAnswers

/-! ### The end of a settlement (R98) -/

section ending
variable (s : State) (l : LinkSlot) (c : InContext) (status : Byte) (byController : Bool)

theorem endSettlement_mail : ∃ more, (s.endSettlement l c status byController).mail = { s.mail with
    statuses := s.mail.statuses ++ [⟨l, true, status, byController⟩]
    reports := s.mail.reports ++ more } := by
  have handed : (settledFrame s l status byController).mail =
      { s.mail with statuses := s.mail.statuses ++ [⟨l, true, status, byController⟩] } :=
    (congrArg State.mail (settledFrame_eq s l status byController)).trans rfl
  cases hq : (s.link l).inRing with
  | none =>
    rw [endSettlement_of_no_ring _ _ _ _ _ hq, handed]
    exact ⟨[], by simp⟩
  | some q =>
    rw [endSettlement_of_ring _ _ _ _ _ hq]
    obtain ⟨more, grown⟩ := queueReplacement_mail (settledFrame s l status byController) q c.slot status c.frame
    exact ⟨more, by rw [grown, handed]⟩

theorem endSettlement_keys : (s.endSettlement l c status byController).keys = s.keys :=
  (congrArg State.keys (endSettlement_eq s l c status byController)).trans rfl

theorem settledFrame_rings : (settledFrame s l status byController).rings = s.rings :=
  (congrArg State.rings (settledFrame_eq s l status byController)).trans rfl

/-- The frame has ended with a status: its context is closed, the monitor has the status, and its slot is
replaced with it. -/
def Ended (t : State) : Prop :=
  (t.link l).inContext = none ∧ t.mail.statuses = s.mail.statuses ++ [⟨l, true, status, false⟩] ∧
    ∀ r ring copy, (s.link l).inRing = some r → s.ring r = some ring →
      (ring.slot c.slot).copy = some copy →
      ∃ w ∈ t.internal.writes ++ t.internal.waitingWrites,
        w.use = .replacement r c.slot ∧ byteAt w.bytes 0 = status

theorem ended_endSettlement : Ended s l c status (s.endSettlement l c status false) := by
  refine ⟨?_, ?_, fun r ring copy hr held presented => ?_⟩
  · rw [endSettlement_link]
  · obtain ⟨more, grown⟩ := endSettlement_mail s l c status false
    rw [grown]
  · rw [endSettlement_of_ring _ _ _ _ _ hr]
    exact mem_queueReplacement (by rw [State.ring, settledFrame_rings]; exact held) presented

variable {s l c status}

/-- The end is judged by the link's ring, the ring records and the monitor's mail before it. -/
theorem Ended.of_before {t u : State} (h : Ended t l c status u)
    (ring : (t.link l).inRing = (s.link l).inRing) (rings : t.rings = s.rings)
    (statuses : t.mail.statuses = s.mail.statuses) : Ended s l c status u := by
  unfold Ended State.ring at h ⊢
  rwa [ring, rings, statuses] at h

end ending

/-! ### A verified frame, class by class (R97) -/

/-- The arrival recorded, and the filter restarted. -/
def arrivedAt (s : State) (l : LinkSlot) : State := (s.recordArrival l).restartFilter l

section verified
variable (s : State) (l : LinkSlot)

theorem recordArrival_link : (s.recordArrival l).link l =
    { s.link l with lastArrival := some s.time.seconds } := State.setLink_link_self _ _ _

theorem arrivedAt_link : (arrivedAt s l).link l =
    { s.link l with lastArrival := some s.time.seconds, filter := 0 } := by
  rw [arrivedAt, State.restartFilter, State.setLink_link_self, recordArrival_link]

/-- What an arrival changes. -/
theorem arrivedAt_eq : arrivedAt s l = { s with
    links := (arrivedAt s l).links, mail := { s.mail with arrivals := s.mail.arrivals ++ [l] } } := rfl

variable {s l} {c : InContext} {cls : Byte}

theorem verified_of_outcome {code : PartCode} (kept : c.outcome = some code) :
    s.verified l c cls = (arrivedAt s l).settleWith l c code := by
  simp only [State.verified, kept]
  rfl

variable (fresh : c.outcome = none)
include fresh

theorem verified_of_plain (plain : cls = 0x00#8 ∨ cls = 0x04#8) :
    s.verified l c cls = (arrivedAt s l).settleWith l c .ok := by
  obtain rfl | rfl := plain <;>
  · simp only [State.verified, fresh]
    rfl

theorem verified_of_beacon {payload : List Byte} (beacon : cls = 0x03#8) (held : c.beacon = some payload) :
    s.verified l c cls = ((arrivedAt s l).handBeacon l payload).settleWith l c .absorbedTime := by
  subst beacon
  simp only [State.verified, fresh, held]
  rfl

theorem verified_of_keepalive {plain : List Byte} (keepalive : cls = 0x01#8)
    (held : c.keepalive = some plain) :
    s.verified l c cls = ((s.recordArrival l).filterKeepalive l plain).1.settleWith l c
      ((s.recordArrival l).filterKeepalive l plain).2 := by
  subst keepalive
  simp only [State.verified, fresh, held]
  rfl

theorem verified_of_renewal (renewal : cls = 0x02#8) :
    s.verified l c cls = State.startJobs jobStarts ((arrivedAt s l).handOver l) := by
  subst renewal
  simp only [State.verified, fresh]
  rfl

end verified

/-! ### What stays through it: the link's state, its arrival, and what the monitor hears of arrivals -/

/-- The link's state and last arrival, and the arrivals handed to the monitor. -/
def arrivals (l : LinkSlot) (s : State) : LinkState × Option Long × List LinkSlot :=
  ((s.link l).state, (s.link l).lastArrival, s.mail.arrivals)

section arrivals
variable (l m : LinkSlot) (s : State)

theorem arrivals_setLink (x : Link) (state : x.state = (s.link m).state)
    (arrival : x.lastArrival = (s.link m).lastArrival) :
    arrivals l (s.setLink m x) = arrivals l s := by
  have mail : (s.setLink m x).mail.arrivals = s.mail.arrivals := rfl
  by_cases same : l = m
  · subst same
    simp only [arrivals, State.setLink_link_self, state, arrival, mail]
  · simp only [arrivals, State.setLink_link_ne _ _ (Ne.symm same), mail]

theorem arrivals_setIn (x : Option InContext) : arrivals l (s.setIn m x) = arrivals l s :=
  arrivals_setLink l m s _ rfl rfl

theorem arrivals_closeIn : arrivals l (s.closeIn m) = arrivals l s := by
  unfold State.closeIn
  split
  · rfl
  · exact (arrivals_setIn l m _ none).trans rfl

theorem arrivals_restartFilter : arrivals l (s.restartFilter m) = arrivals l s :=
  arrivals_setLink l m s _ rfl rfl

theorem arrivals_filterKeepalive (p : List Byte) :
    arrivals l (s.filterKeepalive m p).1 = arrivals l s :=
  arrivals_setLink l m s _ rfl rfl

theorem arrivals_endSettlement (c : InContext) (status : Byte) :
    arrivals l (s.endSettlement m c status false) = arrivals l s := by
  have framed : arrivals l (settledFrame s m status false) = arrivals l s :=
    (arrivals_closeIn l m _).trans rfl
  cases hq : (s.link m).inRing with
  | none => rw [endSettlement_of_no_ring _ _ _ _ _ hq, framed]
  | some q =>
    rw [endSettlement_of_ring _ _ _ _ _ hq, ← framed]
    obtain ⟨more, grown⟩ := queueReplacement_mail (settledFrame s m status false) q c.slot status c.frame
    unfold arrivals
    rw [grown, queueReplacement_eq]
    rfl

theorem arrivals_settleWith (c : InContext) (code : PartCode) :
    arrivals l (s.settleWith m c code) = arrivals l s := arrivals_endSettlement l m s c _

theorem arrivals_keepOutcome (c : InContext) : arrivals l (s.keepOutcome m c) = arrivals l s := by
  unfold State.keepOutcome
  split
  · rfl
  · rw [setSlot_eq]
    rfl

theorem arrivals_handOver : arrivals l (s.handOver m) = arrivals l s := by
  unfold State.handOver
  (repeat' split)
  · rfl
  · exact arrivals_setIn l m s _
  · rw [arrivals_closeIn]
    exact (arrivals_keepOutcome l m s _).trans rfl
  · rfl

theorem arrivals_settleJob (j : Job) (status : PartCode) :
    arrivals l (s.settleJob j status) = arrivals l s := by
  unfold State.settleJob
  split
  · rfl
  · split
    · rfl
    · rename_i r _ _ o _
      obtain ⟨more, grown⟩ := queueReplacement_mail
        (s.notifyStatus ⟨j.link, true, status.byte, false⟩) r j.slot status.byte o
      unfold arrivals
      rw [grown, queueReplacement_eq]
      rfl

theorem arrivals_endJob (j : Job) (status : PartCode) :
    arrivals l (s.endJob j status) = arrivals l s := by
  have settled : arrivals l (settledJob s j status) = arrivals l (s.settleJob j status) := by
    unfold settledJob
    split <;> rfl
  have ended : arrivals l (endedJob s j status) = arrivals l s :=
    (show arrivals l (endedJob s j status) = arrivals l (settledJob s j status) from rfl).trans
      (settled.trans (arrivals_settleJob l s j status))
  rw [endJob_eq_of_context]
  split
  · exact ended
  · split
    · rw [arrivals_handOver, ended]
    · exact ended

theorem arrivals_startJobs (n : Nat) : arrivals l (State.startJobs n s) = arrivals l s := by
  induction n generalizing s with
  | zero => rfl
  | succ n ih =>
    unfold State.startJobs
    split
    · rfl
    · split
      · split
        · rw [ih, arrivals_endJob]
        · split
          · rw [ih, arrivals_endJob]
          · rfl
      · rfl

variable (c : InContext) (cls : Byte)

/-- A verified frame's arrival is recorded, and its link keeps its state. -/
theorem arrivals_verified : arrivals l (s.verified l c cls) =
    ((s.link l).state, some s.time.seconds, s.mail.arrivals ++ [l]) := by
  have recorded : arrivals l (s.recordArrival l) =
      ((s.link l).state, some s.time.seconds, s.mail.arrivals ++ [l]) := by
    unfold arrivals
    rw [recordArrival_link]
    rfl
  have arrived : arrivals l (arrivedAt s l) =
      ((s.link l).state, some s.time.seconds, s.mail.arrivals ++ [l]) :=
    (arrivals_restartFilter l l _).trans recorded
  unfold State.verified
  dsimp only
  rw [← arrivedAt]
  (repeat' split)
  · rw [arrivals_settleWith, arrived]
  · rw [arrivals_settleWith, arrivals_filterKeepalive, recorded]
  · rw [arrivals_startJobs, arrivals_handOver, arrived]
  · rw [arrivals_settleWith]
    exact arrived
  all_goals rw [arrivals_settleWith, arrived]

theorem subset_settleWith (m : LinkSlot) (code : PartCode) :
    s.mail.reports ⊆ (s.settleWith m c code).mail.reports := by
  obtain ⟨more, grown⟩ := endSettlement_mail s m c code.byte false
  rw [State.settleWith, grown]
  simp

theorem filterKeepalive_mail (p : List Byte) : (s.filterKeepalive l p).1.mail = s.mail := rfl

theorem recordArrival_reports : (s.recordArrival l).mail.reports = s.mail.reports := rfl

theorem arrivedAt_reports : (arrivedAt s l).mail.reports = s.mail.reports := rfl

theorem handBeacon_reports (p : List Byte) : (s.handBeacon l p).mail.reports = s.mail.reports := rfl

theorem subset_verified : s.mail.reports ⊆ (s.verified l c cls).mail.reports := by
  have settled {t : State} (same : t.mail.reports = s.mail.reports) (code : PartCode) :
      s.mail.reports ⊆ (t.settleWith l c code).mail.reports := by
    rw [← same]
    exact subset_settleWith t c l code
  unfold State.verified
  dsimp only
  rw [← arrivedAt]
  (repeat' split)
  case h_3 =>
    refine List.Subset.trans ?_ (subset_startJobs _ _)
    rw [handOver_mail, arrivedAt_reports]
    exact List.Subset.refl _
  case h_2 => exact settled (by rw [filterKeepalive_mail, recordArrival_reports]) _
  case h_4 => exact settled (by rw [handBeacon_reports, arrivedAt_reports]) _
  all_goals exact settled (arrivedAt_reports l s) _

theorem verified_table : (s.verified l c cls).keys.table = s.keys.table :=
  congrArg Frame.table (frame_verified s l c cls)

end arrivals

end Sys2Proof.Proofs.Settlement
end


section
/-! PROOFS. SETTLE_REQUEST and RECEIVE_COMMIT (R95, R96, R113, R130): the confirmation of a frame. -/

namespace Sys2Proof.Proofs.Confirmation
open Sys2Proof Sys2Proof.Machine
open Sys2Proof.Proofs.StillRecords Sys2Proof.Proofs.KeyStandings
open Sys2Proof.Proofs.Frames Sys2Proof.Proofs.SlotsAndResults Sys2Proof.Proofs.RenewalJobs
open Sys2Proof.Proofs.CipherTaking Sys2Proof.Proofs.KeyChanges Sys2Proof.Proofs.SequenceRequests
open Sys2Proof.Proofs.CommandAnswers Sys2Proof.Proofs.DrainLimit Sys2Proof.Proofs.DrainForced
open Sys2Proof.Proofs.StoreAnswers Sys2Proof.Proofs.Settlement

/-! ### An inbound frame past receiving takes no retirement notice (R93) -/

section kept
variable (s : State) (l : LinkSlot)

/-- The loss of an outbound frame leaves the inbound ones. -/
theorem noticeOut_inContext (m : LinkSlot) (ref : KeyRef) :
    ((s.noticeOut m ref).link l).inContext = (s.link l).inContext := by
  unfold State.noticeOut
  split
  · rfl
  · split
    · by_cases same : l = m
      · subst same
        exact loseOut_inContext s l _
      · rw [(sameLinks_loseOut s m _).1 l same]
    · rfl

/-- The frame takes notices (R93). -/
def TakesNotice (c : InContext) : Prop := c.lost = none ∧ c.early ≠ some .replay ∧ c.phase = .receiving

variable {s l} {c : InContext} (hc : (s.link l).inContext = some c) (deaf : ¬TakesNotice c)
include hc deaf

theorem loseIn_of_deaf (code : PartCode) : s.loseIn l code = s := by
  have out : c.lost.isSome = true ∨ c.early = some .replay ∨ c.phase ≠ .receiving := by
    by_contra none
    simp only [not_or, Bool.not_eq_true, Option.isSome_eq_false_iff, Option.isNone_iff_eq_none,
      not_not] at none
    exact deaf none
  simp only [State.loseIn, hc]
  exact if_pos out

theorem noticeIn_of_deaf (m : LinkSlot) (ref : KeyRef) :
    ((s.noticeIn m ref).link l).inContext = some c := by
  by_cases same : l = m
  · subst same
    unfold State.noticeIn
    split
    · exact hc
    · split
      · rw [loseIn_of_deaf hc deaf, hc]
      · exact hc
  · rw [(sameLinks_noticeIn s m ref).1 l same, hc]

theorem retireSlot_of_deaf (k : KeyIndex) (d : ReportDetail) :
    ((s.retireSlot k d).link l).inContext = some c :=
  noticeIn_of_deaf ((noticeOut_inContext (s.setKey k KeySlot.empty) l _ _).trans hc) deaf _ _

theorem activate_of_deaf (m : LinkSlot) (k : KeyIndex) (cause : ActivationCause) :
    ((s.activate m k cause).link l).inContext = some c := by
  have cut : ((s.cutDraining m).link l).inContext = some c := by
    unfold State.cutDraining
    split
    · exact hc
    · exact retireSlot_of_deaf hc deaf _ _
  have settled : ((cleared s m k).link l).inContext = some c := by
    unfold cleared State.supersede
    split
    · exact cut
    · split
      · exact retireSlot_of_deaf cut deaf _ _
      · exact cut
  rw [activate_eq, post_link]
  by_cases e : l = m
  · subst e
    rw [linkActivated_link_self, setKey_link]
    unfold activatedLink
    split <;> exact settled
  · rw [linkActivated_link_ne _ _ e, setKey_link, settled]

end kept

/-! ### The answer to a confirmation (R95, R96) -/

section answers
variable {s : State} {l : LinkSlot} {c : InContext} {h : Header} (hc : (s.link l).inContext = some c)
  (confirming : c.phase = .confirming) (parsed : c.header = some h)
include hc confirming

theorem confirmAnswered_of_gone (code : PartCode) :
    s.confirmAnswered l c.ident (some code) = s.settleWith l c (c.outcome.getD code) := by
  simp only [State.confirmAnswered, hc, confirming, and_self, if_true]

include parsed

theorem confirmAnswered_of_done : s.confirmAnswered l c.ident none = s.verified l c h.cls := by
  simp only [State.confirmAnswered, hc, confirming, and_self, if_true, parsed]

end answers

theorem holds_iff (s : State) (k : KeyIndex) (l : LinkSlot) (epoch : Half) (n : BitVec 64) :
    s.holds k l epoch n = true ↔ (s.key k).state ≠ .empty ∧ (s.key k).link = l ∧
      (s.key k).epoch = epoch ∧ (s.key k).installation = n := by
  simp [State.holds, and_assoc]

/-! ### SETTLE_REQUEST (R95) -/

/-- The key unit has taken the request. -/
def tookRequest (s : State) (requests : List KeyRequest) : State :=
  { s with keys := { s.keys with requests := requests } }

/-- The key's activation, where it is PENDING (R95, R113). -/
def inForce (s : State) (l : LinkSlot) (k : KeyIndex) : State :=
  if (s.key k).state = .pending then s.activate l k .receive else s

/-- The key in force, with the sequence marked. -/
def marked (s : State) (l : LinkSlot) (k : KeyIndex) (q : Seq) : State :=
  (inForce s l k).setKey k
    { (inForce s l k).key k with window := ((inForce s l k).key k).window.mark q }

section settling
variable {s : State} {l : LinkSlot} {c : InContext} {h : Header} {k : KeyIndex} {epoch : Half}
  {n : BitVec 64} {q : Seq} {before rest : List KeyRequest}
  (waits : s.keys.requests = before ++ .settle l c.ident (.session k l epoch n) q :: rest)
  (others : ∀ q ∈ before, q.isSettle l = false) (hc : (s.link l).inContext = some c)
  (confirming : c.phase = .confirming)

section runs
include waits others

theorem exec_settleRequest_of_first : exec (.settleRequest l) s =
    .next ((tookRequest s (before ++ rest)).answerSettle l c.ident (.session k l epoch n) q).resume := by
  have taken := takeKeyRequest_of_first waits others (show KeyRequest.isSettle l _ = true from beq_self_eq_true l)
  change execSettleRequest l s = _
  simp only [execSettleRequest, taken]
  rfl

end runs

section answered
include hc confirming

theorem inForce_inContext : ((inForce s l k).link l).inContext = some c := by
  unfold inForce
  split
  · exact activate_of_deaf hc (fun takes => absurd (takes.2.2.symm.trans confirming) (by decide)) _ _ _
  · exact hc

/-- A key that is gone leaves KEY_LOST, but a kept code stands. -/
theorem answerSettle_of_gone (gone : s.holds k l epoch n = false) :
    s.answerSettle l c.ident (.session k l epoch n) q = s.settleWith l c (c.outcome.getD .keyLost) := by
  simp only [State.answerSettle, State.settleKey, gone, Bool.false_eq_true, if_false]
  exact confirmAnswered_of_gone hc confirming _

/-- A key that is held marks the sequence, and the frame is confirmed. -/
theorem answerSettle_of_held (held : s.holds k l epoch n = true) (parsed : c.header = some h) :
    s.answerSettle l c.ident (.session k l epoch n) q = (marked s l k q).verified l c h.cls := by
  have here : ((marked s l k q).link l).inContext = some c :=
    (congrArg Link.inContext (setKey_link _ k _ l)).trans (inForce_inContext hc confirming)
  simp only [State.answerSettle, State.settleKey, held, if_true]
  exact confirmAnswered_of_done here confirming parsed

end answered

theorem marked_of_standing (standing : (s.key k).state ≠ .pending) : marked s l k q =
    s.setKey k { s.key k with window := (s.key k).window.mark q } := by
  have same : inForce s l k = s := if_neg standing
  rw [marked, same]

theorem still_marked : (marked s l k q).still = s.still := by
  unfold marked inForce
  split <;> simp

theorem inForce_state : (inForce s l k).key k = if (s.key k).state = .pending then
    { s.key k with state := .active, age := some 0 } else s.key k := by
  unfold inForce
  split
  · rw [activate_key, if_pos rfl]
  · rfl

theorem marked_key_self : (marked s l k q).key k = { (inForce s l k).key k with
    window := ((inForce s l k).key k).window.mark q } := State.setKey_key_self _ _ _

theorem marked_key_ne {j : KeyIndex} (ne : k ≠ j) : (marked s l k q).key j = (inForce s l k).key j :=
  State.setKey_key_ne _ _ ne

theorem subset_marked : s.mail.reports ⊆ (marked s l k q).mail.reports := by
  have put : (marked s l k q).mail.reports = (inForce s l k).mail.reports := rfl
  rw [put, inForce]
  split
  · exact subset_activate s l k .receive
  · exact List.Subset.refl _

theorem key_of_table {s t : State} (same : t.keys.table = s.keys.table) (j : KeyIndex) :
    t.key j = s.key j := by
  simp only [State.key, same]

end settling

/-! ### What the activation of a PENDING key does to the other keys (R113) -/

section activation
variable {s : State} {l : LinkSlot} {k : KeyIndex} {q : Seq} (pending : (s.key k).state = .pending)
include pending

theorem inForce_of_pending : inForce s l k = s.activate l k .receive := if_pos pending

theorem marked_of_current {p : KeyIndex} (current : s.currentKey l = some p) :
    (marked s l k q).key p = supersededKey (s.key p) (s.key k).overlap := by
  have other : k ≠ p := by
    rintro rfl
    exact absurd (currentKey_isCurrent current) (by rw [pending]; decide)
  rw [marked_key_ne other, inForce_of_pending pending, activate_key, if_neg other, if_pos current]

theorem marked_of_draining {d : KeyIndex} (draining : s.drainingKey l = some d) :
    (marked s l k q).key d = KeySlot.empty := by
  have other : k ≠ d := by
    rintro rfl
    exact absurd (drainingKey_state draining) (by rw [pending]; decide)
  have notCurrent : s.currentKey l ≠ some d := fun current =>
    absurd (currentKey_isCurrent current) (by rw [drainingKey_state draining]; decide)
  rw [marked_key_ne other, inForce_of_pending pending, activate_key, if_neg other, if_neg notCurrent,
    if_pos draining]

theorem marked_link_state (late : (s.link l).state = .awaitKey ∨ (s.link l).state = .quarantined) :
    ((marked s l k q).link l).state = .keyed := by
  have same : (marked s l k q).link l = (s.activate l k .receive).link l := by
    rw [marked, setKey_link, inForce_of_pending pending]
  have state : ((s.activate l k .receive).link l).state = (activatedLink (s.link l)).state :=
    state_of_bare ((bare_activate_link s l k .receive).trans (bare_activatedLink _).symm)
  rw [same, state, activatedLink]
  obtain await | quarantined := late
  · simp only [await]
  · simp only [quarantined]

theorem mem_marked {x : ReportSource × Report} (posted : x ∈ (s.activate l k .receive).mail.reports) :
    x ∈ (marked s l k q).mail.reports := by
  have put : (marked s l k q).mail.reports = (inForce s l k).mail.reports := rfl
  rwa [put, inForce_of_pending pending]

end activation

/-! ### RECEIVE_COMMIT (R96, R130) -/

section commit
variable {s : State} {l : LinkSlot} {c : InContext} {h : Header} {k : KekIndex} {n : Nat} {q : Seq}

theorem exec_receiveCommit_of_head {rest : List StoreRequest} {ident : Nat}
    (head : s.store.requests = .receiveCommit l ident k n q :: rest) :
    exec .receiveCommit s = .next (({ s with
      store := s.store.tookHead (.receiveCommit l ident k n q) rest } : State).receiveCommit l ident
        k n q).resume := by
  change execReceiveCommit s = _
  simp only [execReceiveCommit, takeRequest_of_head head]

theorem usableKek_isSome_iff : s.usableKek (.kek k n) ≠ none ↔
    s.store.marker = .live ∧ (s.kek k).state = .loaded ∧ s.erasures k = n := by
  simp [State.usableKek, kekUsable_iff, and_assoc]

theorem receiveCommit_of_gone {ident : Nat}
    (gone : s.store.marker = .parked ∨ (s.kek k).state ≠ .loaded ∨ s.erasures k ≠ n) :
    s.receiveCommit l ident k n q = s.confirmAnswered l ident (some .kekAbsent) := by
  have unusable : s.usableKek (.kek k n) = none := by
    by_contra usable
    obtain ⟨live, loaded, same⟩ := usableKek_isSome_iff.mp usable
    obtain parked | other | other := gone
    · exact absurd (live.symm.trans parked) (by decide)
    · exact other loaded
    · exact other same
  rw [State.receiveCommit, if_pos unusable]

variable (live : s.store.marker = .live) (loaded : (s.kek k).state = .loaded) (same : s.erasures k = n)
include live loaded same

theorem receiveCommit_of_higher {ident : Nat} (higher : (s.kek k).highWater.toNat < q.toNat) :
    s.receiveCommit l ident k n q =
      (s.setKek k { s.kek k with highWater := q }).confirmAnswered l ident none := by
  rw [State.receiveCommit, if_neg (usableKek_isSome_iff.mpr ⟨live, loaded, same⟩), if_pos higher]

theorem receiveCommit_of_lower {ident : Nat} (lower : q.toNat ≤ (s.kek k).highWater.toNat) :
    s.receiveCommit l ident k n q = s.confirmAnswered l ident (some .replay) := by
  rw [State.receiveCommit, if_neg (usableKek_isSome_iff.mpr ⟨live, loaded, same⟩),
    if_neg (Nat.not_lt.mpr lower)]

end commit

/-! ### The confirmed renewal is handed over (R101) -/

/-- The job that a handed-over renewal makes. -/
def renewalJob (s : State) (l : LinkSlot) (c : InContext) (h : Header) (payload : List Byte) : Job :=
  { ident := s.nextIdent, link := l, payload := payload, epoch := h.epoch, sequence := h.sequence,
    slot := c.slot, step := .queued, half1 := none, half2 := none, candidate := none }

/-- The state in which a renewal has been handed over. -/
def handedOver (s : State) (l : LinkSlot) (c : InContext) (h : Header) (payload : List Byte) : State :=
  (((s.keepOutcome l c).enqueueJob (renewalJob s l c h payload)).nextContext).closeIn l

section handover
variable {s : State} {l : LinkSlot} {c : InContext} {h : Header} {payload : List Byte}
  (hc : (s.link l).inContext = some c) (parsed : c.header = some h) (held : c.renewal = some payload)
include hc parsed held

theorem handOver_of_busy (busy : ∃ i ∈ s.keys.jobs, i.link = l) :
    s.handOver l = s.setIn l (some { c with phase := .awaitingHandoff }) := by
  have waits : (s.jobOf l).isSome = true := by
    obtain ⟨i, mem, own⟩ := busy
    exact List.find?_isSome.mpr ⟨i, mem, beq_iff_eq.mpr own⟩
  simp only [State.handOver, hc, parsed, held, waits, if_true]

theorem handOver_of_free (free : ∀ j ∈ s.keys.jobs, j.link ≠ l) :
    s.handOver l = handedOver s l c h payload := by
  have none : (s.jobOf l).isSome = false := by
    unfold State.jobOf
    rw [Option.isSome_eq_false_iff, Option.isNone_iff_eq_none, List.find?_eq_none]
    exact fun j mem same => free j mem (beq_iff_eq.mp same)
  simp only [State.handOver, hc, parsed, held, none, Bool.false_eq_true, if_false]
  rfl

end handover

section handed
variable (s : State) (l : LinkSlot) (c : InContext) (h : Header) (payload : List Byte)

theorem keepOutcome_eq : s.keepOutcome l c = { s with rings := (s.keepOutcome l c).rings } := by
  unfold State.keepOutcome
  split
  · rfl
  · exact setSlot_eq _ _ _ _

/-- What a handover changes. -/
theorem handedOver_eq : handedOver s l c h payload = { s with
    rings := (s.keepOutcome l c).rings
    keys := { s.keys with jobs := s.keys.jobs ++ [renewalJob s l c h payload] }
    nextIdent := s.nextIdent + 1
    links := (handedOver s l c h payload).links
    cipher := (handedOver s l c h payload).cipher
    store := (handedOver s l c h payload).store } := by
  unfold handedOver
  rw [closeIn_eq, keepOutcome_eq]
  rfl

theorem handedOver_link :
    (handedOver s l c h payload).link l = { s.link l with inContext := none } := by
  have base : (((s.keepOutcome l c).enqueueJob (renewalJob s l c h payload)).nextContext).link l =
      s.link l := by
    rw [keepOutcome_eq]
    rfl
  rw [handedOver, closeIn_link, base]

theorem handedOver_jobs : (handedOver s l c h payload).keys.jobs =
    s.keys.jobs ++ [renewalJob s l c h payload] :=
  congrArg (fun t : State => t.keys.jobs) (handedOver_eq s l c h payload)

theorem handedOver_mail : (handedOver s l c h payload).mail = s.mail :=
  (congrArg State.mail (handedOver_eq s l c h payload)).trans rfl

theorem handedOver_internal : (handedOver s l c h payload).internal = s.internal :=
  (congrArg State.internal (handedOver_eq s l c h payload)).trans rfl

theorem handedOver_table : (handedOver s l c h payload).keys.table = s.keys.table :=
  (congrArg (fun t : State => t.keys.table) (handedOver_eq s l c h payload)).trans rfl

variable {s l c}

/-- The slot keeps what its replacement will carry. -/
theorem handedOver_slot {r : RingIndex} {ring : Ring} (hr : (s.link l).inRing = some r)
    (held : s.ring r = some ring) (within : c.slot < ring.slots.length) :
    (handedOver s l c h payload).slot r c.slot = { s.slot r c.slot with job := some c.frame } := by
  have rings : (handedOver s l c h payload).rings = (s.keepOutcome l c).rings :=
    (congrArg State.rings (handedOver_eq s l c h payload)).trans rfl
  rw [slot_eq_of_rings rings]
  simp only [State.keepOutcome, hr]
  exact slot_setSlot_self _ held within

end handed

theorem frame_of_header {c : InContext} {h : Header} (parsed : c.header = some h) :
    c.frame = ⟨some h.cls, h.len, (match c.keyRef with
      | some (.session _ _ e _) => e
      | _ => 0), h.sequence.toNat % 2 ^ 32⟩ := by
  simp only [InContext.frame, parsed, lowSequence]
  cases c.keyRef with
  | none => rfl
  | some ref => cases ref <;> rfl

end Sys2Proof.Proofs.Confirmation
end


section
/-! PROOFS. A verified frame's end, class by class, from the state in which it is confirmed (R97 to R103). -/

namespace Sys2Proof.Proofs.VerifiedFrames
open Sys2Proof Sys2Proof.Machine
open Sys2Proof.Proofs.SlotsAndResults Sys2Proof.Proofs.RenewalJobs
open Sys2Proof.Proofs.DrainLimit Sys2Proof.Proofs.StoreAnswers
open Sys2Proof.Proofs.Settlement Sys2Proof.Proofs.Confirmation

/-! ### Frames that end at once -/

section ends
variable {s : State} {l : LinkSlot} {c : InContext} {cls : Byte}

theorem endSettlement_beacons (t : State) (l : LinkSlot) (c : InContext) (status : Byte) :
    (t.endSettlement l c status false).mail.beacons = t.mail.beacons := by
  obtain ⟨more, grown⟩ := endSettlement_mail t l c status false
  rw [grown]

/-- The frame ends with a code, the filter restarted, and the beacons are as given. -/
def EndsWith (s u : State) (l : LinkSlot) (c : InContext) (code : Byte)
    (beacons : List (LinkSlot × List Byte)) : Prop :=
  Ended s l c code u ∧ (u.link l).filter = 0 ∧ (u.link l).lastKeepalive = (s.link l).lastKeepalive ∧
    u.mail.beacons = beacons

theorem endsWith_settleWith (code : PartCode) :
    EndsWith s ((arrivedAt s l).settleWith l c code) l c code.byte s.mail.beacons := by
  have link : ((arrivedAt s l).settleWith l c code).link l = _ := endSettlement_link _ l c code.byte false
  rw [arrivedAt_link] at link
  refine ⟨(ended_endSettlement (arrivedAt s l) l c code.byte).of_before (by rw [arrivedAt_link]) rfl rfl,
    ?_, ?_, endSettlement_beacons (arrivedAt s l) l c code.byte⟩
  · rw [link]
  · rw [link]

theorem endsWith_of_outcome {code : PartCode} (kept : c.outcome = some code) :
    EndsWith s (s.verified l c cls) l c code.byte s.mail.beacons := by
  rw [verified_of_outcome kept]
  exact endsWith_settleWith code

variable (fresh : c.outcome = none)
include fresh

theorem endsWith_of_plain (plain : cls = 0x00#8 ∨ cls = 0x04#8) :
    EndsWith s (s.verified l c cls) l c 0x00#8 s.mail.beacons := by
  rw [verified_of_plain fresh plain]
  exact endsWith_settleWith .ok

theorem endsWith_of_beacon {payload : List Byte} (beacon : cls = 0x03#8) (held : c.beacon = some payload) :
    EndsWith s (s.verified l c cls) l c 0x4F#8 (s.mail.beacons ++ [(l, payload)]) := by
  rw [verified_of_beacon fresh beacon held]
  have handed : ((arrivedAt s l).handBeacon l payload).link l = (arrivedAt s l).link l := rfl
  have link : (((arrivedAt s l).handBeacon l payload).settleWith l c .absorbedTime).link l = _ :=
    endSettlement_link _ l c PartCode.absorbedTime.byte false
  rw [handed, arrivedAt_link] at link
  refine ⟨(ended_endSettlement ((arrivedAt s l).handBeacon l payload) l c 0x4F#8).of_before
    (by rw [handed, arrivedAt_link]) rfl rfl, ?_, ?_,
    endSettlement_beacons ((arrivedAt s l).handBeacon l payload) l c 0x4F#8⟩
  · rw [link]
  · rw [link]

/-- A keepalive by the filter (R99). -/
theorem ended_of_keepalive {plain : List Byte} (keepalive : cls = 0x01#8)
    (held : c.keepalive = some plain) :
    let masked := List.zipWith (· &&& ·) plain (s.link l).mask
    let same := (s.link l).lastKeepalive = some masked
    let u := s.verified l c cls
    Ended s l c (if same ∧ (s.link l).filter = 2 then 0x4E else 0x00) u ∧
      (u.link l).lastKeepalive = some masked ∧ u.mail.beacons = s.mail.beacons ∧
      (¬same → (u.link l).filter = 0) ∧
      (same → (u.link l).filter = if (s.link l).filter = 0 then 1 else 2) := by
  intro masked same u
  have step : u = ((s.recordArrival l).filterKeepalive l plain).1.settleWith l c
      ((s.recordArrival l).filterKeepalive l plain).2 := verified_of_keepalive fresh keepalive held
  have arrived := recordArrival_link s l
  have filtered : ((s.recordArrival l).filterKeepalive l plain).1.link l =
      { s.link l with
        lastArrival := some s.time.seconds
        filter := if same then (if (s.link l).filter = 0 then 1 else 2) else 0
        lastKeepalive := some masked } := by
    simp only [State.filterKeepalive, State.setLink_link_self, arrived, beq_iff_eq]
    rfl
  have code : ((s.recordArrival l).filterKeepalive l plain).2 =
      if same ∧ (s.link l).filter = 2 then .filtered else .ok := by
    simp only [State.filterKeepalive, arrived, beq_iff_eq]
    rfl
  have byte : ((s.recordArrival l).filterKeepalive l plain).2.byte =
      if same ∧ (s.link l).filter = 2 then 0x4E else 0x00 := by
    rw [code]
    split <;> rfl
  generalize ht : ((s.recordArrival l).filterKeepalive l plain).1 = t at *
  have mail : t.mail = { s.mail with arrivals := s.mail.arrivals ++ [l] } := by rw [← ht]; rfl
  have rings : t.rings = s.rings := by rw [← ht]; rfl
  rw [State.settleWith, byte] at step
  have link : u.link l = _ := (congrArg (fun v => State.link v l) step).trans (endSettlement_link t l c _ false)
  rw [filtered] at link
  refine ⟨?_, ?_, ?_, fun other => ?_, fun is => ?_⟩
  · rw [step]
    exact (ended_endSettlement t l c _).of_before (by rw [filtered]) rings (by rw [mail])
  · rw [link]
  · rw [step, endSettlement_beacons, mail]
  · rw [link]
    exact if_neg other
  · rw [link]
    exact if_pos is

end ends

/-! ### Renewals -/

theorem startJobs_of_running {s : State} {j : Job} {jobs : List Job} (head : s.keys.jobs = j :: jobs)
    (running : j.step ≠ .queued) (n : Nat) : State.startJobs n s = s := by
  cases n with
  | zero => rfl
  | succ n => simp only [State.startJobs, head, running, if_false]

theorem mem_ask (x : RetainedStore) (r : StoreRequest) :
    r ∈ (x.ask r).requests ++ (x.ask r).waiting := by
  unfold RetainedStore.ask
  cases x.owes r.requester <;> simp

/-- The epoch check reads the states, links and epochs of the keys alone. -/
theorem acceptable_congr {s t : State} {j : Job} (same : ∀ k, (t.key k).state = (s.key k).state ∧
      (t.key k).link = (s.key k).link ∧ (t.key k).epoch = (s.key k).epoch) :
    Acceptable t j ↔ Acceptable s j := by
  have state (k : KeyIndex) : (t.key k).state = (s.key k).state := (same k).1
  have link (k : KeyIndex) : (t.key k).link = (s.key k).link := (same k).2.1
  have epoch (k : KeyIndex) : (t.key k).epoch = (s.key k).epoch := (same k).2.2
  simp only [Acceptable, State.currentKey, State.drainingKey, State.findKey, state, link, epoch]

theorem arrivedAt_inContext {s : State} {l : LinkSlot} {c : InContext}
    (hc : (s.link l).inContext = some c) : ((arrivedAt s l).link l).inContext = some c := by
  rw [arrivedAt_link]
  exact hc

section renewals
variable {s : State} {l : LinkSlot} {c : InContext} {h : Header} {payload : List Byte}
  (hc : (s.link l).inContext = some c) (parsed : c.header = some h) (fresh : c.outcome = none)
  (renewal : h.cls = 0x02#8) (held : c.renewal = some payload)
include hc parsed fresh renewal held

/-- The state in which the renewal of the link has been handed over. -/
theorem verified_of_handed (free : ∀ j ∈ s.keys.jobs, j.link ≠ l) : s.verified l c h.cls =
    State.startJobs jobStarts (handedOver (arrivedAt s l) l c h payload) := by
  rw [verified_of_renewal fresh renewal,
    handOver_of_free (arrivedAt_inContext hc) parsed held free]

/-- While the link's previous job is there the handoff waits. -/
theorem verified_of_busy {j : Job} {jobs : List Job} (head : s.keys.jobs = j :: jobs)
    (running : j.step ≠ .queued) (busy : ∃ i ∈ s.keys.jobs, i.link = l) : s.verified l c h.cls =
    (arrivedAt s l).setIn l (some { c with phase := .awaitingHandoff }) := by
  rw [verified_of_renewal fresh renewal,
    handOver_of_busy (arrivedAt_inContext hc) parsed held busy]
  exact startJobs_of_running (s := (arrivedAt s l).setIn l _) head running _

/-- Behind a running job the new one waits. -/
theorem verified_of_queue {j : Job} {jobs : List Job} (head : s.keys.jobs = j :: jobs)
    (running : j.step ≠ .queued) (free : ∀ j ∈ s.keys.jobs, j.link ≠ l) :
    s.verified l c h.cls = handedOver (arrivedAt s l) l c h payload := by
  rw [verified_of_handed hc parsed fresh renewal held free]
  refine startJobs_of_running (jobs := jobs ++ [renewalJob (arrivedAt s l) l c h payload]) ?_ running _
  rw [handedOver_jobs]
  exact congrArg (· ++ _) head

variable (alone : s.keys.jobs = [])

omit hc parsed fresh renewal held in
include alone in
/-- The new job is the only one. -/
theorem onlyJob_handedOver : (handedOver (arrivedAt s l) l c h payload).onlyJob
    (renewalJob s l c h payload) .queued := by
  refine ⟨?_, rfl, fun x hx => ?_⟩
  · rw [handedOver_jobs, show (arrivedAt s l).keys.jobs = [] from alone]
    rfl
  · rw [show (renewalJob s l c h payload).link = l from rfl, handedOver_link] at hx
    cases hx

omit hc parsed fresh renewal held in
theorem acceptable_handedOver (j : Job) :
    Acceptable (handedOver (arrivedAt s l) l c h payload) j ↔ Acceptable s j :=
  acceptable_congr fun k => by
    rw [key_of_table (handedOver_table (arrivedAt s l) l c h payload) k,
      show (arrivedAt s l).key k = s.key k from rfl]
    exact ⟨rfl, rfl, rfl⟩

include alone

theorem verified_of_stale (not : ¬Acceptable s (renewalJob s l c h payload)) : s.verified l c h.cls =
    endedJob (handedOver (arrivedAt s l) l c h payload) (renewalJob s l c h payload) .staleEpoch := by
  rw [verified_of_handed hc parsed fresh renewal held (by simp [alone])]
  exact startJobs_of_only_stale (onlyJob_handedOver alone)
    (fun is => not ((acceptable_handedOver _).mp is))

variable (acceptable : Acceptable s (renewalJob s l c h payload))
include acceptable

theorem verified_of_bad_slot (bad : 4 ≤ (renewalKek payload).toNat) : s.verified l c h.cls =
    endedJob (handedOver (arrivedAt s l) l c h payload) (renewalJob s l c h payload) .kekAbsent := by
  rw [verified_of_handed hc parsed fresh renewal held (by simp [alone])]
  exact startJobs_of_only_bad_slot (onlyJob_handedOver alone) ((acceptable_handedOver _).mpr acceptable) bad

theorem verified_of_good {k : KekIndex} (named : (renewalKek payload).toNat = k.val) :
    s.verified l c h.cls = ({ handedOver (arrivedAt s l) l c h payload with
      keys := { (handedOver (arrivedAt s l) l c h payload).keys with
        jobs := [{ renewalJob s l c h payload with step := .askedKek }] } } : State).askStore
          (.kekCheck s.nextIdent k) := by
  rw [verified_of_handed hc parsed fresh renewal held (by simp [alone])]
  exact startJobs_of_only_good (onlyJob_handedOver alone) ((acceptable_handedOver _).mpr acceptable) named

end renewals

/-! ### A renewal refused at its start (R108, R112) -/

/-- The renewal is refused with a code. -/
def Refused (s u : State) (l : LinkSlot) (c : InContext) (payload : List Byte) (code : PartCode) : Prop :=
  (u.link l).inContext = none ∧ u.keys.jobs = [] ∧
    (.keyUnit, ⟨.renewalRefused (renewalEpoch payload) code, some l, 0⟩) ∈ u.mail.reports ∧
    ∀ r ring copy, (s.link l).inRing = some r → s.ring r = some ring →
      c.slot < ring.slots.length → (ring.slot c.slot).copy = some copy →
      u.mail.statuses = s.mail.statuses ++ [⟨l, true, code.byte, false⟩] ∧
      ∃ w ∈ u.internal.writes ++ u.internal.waitingWrites,
        w.use = .replacement r c.slot ∧ byteAt w.bytes 0 = code.byte

theorem refused_endedJob {s : State} {l : LinkSlot} {c : InContext} {h : Header} {payload : List Byte}
    (alone : s.keys.jobs = []) {code : PartCode}
    (refuses : code ∈ [PartCode.staleEpoch, .kekAbsent, .checkMismatch, .badRenewal]) :
    Refused s (endedJob (handedOver (arrivedAt s l) l c h payload) (renewalJob s l c h payload) code)
      l c payload code := by
  have only := (onlyJob_handedOver (s := s) (l := l) (c := c) (h := h) (payload := payload) alone).1
  obtain ⟨queue, refusal, settles, -⟩ := jobEnded_endedJob code only
  refine ⟨?_, queue, refusal refuses, fun r ring copy hr held within presented => ?_⟩
  · rw [endedJob_link, handedOver_link]
  · have inRing : ((arrivedAt s l).link l).inRing = some r := by rw [arrivedAt_link]; exact hr
    have slot := handedOver_slot h payload inRing (show (arrivedAt s l).ring r = some ring from held) within
    have had : (arrivedAt s l).slot r c.slot = ring.slot c.slot := slot_of_ring held _
    rw [had] at slot
    obtain ⟨ring', held', same, -⟩ := ring_of_copy _ r c.slot ((congrArg SlotRecord.copy slot).trans presented)
    rw [slot] at same
    have ends := settles r ring' copy c.frame (by
      rw [show (renewalJob s l c h payload).link = l from rfl, handedOver_link]
      exact inRing) held' (congrArg SlotRecord.job same) ((congrArg SlotRecord.copy same).trans presented)
    rw [handedOver_mail] at ends
    exact ends

end Sys2Proof.Proofs.VerifiedFrames
end


section
/-! PROOFS. The bytes of an open inbound frame past its header (R89 to R92), its notices (R93), and the code that
its settlement fixes (R94). -/

namespace Sys2Proof.Proofs.InboundBytes
open Sys2Proof Sys2Proof.Machine
open Sys2Proof.Proofs.KeyStandings Sys2Proof.Proofs.CipherTaking Sys2Proof.Proofs.KeyChanges
open Sys2Proof.Proofs.KeyTests Sys2Proof.Proofs.SequenceRequests Sys2Proof.Proofs.CipherResults
open Sys2Proof.Proofs.Confirmation

/-! ### The inbound window (R90) -/

section window
variable (s : State) (l : LinkSlot) (w : Nat)

theorem moveInWindow_link_ne {m : LinkSlot} (ne : m ≠ l) : (s.moveInWindow l w).link m = s.link m := by
  unfold State.moveInWindow
  split
  · rfl
  · split
    · rfl
    · dsimp only
      split
      · rfl
      · rw [feedIn_link_ne _ ne, setIn_link_ne _ _ ne]

@[simp] theorem feedIn_mail : (s.feedIn l).mail = s.mail := by
  unfold State.feedIn
  (repeat' split) <;> rfl

@[simp] theorem setIn_mail (x : Option InContext) : (s.setIn l x).mail = s.mail := rfl

@[simp] theorem moveInWindow_mail : (s.moveInWindow l w).mail = s.mail := by
  unfold State.moveInWindow
  (repeat' split) <;> simp

variable {s l}

theorem moveInWindow_inContext {c : InContext} {h : Header} (hc : (s.link l).inContext = some c)
    (parsed : c.header = some h) : ∃ k : Keystream, k.start = w ∧
      ((s.moveInWindow l w).link l).inContext = some { c with keystream := k } := by
  have step : s.moveInWindow l w = if c.keystream.start = w then s else
      (s.setIn l (some { c with
        keystream := c.keystream.moveTo w (lastBlock h.len)
          (s.cipher.outstandingBlocks (.inbound l) c.ident) })).feedIn l := by
    unfold State.moveInWindow
    rw [hc]
    dsimp only
    rw [parsed]
  rw [step]
  split
  · next stays => exact ⟨c.keystream, stays, hc⟩
  · next moves =>
    obtain ⟨wanted, fed⟩ := feedIn_inContext (setIn_inContext s l (some { c with
      keystream := c.keystream.moveTo w (lastBlock h.len)
        (s.cipher.outstandingBlocks (.inbound l) c.ident) }))
    exact ⟨_, rfl, fed⟩

end window

/-! ### What may be done with a byte (R88, R91) -/

/-- The frame has a usable key. -/
abbrev HasKey (c : InContext) : Prop :=
  c.keyRef.isSome = true ∧ (c.early = none ∨ c.early = some .quarantined) ∧ c.lost = none

theorem usable_iff {c : InContext} (sound : c.streamFault = false) : c.usable = true ↔ HasKey c := by
  simp only [InContext.usable, Bool.and_eq_true, Bool.or_eq_true, beq_iff_eq, Option.isNone_iff_eq_none,
    sound, Bool.not_false, and_true, HasKey, and_assoc]

theorem usable_eq_false {c : InContext} (sound : c.streamFault = false) (no : ¬HasKey c) :
    c.usable = false := by
  rw [← usable_iff sound] at no
  exact Bool.eq_false_of_not_eq_true no

section bytes
variable {s : State} {l : LinkSlot} {c : InContext} {h : Header} {x : Nat} {b : Byte}

section place
variable (free : c.holds = false) (sound : c.streamFault = false) (parsed : c.header = some h)
  (next : x = c.next)
include free sound parsed next

theorem takeByte_of_payload (inside : x < 16 + h.len) :
    s.takeByte l c x b = s.takePayload l c h (x - 16) b := by
  rw [State.takeByte, if_neg (by simp [free]), if_neg (by simp [sound]), if_neg (by simp [next]), parsed]
  exact if_pos inside

theorem takeByte_of_trailer (past : 16 + h.len ≤ x) (inside : x < 24 + h.len) :
    s.takeByte l c x b = s.takeTrailer l c h b := by
  have extent : x < extentLength h.len := inside
  rw [State.takeByte, if_neg (by simp [free]), if_neg (by simp [sound]), if_neg (by simp [next]), parsed]
  exact (if_neg (Nat.not_lt.mpr past)).trans (if_pos extent)

end place

/-! ### Payload (R89 to R91) -/

/-- The tag once a payload byte has been absorbed (R91). -/
def absorbed (c : InContext) (len o : Nat) (b : Byte) : Tag :=
  if o + 1 = len then (c.tag.absorb b).finish else c.tag.absorb b

theorem absorb_eq (len o : Nat) : c.absorb len o b =
    { c with next := c.next + 1, tag := absorbed c len o b } := rfl

theorem takePayload_of_no_key (unusable : c.usable = false) (o : Nat) :
    s.takePayload l c h o b = some (s.setIn l (some { c with next := c.next + 1 }), 0) := if_pos unusable

variable (usable : c.usable = true)
include usable

theorem takePayload_of_no_tag (keyless : c.tag.keys = none) (o : Nat) :
    s.takePayload l c h o b = none := by
  rw [State.takePayload, if_neg (by simp [usable]), if_pos keyless]

variable (keyed : c.tag.keys.isSome = true)
include keyed

theorem takePayload_of_quarantine (quarantined : c.early = some .quarantined) (o : Nat) :
    s.takePayload l c h o b =
      some (s.setIn l (some { c with next := c.next + 1, tag := absorbed c h.len o b }), 0) := by
  rw [State.takePayload, if_neg (by simp [usable]), if_neg (fun e => by simp [e] at keyed),
    if_pos quarantined, absorb_eq]

variable (fresh : c.early = none)
include fresh

theorem takePayload_of_no_block {o : Nat} (missing : c.keystream.held.lookup (1 + o / 16) = none) :
    s.takePayload l c h o b = none := by
  have byte : keystreamByte c.keystream.held o = none := by simp [keystreamByte, blockOf, missing]
  rw [State.takePayload, if_neg (by simp [usable]), if_neg (fun e => by simp [e] at keyed),
    if_neg (by simp [fresh]), byte]

/-- A payload byte is absorbed, and its plaintext held or stored; the window follows. -/
theorem takePayload_of_block {o : Nat} {block : List Byte} (parsed : c.header = some h)
    (held : c.keystream.held.lookup (1 + o / 16) = some block) :
    let plain := b ^^^ byteAt block (o % 16)
    ∃ (t : State) (k : Keystream),
      s.takePayload l c h o b = some (t, if c.renewal.isSome then 0 else plain) ∧
      k.start = (if o + 1 < h.len then 1 + (o + 1) / 16 else c.keystream.start) ∧
      (t.link l).inContext = some { c with
        next := c.next + 1, tag := absorbed c h.len o b, keystream := k
        renewal := c.renewal.map (fun p => p.set o plain)
        beacon := c.beacon.map (fun p => p.set o plain)
        keepalive := c.keepalive.map (fun p => p.set o plain) } ∧
      (∀ m, m ≠ l → t.link m = s.link m) ∧ t.still = s.still ∧ t.mail = s.mail := by
  intro plain
  have byte : keystreamByte c.keystream.held o = some (byteAt block (o % 16)) := by
    simp [keystreamByte, blockOf, held]
  have holding : (holdByte c.renewal o plain).isSome = c.renewal.isSome := Option.isSome_map ..
  let c' : InContext := { c with
    next := c.next + 1, tag := absorbed c h.len o b
    renewal := c.renewal.map (fun p => p.set o plain)
    beacon := c.beacon.map (fun p => p.set o plain)
    keepalive := c.keepalive.map (fun p => p.set o plain) }
  have taken : s.takePayload l c h o b = some (if o + 1 < h.len then
      (s.setIn l (some c')).moveInWindow l (blockOf (o + 1)) else s.setIn l (some c'),
      if c.renewal.isSome then 0 else plain) := by
    rw [State.takePayload, if_neg (by simp [usable]), if_neg (fun e => by simp [e] at keyed),
      if_neg (by simp [fresh]), byte]
    dsimp only
    rw [holding, absorb_eq]
    rfl
  rw [taken]
  split
  · obtain ⟨k, start, context⟩ := moveInWindow_inContext (blockOf (o + 1))
      (setIn_inContext s l (some c')) (show c'.header = some h from parsed)
    exact ⟨_, k, rfl, start, context, fun m ne => by rw [moveInWindow_link_ne _ _ _ ne, setIn_link_ne _ _ ne],
      by simp, by simp⟩
  · exact ⟨_, c.keystream, rfl, rfl, setIn_inContext s l _, fun m ne => setIn_link_ne s _ ne, by simp, rfl⟩

end bytes

/-! ### Trailer (R89, R91, R92) -/

section trailer
variable {s : State} {l : LinkSlot} {c : InContext} {h : Header} {b : Byte}

theorem takeTrailer_of_no_tag (waits : c.usable = true ∧ c.early = some .quarantined ∧ c.tag.keys = none) :
    s.takeTrailer l c h b = none := if_pos waits

/-- The comparison falls due with the eighth trailer byte of a frame with a usable key. -/
theorem compare_cases (c : InContext) (sound : c.streamFault = false) : c.compare = { c with
    verdict := if HasKey c ∧ c.trailer.length = 8 ∧ c.verdict = none then
        c.tag.value.map (fun v => decide (c.trailer = leBytes 8 v))
      else c.verdict } := by
  by_cases has : HasKey c
  · rw [compare_eq ((usable_iff sound).mpr has)]
    rw [if_congr (and_iff_right has) rfl rfl]
  · have idle : c.compare = c := by
      rw [InContext.compare, if_neg]
      simp [InContext.awaitsTag, usable_eq_false sound has]
    simp only [idle, has, false_and, if_false]

theorem takeTrailer_of_ready (sound : c.streamFault = false)
    (ready : ¬(c.usable = true ∧ c.early = some .quarantined ∧ c.tag.keys = none)) :
    s.takeTrailer l c h b = some (s.setIn l (some { c with
      next := c.next + 1, trailer := c.trailer ++ [b]
      verdict := if HasKey c ∧ (c.trailer ++ [b]).length = 8 ∧ c.verdict = none then
          c.tag.value.map (fun v => decide (c.trailer ++ [b] = leBytes 8 v))
        else c.verdict }),
      if c.early = some .tooLong ∧ c.capacity < 24 + h.len then 0 else b) := by
  have compared := compare_cases { c with next := c.next + 1, trailer := c.trailer ++ [b] } sound
  rw [State.takeTrailer, if_neg ready]
  dsimp only
  rw [compared]
  rfl

end trailer

/-! ### Notices (R93) -/

section notices
variable {s : State} {l : LinkSlot} {c : InContext}

/-- The frame as a notice leaves it. -/
def lostFrame (c : InContext) (code : PartCode) : InContext :=
  { c with lost := some code, keystream := { c.keystream with held := [], wanted := [] } }

theorem loseIn_of_taking (hc : (s.link l).inContext = some c) (takes : TakesNotice c) (code : PartCode) :
    s.loseIn l code = ({ s with cipher := s.cipher.withdraw (.inbound l) c.ident }).setIn l
      (some (lostFrame c code)) := by
  obtain ⟨kept, fresh, receiving⟩ := takes
  have none : ¬(c.lost.isSome = true ∨ c.early = some .replay ∨ c.phase ≠ .receiving) := by
    simp [kept, fresh, receiving]
  simp only [State.loseIn, hc]
  exact if_neg none

theorem noticeIn_of_other (hc : (s.link l).inContext = some c) {ref : KeyRef} (other : c.keyRef ≠ some ref) :
    s.noticeIn l ref = s := by
  simp only [State.noticeIn, hc, if_neg other]

theorem noticeIn_of_named (hc : (s.link l).inContext = some c) {ref : KeyRef} (named : c.keyRef = some ref) :
    s.noticeIn l ref = s.loseIn l .keyLost := by
  simp only [State.noticeIn, hc, if_pos named]

/-- The requests left when those of one context are withdrawn. -/
theorem withdraw_queue (x : CipherUnit) (r : Requester) (ident : Nat) :
    (x.withdraw r ident).queue r = (x.queue r).filter (fun q => q.ident != ident) := by
  simp [CipherUnit.withdraw, CipherUnit.setQueue, CipherUnit.queue]

theorem exec_drainEnd_of_zero {k : KeyIndex} (draining : s.drainingKey l = some k)
    (zero : (s.key k).drain = some 0) :
    exec (.drainEnd l) s = .next (emptied s k .drainEnd).resume := by
  refine exec_drainEnd_of_test ((drainEndTest_of_zero draining zero).trans (retire_of_not_current _ ?_))
  rw [drainingKey_state draining]
  rfl

/-- The retirement of the key that a frame takes notices of loses the frame. -/
theorem retireSlot_of_taking {k : KeyIndex} {d : ReportDetail} (hc : (s.link l).inContext = some c)
    (takes : TakesNotice c) (link : (s.key k).link = l) (named : c.keyRef = some ((s.key k).ref k)) :
    ((s.retireSlot k d).link l).inContext = some (lostFrame c .keyLost) := by
  have here : (((s.setKey k KeySlot.empty).noticeOut l ((s.key k).ref k)).link l).inContext = some c :=
    (noticeOut_inContext (s.setKey k KeySlot.empty) l _ _).trans hc
  rw [State.retireSlot, link, post_link, noticeIn_of_named here named, loseIn_of_taking here takes, setIn_inContext]

end notices

/-! ### The code of a settlement (R94) -/

section codes
variable {c : InContext} (total : Nat)

theorem code_of_early {early : PartCode} (is : c.early = some early)
    (stands : early ≠ .quarantined ∨ c.verdict ≠ some true) : c.code total = some early := by
  have notBoth : ¬(early = .quarantined ∧ c.verdict = some true) := fun h => stands.elim (· h.1) (· h.2)
  simp only [InContext.code, is, if_neg notBoth]

theorem code_of_quarantine (is : c.early = some .quarantined) (good : c.verdict = some true) :
    c.code total = none := by
  simp only [InContext.code, is, good, and_self, if_true]

variable (fresh : c.early = none)
include fresh

theorem code_of_lost {code : PartCode} (is : c.lost = some code) : c.code total = some code := by
  simp only [InContext.code, fresh, is]

variable (kept : c.lost = none)
include kept

theorem code_of_fault (faulted : c.streamFault = true) : c.code total = some .streamFault := by
  simp only [InContext.code, fresh, kept, faulted, if_true]

variable (sound : c.streamFault = false)
include sound

theorem code_of_no_header (none : c.header = none) : c.code total = some .tooShort := by
  simp only [InContext.code, fresh, kept, sound, Bool.false_eq_true, if_false, none]

/-- The code of a whole frame: by its length, then by its verdict. -/
theorem code_of_header {h : Header} (parsed : c.header = some h) : c.code total =
    if c.next < 24 + h.len ∨ total < 24 + h.len then some .tooShort
    else if 24 + h.len < total then some .streamFault
    else if c.verdict = some true then none
    else some .tagMismatch := by
  simp only [InContext.code, fresh, kept, sound, Bool.false_eq_true, if_false, parsed, extentLength] <;> rfl

end codes

end Sys2Proof.Proofs.InboundBytes
end


section
/-! PROOFS. Confirmations, verified frames, inbound bytes, notices and settlement codes, put together. -/

namespace Sys2Proof.Proofs.ConfirmedFrames
open Sys2Proof Sys2Proof.Machine
open Sys2Proof.Proofs.StillRecords Sys2Proof.Proofs.KeyStandings
open Sys2Proof.Proofs.SlotsAndResults Sys2Proof.Proofs.RenewalJobs Sys2Proof.Proofs.KeyChanges
open Sys2Proof.Proofs.CipherTaking Sys2Proof.Proofs.SequenceRequests
open Sys2Proof.Proofs.DrainLimit Sys2Proof.Proofs.StoreAnswers
open Sys2Proof.Proofs.Settlement Sys2Proof.Proofs.Confirmation Sys2Proof.Proofs.VerifiedFrames
open Sys2Proof.Proofs.InboundBytes

/-! ### The key that a confirmed frame marks -/

section key
variable {s : State} {l : LinkSlot} {k : KeyIndex} {q : Seq}

theorem marked_key_window : ((marked s l k q).key k).window = (s.key k).window.mark q := by
  rw [marked_key_self, inForce_state]
  split <;> rfl

theorem marked_key_state : ((marked s l k q).key k).state =
    if (s.key k).state = .pending then .active else (s.key k).state := by
  rw [marked_key_self, inForce_state]
  split <;> rfl

theorem marked_key_age (pending : (s.key k).state = .pending) :
    ((marked s l k q).key k).age = some 0 := by
  rw [marked_key_self, inForce_state, if_pos pending]

end key

/-! ### What a frame that is not confirmed leaves -/

theorem settleWith_facts (s : State) (l : LinkSlot) (c : InContext) (code : PartCode) :
    let u := s.settleWith l c code
    u.keys.table = s.keys.table ∧ (u.link l).inContext = none ∧
      u.mail.statuses = s.mail.statuses ++ [⟨l, true, code.byte, false⟩] ∧
      u.mail.arrivals = s.mail.arrivals ∧ u.still = s.still := by
  obtain ⟨more, grown⟩ := endSettlement_mail s l c code.byte false
  refine ⟨congrArg KeyUnit.table (endSettlement_keys s l c code.byte false), ?_, ?_, ?_,
    still_settleWith s l c code⟩
  · rw [State.settleWith, endSettlement_link]
  · rw [State.settleWith, grown]
  · rw [State.settleWith, grown]

/-- What a confirmed frame leaves. -/
theorem verified_facts (s : State) (l : LinkSlot) (c : InContext) (cls : Byte) :
    let u := s.verified l c cls
    (u.link l).state = (s.link l).state ∧ (u.link l).lastArrival = some s.time.seconds ∧
      u.mail.arrivals = s.mail.arrivals ++ [l] ∧ u.still = s.still := by
  have kept := arrivals_verified l s c cls
  exact ⟨congrArg Prod.fst kept, congrArg (fun z => z.2.1) kept, congrArg (fun z => z.2.2) kept,
    still_verified s l c cls⟩

/-! ### From the state in which the request is taken to the one before -/

section before
variable {s t u : State} {l : LinkSlot} {c : InContext}

/-- Two states agree in what a confirmed frame of a link reads, but for the key table. -/
structure Alike (l : LinkSlot) (s t : State) : Prop where
  link : t.link l = s.link l
  rings : t.rings = s.rings
  mail : t.mail = s.mail
  internal : t.internal = s.internal
  jobs : t.keys.jobs = s.keys.jobs
  ident : t.nextIdent = s.nextIdent

theorem alike_marked {k : KeyIndex} {q : Seq} (requests : List KeyRequest)
    (standing : (s.key k).state ≠ .pending) : Alike l s (marked (tookRequest s requests) l k q) := by
  have same := marked_of_standing (s := tookRequest s requests) (l := l) (q := q) standing
  rw [same]
  exact ⟨setKey_link _ _ _ _, rfl, rfl, rfl, rfl, rfl⟩

theorem acceptable_marked {k : KeyIndex} {q : Seq} (requests : List KeyRequest)
    (standing : (s.key k).state ≠ .pending) (j : Job) :
    Acceptable (marked (tookRequest s requests) l k q) j ↔ Acceptable s j := by
  have same := marked_of_standing (s := tookRequest s requests) (l := l) (q := q) standing
  rw [same]
  refine acceptable_congr fun i => ?_
  by_cases e : k = i
  · rw [← e, State.setKey_key_self]
    exact ⟨rfl, rfl, rfl⟩
  · rw [State.setKey_key_ne _ _ e]
    exact ⟨rfl, rfl, rfl⟩

variable (alike : Alike l s t)
include alike

theorem ended_of_alike {code : Byte} (h : Ended t l c code u) : Ended s l c code u :=
  h.of_before (by rw [alike.link]) alike.rings (by rw [alike.mail])

theorem endsWith_of_alike {code : Byte} {beacons : List (LinkSlot × List Byte)}
    (h : EndsWith t u l c code beacons) : EndsWith s u l c code beacons := by
  obtain ⟨ended, filter, last, same⟩ := h
  exact ⟨ended_of_alike alike ended, filter, by rw [last, alike.link], same⟩

theorem refused_of_alike {payload : List Byte} {code : PartCode} (h : Refused t u l c payload code) :
    Refused s u l c payload code := by
  unfold Refused State.ring at h ⊢
  rwa [alike.link, alike.rings, alike.mail] at h

theorem renewalJob_of_alike (h : Header) (payload : List Byte) :
    renewalJob t l c h payload = renewalJob s l c h payload := by
  simp only [renewalJob, alike.ident]

end before

/-- What a handed-over renewal leaves, before its job starts. -/
theorem handedOver_facts (s : State) (l : LinkSlot) (c : InContext) (h : Header) (payload : List Byte) :
    let u := handedOver (arrivedAt s l) l c h payload
    (u.link l).inContext = none ∧ (u.link l).filter = 0 ∧ u.mail.statuses = s.mail.statuses ∧
      u.internal = s.internal := by
  refine ⟨?_, ?_, ?_, handedOver_internal _ _ _ _ _⟩
  · rw [handedOver_link]
  · rw [handedOver_link, arrivedAt_link]
  · rw [handedOver_mail]
    rfl

/-- Settles O37: the two confirmations, the verified frame by class, the bytes of payload and trailer, the
retirement notice, and the code of a settlement. -/
theorem confirmationsMarkTheFrame : Obligations.ConfirmationsMarkTheFrame := by
  refine ⟨?settle, ?commit, ?classes, ?bytes, ?notices, ?codes⟩
  case settle =>
    intro s l c h k epoch n q before rest waits others hc confirming parsed
    have runs := exec_settleRequest_of_first waits others
    have gone (out : s.holds k l epoch n = false) := answerSettle_of_gone
      (s := tookRequest s (before ++ rest)) (q := q) hc confirming out
    refine ⟨fun held => ?_, fun out kept => ?_, fun out kept => ?_⟩
    · obtain ⟨-, link, sameEpoch, -⟩ := (holds_iff s k l epoch n).mp held
      rw [answerSettle_of_held (s := tookRequest s (before ++ rest)) hc confirming held parsed] at runs
      have key (j : KeyIndex) := key_of_table
        (verified_table l (marked (tookRequest s (before ++ rest)) l k q) c h.cls) j
      obtain ⟨state, arrival, heard, still⟩ :=
        verified_facts (marked (tookRequest s (before ++ rest)) l k q) l c h.cls
      have stillMarked := still_marked (s := tookRequest s (before ++ rest)) (l := l) (k := k) (q := q)
      have reports := subset_verified l (marked (tookRequest s (before ++ rest)) l k q) c h.cls
      refine ⟨_, runs, ?_, ?_, fun pending => ⟨?_, fun late => ?_, fun p current => ⟨?_, ?_, ?_⟩, ?_, ?_⟩,
        ?_, ?_, still.trans stillMarked⟩
      · rw [key, marked_key_window]
        rfl
      · rw [key, marked_key_state]
        rfl
      · rw [key, marked_key_age (s := tookRequest s (before ++ rest)) pending]
      · rw [state]
        exact marked_link_state (s := tookRequest s (before ++ rest)) pending late
      · have posted := mem_activate (tookRequest s (before ++ rest)) l k .receive
        rw [show (tookRequest s (before ++ rest)).currentKey l = some p from current] at posted
        exact reports (mem_marked (s := tookRequest s (before ++ rest)) pending (sameEpoch ▸ posted))
      · intro overlap
        rw [key, marked_of_current (s := tookRequest s (before ++ rest)) pending current, supersededKey]
        exact if_neg overlap
      · intro overlap
        rw [key, marked_of_current (s := tookRequest s (before ++ rest)) pending current, supersededKey]
        exact ⟨if_pos overlap, reports (mem_marked (s := tookRequest s (before ++ rest)) pending
          (mem_activate_superseded current overlap))⟩
      · intro alone
        have posted := mem_activate (tookRequest s (before ++ rest)) l k .receive
        rw [show (tookRequest s (before ++ rest)).currentKey l = none from alone] at posted
        exact reports (mem_marked (s := tookRequest s (before ++ rest)) pending (sameEpoch ▸ posted))
      · intro d draining
        rw [key, marked_of_draining (s := tookRequest s (before ++ rest)) pending draining]
        exact ⟨rfl, reports (mem_marked (s := tookRequest s (before ++ rest)) pending
          (mem_activate_cut draining))⟩
      · rw [arrival, time_eq_of_still stillMarked]
        rfl
      · rw [heard]
        exact List.mem_append_right _ (List.mem_singleton.mpr rfl)
    · rw [gone out, kept] at runs
      exact ⟨_, runs, settleWith_facts (tookRequest s (before ++ rest)) l c .keyLost⟩
    · rw [gone out, kept] at runs
      exact ⟨_, runs, settleWith_facts (tookRequest s (before ++ rest)) l c .quarantined⟩
  case commit =>
    intro s l c h k n q rest head hc confirming parsed fresh
    let t : State := { s with store := s.store.tookHead (.receiveCommit l c.ident k n q) rest }
    have runs : exec .receiveCommit s = .next (t.receiveCommit l c.ident k n q).resume :=
      exec_receiveCommit_of_head head
    have refused (code : PartCode) : t.confirmAnswered l c.ident (some code) = t.settleWith l c code := by
      rw [confirmAnswered_of_gone (s := t) hc confirming, fresh]
      rfl
    refine ⟨fun live loaded same higher => ?_, fun live loaded same lower => ?_, fun gone => ?_⟩
    · rw [receiveCommit_of_higher (s := t) live loaded same higher,
        confirmAnswered_of_done (s := t.setKek k { t.kek k with highWater := q }) hc confirming parsed] at runs
      obtain ⟨-, arrival, heard, still⟩ :=
        verified_facts (t.setKek k { t.kek k with highWater := q }) l c h.cls
      refine ⟨_, runs, still.trans rfl, arrival, ?_⟩
      rw [heard]
      exact List.mem_append_right _ (List.mem_singleton.mpr rfl)
    · rw [receiveCommit_of_lower (s := t) live loaded same lower, refused] at runs
      obtain ⟨-, closed, statuses, -, still⟩ := settleWith_facts t l c .replay
      exact ⟨_, runs, still, closed, statuses⟩
    · rw [receiveCommit_of_gone (s := t) gone, refused] at runs
      obtain ⟨-, closed, statuses, -, still⟩ := settleWith_facts t l c .kekAbsent
      exact ⟨_, runs, still, closed, statuses⟩
  case classes =>
    intro s l c h k n q before rest waits others hc confirming parsed held standing ends
    have runs := exec_settleRequest_of_first waits others
    rw [answerSettle_of_held (s := tookRequest s (before ++ rest)) hc confirming held parsed] at runs
    have alike := alike_marked (l := l) (q := q) (before ++ rest) standing
    have sameChoice := acceptable_marked (l := l) (q := q) (before ++ rest) standing
    generalize marked (tookRequest s (before ++ rest)) l k q = m at runs alike sameChoice
    have context : (m.link l).inContext = some c := by rw [alike.link]; exact hc
    have whole {code : Byte} {beacons : List (LinkSlot × List Byte)}
        (done : EndsWith m (m.verified l c h.cls) l c code beacons) :
        ends (m.verified l c h.cls) code ∧ ((m.verified l c h.cls).link l).filter = 0 ∧
          ((m.verified l c h.cls).link l).lastKeepalive = (s.link l).lastKeepalive ∧
          (m.verified l c h.cls).mail.beacons = beacons := by
      obtain ⟨ended, others⟩ := endsWith_of_alike alike done
      exact ⟨⟨runs, ended⟩, others⟩
    have beacons : m.mail.beacons = s.mail.beacons := by rw [alike.mail]
    refine ⟨fun kept => ⟨_, beacons ▸ whole (endsWith_of_outcome kept)⟩, fun fresh =>
      ⟨fun plain => ⟨_, beacons ▸ whole (endsWith_of_plain fresh plain)⟩,
        fun payload beacon had => ⟨_, beacons ▸ whole (endsWith_of_beacon fresh beacon had)⟩,
        ?keepalive, ?queue, ?starts, ?waits⟩⟩
    case keepalive =>
      intro plain keepalive had masked same
      have filtered := ended_of_keepalive (s := m) (l := l) fresh keepalive had
      dsimp only at filtered
      rw [alike.link, beacons] at filtered
      obtain ⟨ended, more⟩ := filtered
      exact ⟨_, ⟨runs, ended_of_alike alike ended⟩, more⟩
    case queue =>
      intro payload renewal had free ⟨j, jobs, head, running⟩
      rw [verified_of_queue context parsed fresh renewal had (alike.jobs.trans head) running
        (by rwa [alike.jobs])] at runs
      obtain ⟨closed, filter, statuses, internal⟩ := handedOver_facts m l c h payload
      refine ⟨_, runs, closed, filter, statuses.trans (by rw [alike.mail]), internal.trans alike.internal,
        ?_, fun r ring hr had within => ?_⟩
      · rw [handedOver_jobs, show (arrivedAt m l).keys.jobs = s.keys.jobs from alike.jobs,
          show renewalJob (arrivedAt m l) l c h payload = renewalJob s l c h payload from
            renewalJob_of_alike alike h payload]
        rfl
      · rw [handedOver_slot (s := arrivedAt m l) h payload (by rw [arrivedAt_link, alike.link]; exact hr)
          (show m.rings[r] = some ring by rw [alike.rings]; exact had) within, frame_of_header parsed,
          show (arrivedAt m l).slot r c.slot = s.slot r c.slot from slot_eq_of_rings alike.rings r c.slot] <;> rfl
    case starts =>
      intro payload renewal had alone e acceptable refused
      have alone' : m.keys.jobs = [] := alike.jobs.trans alone
      have sameJob := renewalJob_of_alike (c := c) alike h payload
      have choice : Acceptable m (renewalJob m l c h payload) ↔ acceptable := by
        rw [sameChoice, sameJob]
        rfl
      have refuses {code : PartCode}
          (which : code ∈ [PartCode.staleEpoch, .kekAbsent, .checkMismatch, .badRenewal])
          (step : m.verified l c h.cls =
            endedJob (handedOver (arrivedAt m l) l c h payload) (renewalJob m l c h payload) code) :
          refused code := by
        rw [step] at runs
        exact ⟨_, runs, refused_of_alike alike (refused_endedJob alone' which)⟩
      refine ⟨fun not => refuses (by simp) (verified_of_stale context parsed fresh renewal had alone'
          (fun is => not (choice.mp is))),
        fun is bad => refuses (by simp) (verified_of_bad_slot context parsed fresh renewal had alone'
          (choice.mpr is) bad), fun i is named => ?_⟩
      rw [verified_of_good context parsed fresh renewal had alone' (choice.mpr is) named, sameJob] at runs
      obtain ⟨closed, -, statuses, internal⟩ := handedOver_facts m l c h payload
      refine ⟨_, runs, closed, statuses.trans (by rw [alike.mail]), internal.trans alike.internal, rfl, ?_⟩
      rw [alike.ident]
      exact mem_ask _ _
    case waits =>
      intro payload j jobs renewal had head running busy
      rw [verified_of_busy context parsed fresh renewal had (alike.jobs.trans head) running
        (by rwa [alike.jobs])] at runs
      refine ⟨_, runs, setIn_inContext _ _ _, alike.jobs, ?_, alike.internal⟩
      rw [← alike.mail]
      rfl
  case bytes =>
    intro s l c h x b hc receiving free sound parsed next taken usable
    have iff : c.usable = true ↔ usable := usable_iff sound
    refine ⟨fun low inside => ?_, fun past inside => ?_⟩
    · intro o tag
      have step : taken = s.takePayload l c h o b := takeByte_of_payload free sound parsed next inside
      rw [step, next]
      refine ⟨fun no => takePayload_of_no_key (usable_eq_false sound no) o, fun has =>
        ⟨fun keyless => takePayload_of_no_tag (iff.mpr has) keyless o, fun keyed =>
        ⟨fun quarantined => takePayload_of_quarantine (iff.mpr has) keyed quarantined o, fun fresh =>
        ⟨fun missing => takePayload_of_no_block (iff.mpr has) keyed fresh missing, fun block had =>
          takePayload_of_block (iff.mpr has) keyed fresh parsed had⟩⟩⟩⟩
    · intro trailer
      have step : taken = s.takeTrailer l c h b := takeByte_of_trailer free sound parsed next past inside
      rw [step, next]
      refine ⟨fun has quarantined keyless => takeTrailer_of_no_tag ⟨iff.mpr has, quarantined, keyless⟩,
        fun ready => takeTrailer_of_ready sound fun ⟨has, rest⟩ => ready ⟨iff.mp has, rest⟩⟩
  case notices =>
    intro s l c k hc lost takes
    refine ⟨fun ref => ⟨fun out => ?_, fun named is => ?_⟩, fun draining zero named => ?_⟩
    · by_cases named : c.keyRef = some ref
      · rw [noticeIn_of_named hc named]
        exact loseIn_of_deaf hc (out.resolve_left (fun other => other named)) _
      · exact noticeIn_of_other hc named
    · refine ⟨_, (noticeIn_of_named hc named).trans (loseIn_of_taking hc is _), setIn_inContext _ _ _,
        fun m ne => setIn_link_ne _ _ ne, ?_, rfl, ?_, rfl, rfl⟩
      · exact withdraw_queue s.cipher (.inbound l) c.ident
      · exact still_setIn _ _ _
    · have link := drainingKey_link draining
      have ref : c.keyRef = some ((s.key k).ref k) := by rw [named, KeySlot.ref, link]
      exact ⟨_, exec_drainEnd_of_zero draining zero, emptied_key_self s k .drainEnd,
        fun is => retireSlot_of_taking hc is link ref, fun not => retireSlot_of_deaf hc not k _⟩
  case codes =>
    intro c total len
    refine ⟨fun early is stands => code_of_early total is stands, code_of_quarantine total, fun fresh =>
      ⟨fun code is => code_of_lost total fresh is, fun kept => ⟨code_of_fault total fresh kept, fun sound => ?_⟩⟩⟩
    cases parsed : c.header with
    | none =>
      have short := code_of_no_header total fresh kept sound parsed
      simp [short]
    | some h =>
      have whole := code_of_header total fresh kept sound parsed
      have length : len = 24 + h.len := by simp only [len, parsed]
      rw [length, whole]
      refine ⟨fun out => if_pos (out.resolve_left (by simp)), fun _ reached more => ?_,
        fun _ reached exact_ => ⟨fun bad => ?_, fun good => ?_⟩⟩
      · rw [if_neg (by omega), if_pos more]
      · rw [if_neg (by omega), if_neg (by omega), if_neg (by simp [bad])]
      · rw [if_neg (by omega), if_neg (by omega), if_pos good]

end Sys2Proof.Proofs.ConfirmedFrames
end


section
/-! PROOFS. KEY_SELECTION and KEK_SELECTION (R85 to R88): what the answer to a header check does to the frame. -/

namespace Sys2Proof.Proofs.Selections
open Sys2Proof Sys2Proof.Machine
open Sys2Proof.Proofs.StillRecords Sys2Proof.Proofs.KeyStandings
open Sys2Proof.Proofs.CommandAnswers Sys2Proof.Proofs.CipherTaking
open Sys2Proof.Proofs.SequenceRequests Sys2Proof.Proofs.StoreAnswers Sys2Proof.Proofs.Confirmation
open Sys2Proof.Proofs.InboundBytes

/-! ### The frame after the answer -/

section keys
variable (s : State) (l : LinkSlot)

@[simp] theorem setIn_keys (x : Option InContext) : (s.setIn l x).keys = s.keys := rfl

@[simp] theorem feedIn_keys : (s.feedIn l).keys = s.keys := by
  unfold State.feedIn
  (repeat' split) <;> rfl

@[simp] theorem moveInWindow_keys (w : Nat) : (s.moveInWindow l w).keys = s.keys := by
  unfold State.moveInWindow
  (repeat' split) <;> simp

@[simp] theorem selectionAnswered_keys (ident : Nat) (a : Selection) :
    (s.selectionAnswered l ident a).keys = s.keys := by
  unfold State.selectionAnswered
  dsimp only
  (repeat' split) <;> simp

end keys

theorem quarantineRefuses_iff (x : Link) (cls : Byte) : quarantineRefuses x cls = true ↔
    x.state = .quarantined ∧ (cls = 0x00#8 ∨ cls = 0x04#8) := by
  simp [quarantineRefuses, FrameClass.code]

section answered
variable {s : State} {l : LinkSlot} {c : InContext} (hc : (s.link l).inContext = some c)
  (asking : c.asking = true)
include hc asking

theorem selectionAnswered_of_refused (code : PartCode) :
    s.selectionAnswered l c.ident (.refused code) =
      s.setIn l (some { c with asking := false, early := some code }) := by
  simp only [State.selectionAnswered, hc, asking, and_self, if_true]

theorem selectionAnswered_of_replayed (ref : KeyRef) :
    s.selectionAnswered l c.ident (.replayed ref) =
      s.setIn l (some { c with asking := false, keyRef := some ref, early := some .replay }) := by
  simp only [State.selectionAnswered, hc, asking, and_self, if_true]

/-- A selected key is recorded; in quarantine DATA and REPORT are refused with it. -/
theorem selectionAnswered_of_selected {h : Header} (parsed : c.header = some h) (ref : KeyRef) :
    ∃ k : Keystream, ((s.selectionAnswered l c.ident (.selected ref)).link l).inContext = some { c with
      asking := false, keyRef := some ref, keystream := k
      early := if (s.link l).state = .quarantined ∧ (h.cls = 0x00#8 ∨ h.cls = 0x04#8) then
        some .quarantined else c.early } := by
  let chosen : InContext := { c with asking := false, keyRef := some ref, keystream := ⟨0, [], [0]⟩ }
  have step : s.selectionAnswered l c.ident (.selected ref) =
      if quarantineRefuses (s.link l) h.cls then
        (s.setIn l (some { chosen with early := some .quarantined })).feedIn l
      else if h.len = 0 then (s.setIn l (some chosen)).feedIn l
      else (s.setIn l (some chosen)).moveInWindow l 1 := by
    unfold State.selectionAnswered
    rw [hc]
    dsimp only
    rw [if_pos ⟨rfl, asking⟩]
    split
    · next none => cases parsed.symm.trans none
    · next x is =>
      cases Option.some.inj (parsed.symm.trans is)
      rfl
  rw [step]
  by_cases refused : quarantineRefuses (s.link l) h.cls = true
  · rw [if_pos refused, if_pos ((quarantineRefuses_iff _ _).mp refused)]
    obtain ⟨wanted, fed⟩ := feedIn_inContext
      (setIn_inContext s l (some { chosen with early := some .quarantined }))
    exact ⟨_, fed⟩
  · rw [if_neg refused, if_neg fun both => refused ((quarantineRefuses_iff _ _).mpr both)]
    split
    · obtain ⟨wanted, fed⟩ := feedIn_inContext (setIn_inContext s l (some chosen))
      exact ⟨_, fed⟩
    · obtain ⟨k, -, moved⟩ := moveInWindow_inContext 1 (setIn_inContext s l (some chosen))
        (show chosen.header = some h from parsed)
      exact ⟨k, moved⟩

end answered

/-! ### KEY_SELECTION (R85, R87) -/

/-- The key slot holds a key of the link with the epoch. -/
def HoldsEpoch (s : State) (l : LinkSlot) (epoch : Half) (k : KeyIndex) : Prop :=
  (s.key k).state ≠ .empty ∧ (s.key k).link = l ∧ (s.key k).epoch = epoch

section select
variable {s : State} {l : LinkSlot} {epoch : Half} {q : Seq} {k : KeyIndex}

theorem early_eq_false (x : KeySlot) (t : TimeBase) : x.early t = false ↔ t.valid = true ∧
    ∃ a, x.activation = some a ∧ t.seconds.toNat < a.toNat - x.earlyGrace := by
  unfold KeySlot.early
  cases x.activation with
  | none => simp
  | some a =>
    simp only [Bool.or_eq_false_iff, Bool.not_eq_false', decide_eq_false_iff_not, Option.some.injEq,
      exists_eq_left', Nat.not_le]

theorem selectKey_of_none (none : ∀ k, ¬HoldsEpoch s l epoch k) :
    s.selectKey l epoch q = .refused .noKey := by
  have absent : allKeySlots.find? (fun k =>
      (s.key k).state != .empty && (s.key k).link == l && (s.key k).epoch == epoch) = Option.none := by
    refine List.find?_eq_none.mpr fun k _ found => none k ?_
    simpa [HoldsEpoch, and_assoc] using found
  simp only [State.selectKey, absent]

theorem selectKey_of_first (held : HoldsEpoch s l epoch k) (first : ∀ j, j < k → ¬HoldsEpoch s l epoch j) :
    s.selectKey l epoch q =
      if (s.key k).state = .pending ∧ (s.key k).early s.time = false then .refused .earlyEpoch
      else if (s.key k).window.passes q then .selected ((s.key k).ref k)
      else .replayed ((s.key k).ref k) := by
  have found : allKeySlots.find? (fun k =>
      (s.key k).state != .empty && (s.key k).link == l && (s.key k).epoch == epoch) = some k := by
    refine find?_of_first allKeySlots_sorted (mem_allKeySlots k) ?_ fun j lower => ?_
    · simpa [HoldsEpoch, and_assoc] using held
    · have := first j lower
      rw [Bool.eq_false_iff]
      simpa [HoldsEpoch, and_assoc] using this
  simp only [State.selectKey, found]

theorem exec_keySelection_of_first {before rest : List KeyRequest} {ident : Nat}
    (waits : s.keys.requests = before ++ .selection l ident epoch q :: rest)
    (others : ∀ q ∈ before, q.isSelection l = false) : exec (.keySelection l) s =
    .next ((tookRequest s (before ++ rest)).selectionAnswered l ident (s.selectKey l epoch q)).resume := by
  have taken := takeKeyRequest_of_first waits others
    (show KeyRequest.isSelection l _ = true from beq_self_eq_true l)
  change execKeySelection l s = _
  simp only [execKeySelection, taken]
  rfl

end select

/-! ### KEK_SELECTION (R86) -/

section kek
variable {s : State} {l : LinkSlot} {k : KekIndex} {q : Seq}

theorem exec_kekSelection_of_head {rest : List StoreRequest} {ident : Nat}
    (head : s.store.requests = .selection l ident k q :: rest) :
    exec .kekSelection s = .next (({ s with
      store := s.store.tookHead (.selection l ident k q) rest } : State).selectionAnswered l ident
        (s.selectKek k q)).resume := by
  change execKekSelection s = _
  simp only [execKekSelection, takeRequest_of_head head]
  rfl

theorem selectKek_of_unusable (h : s.store.marker = .parked ∨ (s.kek k).state ≠ .loaded) :
    s.selectKek k q = .refused .kekAbsent := if_pos (kekUsable_eq_false h)

theorem selectKek_of_usable (live : s.store.marker = .live) (loaded : (s.kek k).state = .loaded) :
    s.selectKek k q = if (s.kek k).highWater.toNat < q.toNat then .selected (s.kekRef k)
      else .replayed (s.kekRef k) := by
  rw [State.selectKek, (kekUsable_iff s k).mpr ⟨live, loaded⟩]
  rfl

end kek

end Sys2Proof.Proofs.Selections
end


section
/-! PROOFS. The bytes of an open inbound frame up to its header (R83 to R86), and what a stream fault changes. -/

namespace Sys2Proof.Proofs.HeaderBytes
open Sys2Proof Sys2Proof.Machine
open Sys2Proof.Proofs.CipherTaking Sys2Proof.Proofs.SequenceRequests
open Sys2Proof.Proofs.InboundBytes

/-! ### Held bytes and stream faults (R83, R84) -/

/-- The frame after a stream fault. -/
def faultedFrame (c : InContext) : InContext :=
  { c with streamFault := true, keystream := { c.keystream with held := [], wanted := [] } }

section fault
variable {s : State} {l : LinkSlot} {c : InContext} (hc : (s.link l).inContext = some c)
include hc

theorem streamFaultIn_of_open : s.streamFaultIn l =
    ({ s with cipher := s.cipher.withdraw (.inbound l) c.ident }).setIn l (some (faultedFrame c)) := by
  simp only [State.streamFaultIn, hc]
  rfl

/-- A stream fault changes the frame and withdraws its requests. -/
theorem streamFaultIn_facts : let t := s.streamFaultIn l
    (t.link l).inContext = some (faultedFrame c) ∧ (∀ m, m ≠ l → t.link m = s.link m) ∧
      t.cipher.queue (.inbound l) =
        (s.cipher.queue (.inbound l)).filter (fun q => q.ident != c.ident) ∧
      t.still = s.still ∧ t.keys = s.keys ∧ t.mail = s.mail := by
  intro t
  have step : t = _ := streamFaultIn_of_open hc
  rw [step]
  exact ⟨setIn_inContext _ _ _, fun m ne => setIn_link_ne _ _ ne,
    withdraw_queue s.cipher (.inbound l) c.ident, still_setIn _ _ _, rfl, rfl⟩

end fault

section taking
variable {s : State} {l : LinkSlot} {c : InContext} {x : Nat} {b : Byte}

theorem takeByte_of_asking (receiving : c.phase = .receiving) (asking : c.asking = true) :
    s.takeByte l c x b = none := if_pos (by simp [InContext.holds, receiving, asking])

variable (free : c.holds = false)
include free

theorem takeByte_of_fault (faulted : c.streamFault = true) : s.takeByte l c x b = some (s, 0) := by
  rw [State.takeByte, if_neg (by simp [free]), if_pos faulted]

variable (sound : c.streamFault = false)
include sound

theorem takeByte_of_gap (other : x ≠ c.next) : s.takeByte l c x b = some (s.streamFaultIn l, 0) := by
  rw [State.takeByte, if_neg (by simp [free]), if_neg (by simp [sound]), if_pos other]

variable (next : x = c.next)
include next

theorem takeByte_of_excess {h : Header} (parsed : c.header = some h) (past : 24 + h.len ≤ x) :
    s.takeByte l c x b = some (s.streamFaultIn l, 0) := by
  have extent : extentLength h.len ≤ x := past
  rw [State.takeByte, if_neg (by simp [free]), if_neg (by simp [sound]), if_neg (by simp [next]), parsed]
  exact (if_neg (by omega)).trans (if_neg (by omega))

theorem takeByte_of_header (unparsed : c.header = none) :
    s.takeByte l c x b = some (s.takeHeader l c x b, b) := by
  rw [State.takeByte, if_neg (by simp [free]), if_neg (by simp [sound]), if_neg (by simp [next]), unparsed]

end taking

/-! ### The header checks (R84) -/

theorem ofCode?_code (cls : FrameClass) : FrameClass.ofCode? cls.code = some cls := by
  cases cls <;> rfl

theorem code_of_ofCode? {b : Byte} {cls : FrameClass} (h : FrameClass.ofCode? b = some cls) :
    cls.code = b := by
  unfold FrameClass.ofCode? at h
  (repeat' split at h) <;> cases h <;> simp_all [FrameClass.code]

theorem ofCode?_eq_none_iff (b : Byte) : FrameClass.ofCode? b = none ↔ 4 < b.toNat := by
  have unknown : FrameClass.ofCode? b = none ↔ b ≠ 0 ∧ b ≠ 1 ∧ b ≠ 2 ∧ b ≠ 3 ∧ b ≠ 4 := by
    unfold FrameClass.ofCode?
    (repeat' split) <;> simp_all
  rw [unknown]
  bv_omega

/-- The first failed check of R84 (checks 1 to 5), as a code. -/
def failedCheck (x : Link) (capacity : Nat) (h : Header) : Option PartCode :=
  if h.format ≠ 0x01#8 then some .badClass
  else if x.wireId ≠ some h.wireId then some .misdirected
  else if 4 < h.cls.toNat then some .badClass
  else if x.maxPayload < h.len ∨ capacity < 24 + h.len then some .tooLong
  else if (h.cls = 0x01#8 ∨ h.cls = 0x03#8) ∧ h.len ≠ 8 then some .badClass
  else if h.cls = 0x02#8 ∧ h.len ≠ 56 then some .badRenewal
  else none

/-- The length check of a class (R84, check 5). -/
theorem classLength_check {cls : FrameClass} {h : Header} (named : cls.code = h.cls) :
    (if (classLength cls).any (· ≠ h.len) then
        (.inl (if cls = .renewal then .badRenewal else .badClass) : PartCode ⊕ FrameClass)
      else .inr cls) =
    if (h.cls = 0x01#8 ∨ h.cls = 0x03#8) ∧ h.len ≠ 8 then .inl .badClass
    else if h.cls = 0x02#8 ∧ h.len ≠ 56 then .inl .badRenewal
    else .inr cls := by
  rw [← named]
  cases cls <;> simp [classLength, FrameClass.code, @eq_comm Nat h.len]

theorem headerChecks_eq (x : Link) (capacity : Nat) (h : Header) : headerChecks x capacity h =
    match failedCheck x capacity h, FrameClass.ofCode? h.cls with
    | some code, _ => .inl code
    | none, some cls => .inr cls
    | none, none => .inl .badClass := by
  unfold headerChecks failedCheck
  by_cases format : h.format ≠ 0x01#8
  · rw [if_pos (c := h.format ≠ 0x01) format, if_pos format]
  rw [if_neg (c := h.format ≠ 0x01) format, if_neg format]
  by_cases wire : x.wireId ≠ some h.wireId
  · rw [if_pos wire, if_pos wire]
  rw [if_neg wire, if_neg wire]
  cases named : FrameClass.ofCode? h.cls with
  | none =>
    rw [if_pos ((ofCode?_eq_none_iff _).mp named)]
  | some cls =>
    have known : ¬4 < h.cls.toNat := fun big => by
      rw [(ofCode?_eq_none_iff _).mpr big] at named
      cases named
    rw [if_neg known]
    dsimp only
    rw [classLength_check (code_of_ofCode? named)]
    by_cases long : x.maxPayload < h.len ∨ capacity < extentLength h.len
    · rw [if_pos long, if_pos (show x.maxPayload < h.len ∨ capacity < 24 + h.len from long)]
    · rw [if_neg long, if_neg (show ¬(x.maxPayload < h.len ∨ capacity < 24 + h.len) from long)]
      (repeat' split) <;> simp_all

/-! ### The header's bytes and its checks (R83 to R86) -/

section header
variable {s : State} {l : LinkSlot} {c : InContext} {x : Nat} {b : Byte}

theorem takeHeader_of_early (early : x ≠ 15) : s.takeHeader l c x b =
    s.setIn l (some { c with next := x + 1, headerBytes := c.headerBytes ++ [b] }) := if_neg early

/-- The frame with its sixteen header bytes, and the header that they are. -/
def parsedFrame (c : InContext) (x : Nat) (b : Byte) : InContext :=
  { c with
    next := x + 1
    headerBytes := c.headerBytes ++ [b]
    header := some (parseHeader (c.headerBytes ++ [b])) }

section checks
variable (last : x = 15)
include last

theorem takeHeader_of_failed {code : PartCode}
    (failed : failedCheck (s.link l) c.capacity (parseHeader (c.headerBytes ++ [b])) = some code) :
    s.takeHeader l c x b = s.setIn l (some { parsedFrame c x b with early := some code }) := by
  have checks := headerChecks_eq (s.link l) c.capacity (parseHeader (c.headerBytes ++ [b]))
  rw [failed] at checks
  unfold State.takeHeader
  dsimp only
  rw [if_pos last, State.parseIn]
  dsimp only
  rw [checks]
  rfl

theorem takeHeader_of_passed {cls : FrameClass}
    (passed : failedCheck (s.link l) c.capacity (parseHeader (c.headerBytes ++ [b])) = none)
    (named : FrameClass.ofCode? (parseHeader (c.headerBytes ++ [b])).cls = some cls) :
    s.takeHeader l c x b =
      s.askSelection l (parsedFrame c x b) (parseHeader (c.headerBytes ++ [b])) cls := by
  have checks := headerChecks_eq (s.link l) c.capacity (parseHeader (c.headerBytes ++ [b]))
  rw [passed, named] at checks
  unfold State.takeHeader
  dsimp only
  rw [if_pos last, State.parseIn]
  dsimp only
  rw [checks]
  rfl

end checks

/-- A header that passes the checks names a class. -/
theorem ofCode?_of_passed {y : Link} {capacity : Nat} {h : Header} (passed : failedCheck y capacity h = none) :
    ∃ cls, FrameClass.ofCode? h.cls = some cls := by
  refine Option.ne_none_iff_exists'.mp fun unknown => ?_
  have big := (ofCode?_eq_none_iff _).mp unknown
  unfold failedCheck at passed
  rw [if_pos big] at passed
  (repeat' split at passed) <;> cases passed

/-- The holding buffers of the classes that have one (R89, R99). -/
def withHolding (c : InContext) (cls : Byte) : InContext :=
  { c with
    renewal := if cls = 0x02#8 then some (zeroes 56) else c.renewal
    beacon := if cls = 0x03#8 then some (zeroes 8) else c.beacon
    keepalive := if cls = 0x01#8 then some (zeroes 8) else c.keepalive }

theorem withBuffers_eq (c : InContext) (cls : FrameClass) : c.withBuffers cls = withHolding c cls.code := by
  cases cls <;> rfl

variable {h : Header} {cls : FrameClass} (named : cls.code = h.cls)
include named

theorem renewal_iff : cls = .renewal ↔ h.cls = 0x02#8 := by
  rw [← named]
  cases cls <;> decide

theorem beacon_iff : cls = .beacon ↔ h.cls = 0x03#8 := by
  rw [← named]
  cases cls <;> decide

theorem askSelection_of_session (epoch : h.epoch ≠ 0) : s.askSelection l c h cls =
    (s.setIn l (some { withHolding c h.cls with asking := true })).askKeyUnit
      (.selection l c.ident h.epoch h.sequence) := by
  rw [State.askSelection, if_pos epoch, withBuffers_eq, named]
  rfl

variable (epoch : h.epoch = 0)
include epoch

theorem askSelection_of_other (notRenewal : h.cls ≠ 0x02#8) (notBeacon : h.cls ≠ 0x03#8) :
    s.askSelection l c h cls =
      s.setIn l (some { withHolding c h.cls with early := some .noKey }) := by
  have other : cls ≠ .renewal ∧ cls ≠ .beacon :=
    ⟨fun is => notRenewal ((renewal_iff named).mp is), fun is => notBeacon ((beacon_iff named).mp is)⟩
  rw [State.askSelection, if_neg (not_not.mpr epoch), if_pos other, withBuffers_eq, named]

variable (kekClass : h.cls = 0x02#8 ∨ h.cls = 0x03#8)
include kekClass

omit epoch in
theorem not_other : ¬(cls ≠ .renewal ∧ cls ≠ .beacon) := fun ⟨notRenewal, notBeacon⟩ =>
  kekClass.elim (fun is => notRenewal ((renewal_iff named).mpr is))
    (fun is => notBeacon ((beacon_iff named).mpr is))

theorem askSelection_of_unbound (unbound : (s.link l).kek = none) : s.askSelection l c h cls =
    s.setIn l (some { withHolding c h.cls with early := some .kekAbsent }) := by
  rw [State.askSelection, if_neg (not_not.mpr epoch), if_neg (not_other named kekClass),
    withBuffers_eq, named, unbound]

theorem askSelection_of_bound {k : KekIndex} (bound : (s.link l).kek = some k) :
    s.askSelection l c h cls = (s.setIn l (some { withHolding c h.cls with asking := true })).askStore
      (.selection l c.ident k h.sequence) := by
  rw [State.askSelection, if_neg (not_not.mpr epoch), if_neg (not_other named kekClass),
    withBuffers_eq, named, bound]
  rfl

end header

end Sys2Proof.Proofs.HeaderBytes
end


section
/-! PROOFS. Writes of a receive guard (R50, R83): the bytes taken in order, the beats issued, and the write that then
waits at port M. -/

namespace Sys2Proof.Proofs.BufferWrites
open Sys2Proof Sys2Proof.Machine
open Sys2Proof.Proofs.KeyChanges Sys2Proof.Proofs.CipherTaking Sys2Proof.Proofs.SequenceRequests
open Sys2Proof.Proofs.MemoryPort Sys2Proof.Proofs.InboundBytes Sys2Proof.Proofs.HeaderBytes

/-! ### Issuing the beats (R50; log 17) -/

/-- Accesses that have joined the port L requester. -/
def withAccesses (s : State) (xs : List Access) : State :=
  { s with steering := { s.steering with
      l := { s.steering.l with accesses := s.steering.l.accesses ++ xs } } }

/-- The accesses of `n` beats from beat `k` on: one write each, of the beats with an enabled byte. -/
def beatAccesses (i start : Nat) (stored : List (Option Byte)) (k n : Nat) : List Access :=
  ((List.range' k n).map (fun j =>
      (⟨i, .store, start + 8 * j, 1, some ((stored.drop (8 * j)).take 8)⟩ : Access))).filter
    (fun w => w.write.any (fun beat => beat.any (·.isSome)))

theorem beatAccesses_succ (i start : Nat) (stored : List (Option Byte)) (k n : Nat) :
    beatAccesses i start stored k (n + 1) =
      (if ((stored.drop (8 * k)).take 8).any (·.isSome) then
        [⟨i, .store, start + 8 * k, 1, some ((stored.drop (8 * k)).take 8)⟩] else []) ++
      beatAccesses i start stored (k + 1) n := by
  unfold beatAccesses
  rw [List.range'_succ, List.map_cons, List.filter_cons]
  dsimp only [Option.any]
  split <;> rfl

theorem withAccesses_withAccesses (s : State) (xs ys : List Access) :
    withAccesses (withAccesses s xs) ys = withAccesses s (xs ++ ys) := by
  simp [withAccesses]

theorem withAccesses_nil (s : State) : withAccesses s [] = s := by
  simp [withAccesses]

/-- The complete beats go to port M, but one with no enabled byte counts as performed (R40). -/
theorem issueBeats_eq (i : Nat) : ∀ (n : Nat) (s : State) (p : Portion),
    p.stored.length = 8 * (p.beatsIssued + n) →
    ∃ performed, s.issueBeats i p n =
        (withAccesses s (beatAccesses i p.start p.stored p.beatsIssued n),
          { p with beatsIssued := p.beatsIssued + n, beatsPerformed := performed }) ∧
      performed + (beatAccesses i p.start p.stored p.beatsIssued n).length = p.beatsPerformed + n
  | 0, s, p, _ => ⟨p.beatsPerformed, by
      simp [State.issueBeats, beatAccesses, withAccesses_nil], by simp [beatAccesses]⟩
  | n + 1, s, p, whole => by
    have length : ¬((p.stored.drop (8 * p.beatsIssued)).take 8).length < 8 := by
      rw [List.length_take, List.length_drop]
      omega
    rw [beatAccesses_succ]
    unfold State.issueBeats
    dsimp only
    rw [if_neg length]
    split
    · obtain ⟨performed, runs, count⟩ := issueBeats_eq i n
        (s.issueL ⟨i, .store, p.start + 8 * p.beatsIssued, 1,
          some ((p.stored.drop (8 * p.beatsIssued)).take 8)⟩)
        { p with beatsIssued := p.beatsIssued + 1 } (by dsimp only; omega)
      refine ⟨performed, ?_, ?_⟩
      · rw [runs, show State.issueL s _ = withAccesses s [_] from rfl, withAccesses_withAccesses]
        simp only [Nat.add_assoc, Nat.add_comm 1 n]
      · rw [List.length_append]
        dsimp only at count
        simp only [List.length_cons, List.length_nil]
        omega
    · obtain ⟨performed, runs, count⟩ := issueBeats_eq i n s
        { p with beatsIssued := p.beatsIssued + 1, beatsPerformed := p.beatsPerformed + 1 }
        (by dsimp only; omega)
      refine ⟨performed, ?_, ?_⟩
      · rw [runs, List.nil_append]
        simp only [Nat.add_assoc, Nat.add_comm 1 n]
      · dsimp only at count
        rw [List.nil_append]
        omega

/-- A portion with an enabled byte has a beat to issue. -/
theorem beatAccesses_ne_nil {i start n : Nat} {stored : List (Option Byte)} (whole : stored.length = 8 * n)
    (enabled : ∃ b, some b ∈ stored) : beatAccesses i start stored 0 n ≠ [] := by
  obtain ⟨b, mem⟩ := enabled
  obtain ⟨j, within, at_⟩ := List.getElem_of_mem mem
  have inside : stored[j]? = some (some b) := by rw [List.getElem?_eq_getElem within, at_]
  refine List.ne_nil_of_mem (List.mem_filter.mpr ⟨List.mem_map.mpr ⟨j / 8, ?_, rfl⟩, ?_⟩)
  · rw [List.mem_range'_1]
    omega
  · refine List.any_eq_true.mpr ⟨some b, ?_, rfl⟩
    refine List.mem_of_getElem? (i := j % 8) ?_
    rw [List.getElem?_take_of_lt (Nat.mod_lt _ (by decide)), List.getElem?_drop,
      show 8 * (j / 8) + j % 8 = j by omega, inside]

/-! ### Taking the bytes (R50, R83) -/

section storing
variable {l : LinkSlot}

theorem storeBytes_cons_none (s : State) (p : Portion) (rest : List (Option Byte)) :
    s.storeBytes l p (none :: rest) = s.storeBytes l { p with stored := p.stored ++ [none] } rest := rfl

/-- Bytes that are not enabled are passed over. -/
theorem storeBytes_replicate (n : Nat) (s : State) (p : Portion) (rest : List (Option Byte)) :
    s.storeBytes l p (List.replicate n none ++ rest) =
      s.storeBytes l { p with stored := p.stored ++ List.replicate n none } rest := by
  induction n generalizing p with
  | zero => simp
  | succ n ih =>
    rw [List.replicate_succ, List.cons_append, storeBytes_cons_none, ih, List.append_assoc]
    rfl

theorem taker_of_inside {s : State} {c : InContext} {a : Nat} (hc : (s.link l).inContext = some c)
    (receiving : c.phase = .receiving) (inside : c.pointer ≤ a ∧ a < c.pointer + c.capacity) :
    s.taker l a = some c := by
  rw [State.taker, hc, Option.filter_eq_some_iff]
  exact ⟨rfl, by simp [receiving, inside]⟩

theorem storeBytes_of_taken {s t : State} {c : InContext} {p : Portion} {b v : Byte}
    {rest : List (Option Byte)} (taker : s.taker l (p.start + p.stored.length) = some c)
    (taken : s.takeByte l c (p.start + p.stored.length - c.pointer) b = some (t, v)) :
    s.storeBytes l p (some b :: rest) =
      t.storeBytes l { p with stored := p.stored ++ [some v] } rest := by
  rw [State.storeBytes, taker]
  dsimp only
  rw [taken]

/-- A frame with a stream fault stores zeroes. -/
theorem storeBytes_of_fault {s : State} {c : InContext} (hc : (s.link l).inContext = some c)
    (receiving : c.phase = .receiving) (free : c.holds = false) (faulted : c.streamFault = true)
    (values : List Byte) (p : Portion) (low : c.pointer ≤ p.start + p.stored.length)
    (high : p.start + p.stored.length + values.length ≤ c.pointer + c.capacity) :
    s.storeBytes l p (values.map some) =
      (s, { p with stored := p.stored ++ values.map (fun _ => some 0) }) := by
  induction values generalizing p with
  | nil => simp [State.storeBytes]
  | cons b values ih =>
    rw [List.length_cons] at high
    rw [List.map_cons, storeBytes_of_taken (taker_of_inside hc receiving ⟨low, by omega⟩)
      (takeByte_of_fault free faulted), ih _ (by simp; omega) (by simp; omega)]
    simp

/-- A write that begins out of order is stored as zeroes, and faults the stream. -/
theorem storeBytes_of_gap {s : State} {c : InContext} (hc : (s.link l).inContext = some c)
    (receiving : c.phase = .receiving) (free : c.holds = false) (sound : c.streamFault = false)
    {values : List Byte} (some_ : values ≠ []) {p : Portion} (fresh : p.stored = [])
    (low : c.pointer ≤ p.start) (high : p.start + values.length ≤ c.pointer + c.capacity)
    (other : p.start ≠ c.pointer + c.next) : s.storeBytes l p (values.map some) =
      (s.streamFaultIn l, { p with stored := values.map (fun _ => some 0) }) := by
  obtain ⟨b, values, rfl⟩ := List.exists_cons_of_ne_nil some_
  rw [List.length_cons] at high
  obtain ⟨context, -⟩ := streamFaultIn_facts hc
  have asking : c.asking = false := by
    have held := free
    simp only [InContext.holds, receiving, beq_self_eq_true, Bool.true_and, Bool.or_eq_false_iff] at held
    exact held.1
  have free' : (faultedFrame c).holds = false := by
    simp [InContext.holds, faultedFrame, asking, InContext.awaitsTag, InContext.usable]
  rw [List.map_cons, storeBytes_of_taken (taker_of_inside hc receiving (by simp only [fresh, List.length_nil]; omega))
    (takeByte_of_gap free sound (by simp only [fresh, List.length_nil]; omega)),
    storeBytes_of_fault context receiving free' rfl values _ (by simp [fresh, faultedFrame]; omega)
      (by simp [fresh, faultedFrame]; omega)]
  simp [fresh]

theorem setIn_same {s : State} {c : InContext} (hc : (s.link l).inContext = some c) :
    s.setIn l (some c) = s := by
  rw [State.setIn, ← hc]
  exact setLink_same s l

theorem setIn_setIn (s : State) (x y : Option InContext) : (s.setIn l x).setIn l y = s.setIn l y := by
  simp [State.setIn, State.setLink, State.link]

/-- The frame with header bytes taken in order. -/
def headed (c : InContext) (values : List Byte) : InContext :=
  { c with next := c.next + values.length, headerBytes := c.headerBytes ++ values }

/-- Header bytes in order, short of the sixteenth, are stored as written. -/
theorem storeBytes_of_header (values : List Byte) : ∀ {s : State} {c : InContext} (p : Portion)
    (rest : List (Option Byte)), (s.link l).inContext = some c → c.phase = .receiving → c.holds = false →
    c.streamFault = false → c.header = none → p.start + p.stored.length = c.pointer + c.next →
    c.next + values.length ≤ 15 → c.next + values.length ≤ c.capacity →
    s.storeBytes l p (values.map some ++ rest) = (s.setIn l (some (headed c values))).storeBytes l
      { p with stored := p.stored ++ values.map some } rest := by
  induction values with
  | nil =>
    intro s c p rest hc _ _ _ _ _ _ _
    have same : headed c [] = c := by simp [headed]
    rw [same, setIn_same hc]
    simp
  | cons b values ih =>
    intro s c p rest hc receiving free sound unparsed order short fits
    rw [List.length_cons] at short fits
    have offset : p.start + p.stored.length - c.pointer = c.next := by omega
    have taken := takeByte_of_header (s := s) (l := l) (b := b) free sound offset unparsed
    rw [offset, takeHeader_of_early (by omega)] at taken
    have next := ih (s := s.setIn l (some { c with next := c.next + 1, headerBytes := c.headerBytes ++ [b] }))
      { p with stored := p.stored ++ [some b] } rest (setIn_inContext _ _ _) receiving free sound unparsed
      (by simp; omega) (by dsimp only; omega) (by dsimp only; omega)
    rw [List.map_cons, List.cons_append,
      storeBytes_of_taken (taker_of_inside hc receiving (by omega)) (by rw [offset]; exact taken), next,
      setIn_setIn]
    simp [headed, Nat.add_assoc, Nat.add_comm 1]

/-- The fault that a portion with bytes outside the buffer posts, once (R50). -/
def outsideFault (s : State) (l : LinkSlot) (p : Portion) (bytes : List (Option Byte)) : State :=
  if p.faulted = false ∧ bytes.any (·.isSome) then s.fault (some l) p.start else s

/-- Bytes outside the buffer are stored as zeroes. -/
theorem storeBytes_of_outside (bytes : List (Option Byte)) : ∀ (s : State) (p : Portion),
    (∀ j b, bytes[j]? = some (some b) → s.taker l (p.start + p.stored.length + j) = none) →
    s.storeBytes l p bytes = (outsideFault s l p bytes, { p with
      stored := p.stored ++ bytes.map (Option.map (fun _ => 0))
      faulted := p.faulted || bytes.any (·.isSome) }) := by
  induction bytes with
  | nil => intro s p _; simp [State.storeBytes, outsideFault]
  | cons x bytes ih =>
    intro s p outside
    have later (t : State) (same : t.links = s.links) (y : Option Byte) (f : Bool) :=
      ih t { p with stored := p.stored ++ [y], faulted := f } fun j b at_ => by
        have out := outside (j + 1) b (by simpa using at_)
        simp only [State.taker, State.link, same, List.length_append, List.length_singleton] at out ⊢
        rwa [show p.start + (p.stored.length + 1) + j = p.start + p.stored.length + (j + 1) by omega]
    cases x with
    | none =>
      rw [storeBytes_cons_none, later s rfl none p.faulted]
      simp [outsideFault]
    | some b =>
      have first := outside 0 b rfl
      rw [State.storeBytes]
      rw [Nat.add_zero] at first
      rw [first]
      dsimp only
      cases faulted : p.faulted with
      | true =>
        rw [if_pos rfl, later s rfl (some 0) true]
        simp [outsideFault, faulted]
      | false =>
        rw [if_neg (by decide), later (s.fault (some l) p.start) rfl (some 0) true]
        simp [outsideFault, faulted]

end storing

/-! ### The write at the port -/

/-- The portion of a write presented to port L. -/
def writePortion (l : LinkSlot) (a : Nat) (bytes : List (Option Byte)) : Portion :=
  { place := .receiveGuard l, start := a, beats := bytes.length / 8, bytes := bytes }

/-- A write into a receive guard whose bytes are taken waits at port M, one access for each beat with an enabled
byte. -/
theorem present_of_stored {s t : State} {l : LinkSlot} {start : Long} {bytes stored : List (Option Byte)}
    {faulted : Bool} (accepts : s.accepts = true) (quiet : s.steering.l.quiet = true)
    (whole : bytes.length % 8 = 0) (some_ : bytes.length ≠ 0) (short : bytes.length ≤ 64)
    (space : start.toNat / 8 * 8 + bytes.length ≤ 2 ^ 32)
    (places : s.beatsIn start (bytes.length / 8) (.receiveGuard l) = true)
    (step : (accepted s true ⟨false, start.toNat / 8 * 8, bytes.length / 8, bytes⟩
        (.receiveGuard l)).storeBytes l
          { writePortion l (start.toNat / 8 * 8) bytes with started := true } bytes =
      (t, { writePortion l (start.toNat / 8 * 8) bytes with
        started := true, stored := stored, faulted := faulted }))
    (port : t.steering = (accepted s true ⟨false, start.toNat / 8 * 8, bytes.length / 8, bytes⟩
        (.receiveGuard l)).steering)
    (length : stored.length = bytes.length) (enabled : ∃ b, some b ∈ stored) :
    ∃ x : Port, exec (.portLWrite start bytes) s = .next (t.setPort true x).closeDrained ∧
      x.accesses = beatAccesses 0 (start.toNat / 8 * 8) stored 0 (bytes.length / 8) ∧
      x.current.isSome = true ∧ x.answered = s.steering.l.answered := by
  rw [beatsIn_iff] at places
  have eights : stored.length = 8 * (0 + bytes.length / 8) := by omega
  obtain ⟨performed, issues, count⟩ := issueBeats_eq 0 (bytes.length / 8) t
    { writePortion l (start.toNat / 8 * 8) bytes with started := true, stored := stored, faulted := faulted } eights
  have left : 0 < (beatAccesses 0 (start.toNat / 8 * 8) stored 0 (bytes.length / 8)).length :=
    List.length_pos_iff.mpr (beatAccesses_ne_nil (by omega) enabled)
  have pending : (performed == bytes.length / 8) = false := by
    have count' : performed + _ = 0 + bytes.length / 8 := count
    dsimp only [writePortion] at count'
    rw [beq_eq_false_iff_ne]
    omega
  let onward := withAccesses t (beatAccesses 0 (start.toNat / 8 * 8) stored 0 (bytes.length / 8))
  let p : Portion := { writePortion l (start.toNat / 8 * 8) bytes with
    started := true, stored := stored, faulted := faulted, beatsIssued := 0 + bytes.length / 8
    beatsPerformed := performed, issued := 0 + bytes.length / 8 == bytes.length / 8, done := false }
  have issues' := issues
  rw [show bytes.length / 8 = (writePortion l (start.toNat / 8 * 8) bytes).beats from rfl] at issues'
  have inbound : (accepted s true ⟨false, start.toNat / 8 * 8, bytes.length / 8, bytes⟩
      (.receiveGuard l)).advanceInbound l 0 (writePortion l (start.toNat / 8 * 8) bytes) = (onward, p) := by
    unfold State.advanceInbound
    dsimp only
    rw [show (writePortion l (start.toNat / 8 * 8) bytes).bytes.drop
        (writePortion l (start.toNat / 8 * 8) bytes).stored.length = bytes from rfl, step]
    dsimp only
    rw [issues']
    dsimp only
    rw [show (performed == (writePortion l (start.toNat / 8 * 8) bytes).beats) = false from pending]
    rfl
  have advances : (accepted s true ⟨false, start.toNat / 8 * 8, bytes.length / 8, bytes⟩
      (.receiveGuard l)).advance true false true true 0 0 (writePortion l (start.toNat / 8 * 8) bytes) =
      (onward, p) := by
    rw [← inbound]
    rfl
  have presented : onward.steering.l.presented = [] := by
    rw [show onward.steering.l.presented = t.steering.l.presented from rfl, port]
    rfl
  have onwardPort (x : Port) : onward.setPort true x = t.setPort true x := rfl
  have runs := (exec_write_of_legal true s whole some_ short space).trans (congrArg _
    (present_of_one (q := ⟨false, start.toNat / 8 * 8, bytes.length / 8, bytes⟩) (pl := .receiveGuard l)
      accepts quiet (show 1 ≤ bytes.length / 8 by omega) places
      (.inr (show bytes.length = 8 * (bytes.length / 8) by omega)) advances presented))
  rw [onwardPort] at runs
  refine ⟨_, runs, ?_, rfl, ?_⟩
  · have before : t.steering.l.accesses = [] := by rw [port]; rfl
    show t.steering.l.accesses ++ _ = _
    rw [before, List.nil_append]
  · show t.steering.l.answered = _
    rw [port]
    rfl

/-- The state that a settled write leaves, but for its port. -/
theorem afterWrite_facts (t : State) (x : Port) : (t.setPort true x).steering.l = x ∧
    (t.setPort true x).still = t.still ∧ (t.setPort true x).mail = t.mail ∧
    (t.setPort true x).links = t.links ∧ (t.setPort true x).keys = t.keys :=
  ⟨rfl, still_setPort t true x, rfl, rfl, rfl⟩

end Sys2Proof.Proofs.BufferWrites
end


section
/-! PROOFS. Header selections (O36): the answers, the header's bytes, and a receive guard's writes. -/

namespace Sys2Proof.Proofs.HeaderSelections
open Sys2Proof Sys2Proof.Machine
open Sys2Proof.Proofs.StillRecords Sys2Proof.Proofs.CommandAnswers
open Sys2Proof.Proofs.KeyChanges Sys2Proof.Proofs.CipherTaking Sys2Proof.Proofs.SequenceRequests
open Sys2Proof.Proofs.MemoryPort Sys2Proof.Proofs.Grants Sys2Proof.Proofs.Confirmation
open Sys2Proof.Proofs.InboundBytes
open Sys2Proof.Proofs.Selections Sys2Proof.Proofs.HeaderBytes Sys2Proof.Proofs.BufferWrites

/-! ### The statement's order of the beats -/

theorem rangeAccesses_eq (a n : Nat) (stored : List (Option Byte)) :
    ((List.range n).map (fun i =>
        (⟨0, .store, a + 8 * i, 1, some ((stored.drop (8 * i)).take 8)⟩ : Access))).filter
      (fun w => w.write.any (fun beat => beat.any (·.isSome))) = beatAccesses 0 a stored 0 n := by
  rw [beatAccesses, List.range_eq_range']

/-! ### The write inside the buffer -/

section buffer
variable {s : State} {l : LinkSlot} {start : Long} {bytes stored : List (Option Byte)}
  (accepts : s.accepts = true) (quiet : s.steering.l.quiet = true)
  (whole : bytes.length % 8 = 0) (some_ : bytes.length ≠ 0) (short : bytes.length ≤ 64)
  (space : start.toNat / 8 * 8 + bytes.length ≤ 2 ^ 32)
  (places : s.beatsIn start (bytes.length / 8) (.receiveGuard l) = true)
include accepts quiet whole some_ short space places

/-- A write whose bytes are taken waits at port M, and leaves what taking them left. -/
theorem write_of_stored {t : State} {faulted : Bool}
    (step : (accepted s true ⟨false, start.toNat / 8 * 8, bytes.length / 8, bytes⟩
        (.receiveGuard l)).storeBytes l
          { writePortion l (start.toNat / 8 * 8) bytes with started := true } bytes =
      (t, { writePortion l (start.toNat / 8 * 8) bytes with
        started := true, stored := stored, faulted := faulted }))
    (port : t.steering = (accepted s true ⟨false, start.toNat / 8 * 8, bytes.length / 8, bytes⟩
        (.receiveGuard l)).steering)
    (length : stored.length = bytes.length) (enabled : ∃ b, some b ∈ stored) :
    ∃ u : State, exec (.portLWrite start bytes) s = .next u.closeDrained ∧
      u.steering.l.accesses = ((List.range (bytes.length / 8)).map (fun i =>
          (⟨0, .store, start.toNat / 8 * 8 + 8 * i, 1,
            some ((stored.drop (8 * i)).take 8)⟩ : Access))).filter
        (fun w => w.write.any (fun beat => beat.any (·.isSome))) ∧
      u.steering.l.current.isSome = true ∧ u.steering.l.answered = s.steering.l.answered ∧
      u.still = t.still ∧ u.mail = t.mail ∧ u.links = t.links ∧ u.keys = t.keys := by
  obtain ⟨x, runs, accesses, current, answered⟩ := present_of_stored accepts quiet whole some_ short
    space places step port length enabled
  obtain ⟨atPort, still, mail, links, keys⟩ := afterWrite_facts t x
  refine ⟨_, runs, ?_, ?_, ?_, still, mail, links, keys⟩
  · rw [atPort, accesses, rangeAccesses_eq]
  · rw [atPort, current]
  · rw [atPort, answered]

variable {c : InContext} (hc : (s.link l).inContext = some c)
  (receiving : c.phase = .receiving) (free : c.holds = false) (sound : c.streamFault = false)
include hc receiving free sound

theorem write_of_gap {values : List Byte} (full : bytes = values.map some)
    (low : c.pointer ≤ start.toNat / 8 * 8)
    (high : start.toNat / 8 * 8 + bytes.length ≤ c.pointer + c.capacity)
    (other : start.toNat / 8 * 8 ≠ c.pointer + c.next) :
    ∃ u : State, (exec (.portLWrite start bytes) s = .next u.closeDrained ∧
      u.steering.l.accesses = ((List.range (bytes.length / 8)).map (fun i =>
          (⟨0, .store, start.toNat / 8 * 8 + 8 * i, 1,
            some (((values.map (fun _ => some 0)).drop (8 * i)).take 8)⟩ : Access))).filter
        (fun w => w.write.any (fun beat => beat.any (·.isSome))) ∧
      u.steering.l.current.isSome = true ∧ u.steering.l.answered = s.steering.l.answered ∧
      u.still = s.still ∧ u.mail = s.mail) ∧
      ∃ c', (u.link l).inContext = some c' ∧ c'.streamFault = true ∧ c'.next = c.next := by
  let t := accepted s true ⟨false, start.toNat / 8 * 8, bytes.length / 8, bytes⟩ (.receiveGuard l)
  have present : values ≠ [] := fun empty => some_ (by rw [full, empty]; rfl)
  have count : bytes.length = values.length := by rw [full, List.length_map]
  have step := storeBytes_of_gap (s := t) (l := l) hc receiving free sound present
    (p := { writePortion l (start.toNat / 8 * 8) bytes with started := true }) rfl low
    (by rw [← count]; exact high) other
  rw [← full] at step
  obtain ⟨context, -, -, still, -, mail⟩ := streamFaultIn_facts (s := t) (l := l) hc
  obtain ⟨u, runs, accesses, current, answered, still', mail', links, -⟩ :=
    write_of_stored (faulted := false) accepts quiet whole some_ short space places step
      (by rw [streamFaultIn_of_open (s := t) hc]; rfl) (by rw [List.length_map, count])
      (by
        obtain ⟨v, more, rfl⟩ := List.exists_cons_of_ne_nil present
        exact ⟨0, List.mem_cons_self⟩)
  refine ⟨u, ⟨runs, accesses, current, answered, still'.trans (still.trans ?_), mail'.trans mail⟩,
    faultedFrame c, ?_, rfl, rfl⟩
  · exact still_setPort s true _
  · rw [State.link, links]
    exact context

theorem write_of_header {before after : Nat} {values : List Byte}
    (shape : bytes = List.replicate before none ++ values.map some ++ List.replicate after none)
    (present : values ≠ []) (order : start.toNat / 8 * 8 + before = c.pointer + c.next)
    (unparsed : c.header = none) (early : c.next + values.length ≤ 15)
    (fits : c.next + values.length ≤ c.capacity) :
    ∃ u : State, (exec (.portLWrite start bytes) s = .next u.closeDrained ∧
      u.steering.l.accesses = ((List.range (bytes.length / 8)).map (fun i =>
          (⟨0, .store, start.toNat / 8 * 8 + 8 * i, 1,
            some ((bytes.drop (8 * i)).take 8)⟩ : Access))).filter
        (fun w => w.write.any (fun beat => beat.any (·.isSome))) ∧
      u.steering.l.current.isSome = true ∧ u.steering.l.answered = s.steering.l.answered ∧
      u.still = s.still ∧ u.mail = s.mail) ∧
      (u.link l).inContext = some (headed c values) := by
  let t := accepted s true ⟨false, start.toNat / 8 * 8, bytes.length / 8, bytes⟩ (.receiveGuard l)
  let p : Portion := { writePortion l (start.toNat / 8 * 8) bytes with started := true }
  have step : t.storeBytes l p bytes =
      (t.setIn l (some (headed c values)), { p with stored := bytes }) := by
    have last := storeBytes_replicate (l := l) after (t.setIn l (some (headed c values)))
      { p with stored := List.replicate before none ++ values.map some } []
    have middle := storeBytes_of_header (l := l) (s := t) values
      { p with stored := List.replicate before none } (List.replicate after none) hc receiving free
      sound unparsed (by simp [p, writePortion, order]) early fits
    have first := storeBytes_replicate (l := l) before t p
      (values.map some ++ List.replicate after none)
    have split : bytes = List.replicate before none ++ (values.map some ++ List.replicate after none) := by
      rw [shape, List.append_assoc]
    rw [List.append_nil] at last
    calc t.storeBytes l p bytes
        = _ := congrArg (t.storeBytes l p) split
      _ = _ := first
      _ = _ := middle
      _ = _ := last
      _ = (t.setIn l (some (headed c values)), { p with
            stored := List.replicate before none ++ values.map some ++ List.replicate after none }) := rfl
      _ = _ := by rw [← shape]
  obtain ⟨u, runs, accesses, current, answered, still, mail, links, -⟩ :=
    write_of_stored (faulted := false) accepts quiet whole some_ short space places step rfl rfl
      (by
        obtain ⟨v, more, rfl⟩ := List.exists_cons_of_ne_nil present
        exact ⟨v, by simp [shape]⟩)
  refine ⟨u, ⟨runs, accesses, current, answered, still.trans ?_, mail⟩, ?_⟩
  · rw [still_setIn]
    exact still_setPort s true _
  · rw [State.link, links]
    exact setIn_inContext t l _

end buffer

/-! ### The write outside the buffer (R50, R94) -/

theorem write_of_outside {s : State} {l : LinkSlot} {start : Long} {bytes : List (Option Byte)}
    (accepts : s.accepts = true) (quiet : s.steering.l.quiet = true)
    (whole : bytes.length % 8 = 0) (short : bytes.length ≤ 64)
    (space : start.toNat / 8 * 8 + bytes.length ≤ 2 ^ 32) (enabled : ∃ b, some b ∈ bytes)
    (places : s.beatsIn start (bytes.length / 8) (.receiveGuard l) = true)
    (outside : ∀ c, (s.link l).inContext = some c → c.phase = .receiving →
      ∀ j b, bytes[j]? = some (some b) →
        start.toNat / 8 * 8 + j < c.pointer ∨ c.pointer + c.capacity ≤ start.toNat / 8 * 8 + j) :
    ∃ u : State, exec (.portLWrite start bytes) s = .next u.closeDrained ∧
      u.steering.l.accesses = ((List.range (bytes.length / 8)).map (fun i =>
          (⟨0, .store, start.toNat / 8 * 8 + 8 * i, 1,
            some (((bytes.map (Option.map (fun _ => 0))).drop (8 * i)).take 8)⟩ : Access))).filter
        (fun w => w.write.any (fun beat => beat.any (·.isSome))) ∧
      u.steering.l.current.isSome = true ∧ u.steering.l.answered = s.steering.l.answered ∧
      u.still = s.still ∧ u.links = s.links ∧ u.keys = s.keys ∧
      u.mail = { s.mail with
        reports := s.mail.reports ++ [ringFaultPosting (some l) (start.toNat / 8 * 8)] } := by
  obtain ⟨b, mem⟩ := enabled
  let t := accepted s true ⟨false, start.toNat / 8 * 8, bytes.length / 8, bytes⟩ (.receiveGuard l)
  have any : bytes.any (·.isSome) = true := List.any_eq_true.mpr ⟨some b, mem, rfl⟩
  have untaken (j : Nat) (b : Byte) (at_ : bytes[j]? = some (some b)) :
      t.taker l (start.toNat / 8 * 8 + j) = none := by
    rw [State.taker, Option.filter_eq_none_iff]
    intro c hc inside
    simp only [Bool.and_eq_true, beq_iff_eq, decide_eq_true_eq] at inside
    have beyond := outside c hc (by simp_all) j b at_
    omega
  have step := storeBytes_of_outside (l := l) bytes t
    { writePortion l (start.toNat / 8 * 8) bytes with started := true } untaken
  have faults : outsideFault t l { writePortion l (start.toNat / 8 * 8) bytes with started := true }
      bytes = t.fault (some l) (start.toNat / 8 * 8) := if_pos ⟨rfl, any⟩
  rw [faults] at step
  obtain ⟨u, runs, accesses, current, answered, still, mail, links, keys⟩ :=
    write_of_stored (stored := bytes.map (Option.map (fun _ => 0))) accepts quiet whole
      (List.length_pos_iff.mpr (List.ne_nil_of_mem mem)).ne' short space places step rfl
      (List.length_map _) ⟨0, List.mem_map.mpr ⟨some b, mem, rfl⟩⟩
  exact ⟨u, runs, accesses, current, answered, still.trans (still_setPort s true _), links, keys, mail⟩

/-! ### The grant of the last beat (R46, R50) -/

section lastBeat
variable {s : State} {l : LinkSlot} {x : Transaction} {p : Portion}
  {answered : Option BusAnswer}

/-- A stored write whose beats are performed, in a frame that holds no write, is done. -/
theorem advanceInbound_of_performed (given : p.bytes.length = 8 * p.beats)
    (taken : p.stored.length = 8 * p.beats) (issued : p.beatsIssued = p.beats)
    (performed : p.beatsPerformed = p.beats)
    (free : ∀ c, (s.link l).inContext = some c → c.holds = false) :
    s.advanceInbound l 0 p = (s, { p with started := true, issued := true, done := true }) := by
  have holds : s.holdsWrites l = false := by
    unfold State.holdsWrites
    cases hc : (s.link l).inContext with
    | none => rfl
    | some c => exact free c hc
  have noBytes : p.bytes.drop p.stored.length = [] := List.drop_eq_nil_iff.mpr (by omega)
  have noBeat (n : Nat) : s.issueBeats 0 { p with started := true } n = (s, { p with started := true }) := by
    cases n with
    | zero => rfl
    | succ n => exact if_pos (by simp only [List.length_take, List.length_drop]; omega)
  unfold State.advanceInbound
  rw [noBytes, State.storeBytes]
  dsimp only
  rw [noBeat]
  simp [issued, performed, holds]

theorem run_of_performed (port : s.port true = ⟨some x, [], [], answered⟩) (one : x.portions = [p])
    (isWrite : x.request.isRead = false) (place : p.place = .receiveGuard l)
    (unfinished : p.done = false) (given : p.bytes.length = 8 * p.beats)
    (taken : p.stored.length = 8 * p.beats) (issued : p.beatsIssued = p.beats)
    (performed : p.beatsPerformed = p.beats)
    (free : ∀ c, (s.link l).inContext = some c → c.holds = false) :
    s.run true = s.setPort true ⟨none, [], [], some .acknowledged⟩ := by
  have inside : (s.port true).current = some x := by rw [port]
  have step : s.advance true x.request.isRead true true 0 x.returned.length p =
      (s, { p with started := true, issued := true, done := true }) := by
    rw [← advanceInbound_of_performed given taken issued performed free, isWrite]
    simp [State.advance, unfinished, place, Portion.atMemory, Portion.isPlain, State.advanceWriteL]
  have steps : (s.port true).steps = 2 := by rw [port]; rfl
  rw [State.run, steps, run_of_one 1 inside one step (by rw [port])]
  simp only [settledPort, if_true, port, isWrite, Bool.false_eq_true, if_false]

theorem grantPort_of_store {w : Access} {bytes : List (Option Byte)}
    (port : s.port true = ⟨some x, [], [w], answered⟩) (one : x.portions = [p])
    (first : w.portion = 0) (use : w.use = .store) (write : w.write = some bytes)
    (isWrite : x.request.isRead = false) (place : p.place = .receiveGuard l)
    (unfinished : p.done = false) (given : p.bytes.length = 8 * p.beats)
    (taken : p.stored.length = 8 * p.beats) (issued : p.beatsIssued = p.beats)
    (performed : p.beatsPerformed + 1 = p.beats)
    (free : ∀ c, (s.link l).inContext = some c → c.holds = false) :
    s.grantPort true = ({ s with
      memory := memWriteBytes s.memory w.address bytes
      completions := s.completions ++ [] } : State).setPort true
        ⟨none, [], [], some .acknowledged⟩ := by
  have stored (m : List Host.Cell) (d : List Completion) :
      ({ s.setPort true ⟨some x, [], [], answered⟩ with memory := m, completions := d } : State) =
        ({ s with memory := m, completions := d } : State).setPort true ⟨some x, [], [], answered⟩ := rfl
  have settled (t : State) (same : t.links = s.links) :
      (t.setPort true ⟨some { x with portions := [p.served .store w.address []] }, [], [],
        answered⟩).run true = t.setPort true ⟨none, [], [], some .acknowledged⟩ := by
    have free' : ∀ c, ((t.setPort true ⟨some { x with portions := [p.served .store w.address []] }, [],
        [], answered⟩).link l).inContext = some c → c.holds = false := by
      rw [State.link, TrafficKeepsContexts.setPort_links, same]
      exact free
    rw [run_of_performed (x := { x with portions := [p.served .store w.address []] })
      (p := p.served .store w.address []) (port_setPort_self ..) rfl isWrite place
      unfinished given taken issued performed free', setPort_setPort]
  obtain ⟨-, -, memory, completions⟩ := setPort_others s true ⟨some x, [], [], answered⟩
  rw [grantPort_of_one port, performAccess_of_write write, first, memory, completions, if_pos rfl,
    stored, serve_of_one (port_setPort_self ..) one, setPort_setPort, use]
  exact settled _ rfl

end lastBeat

/-! ### The two answers (R85 to R88) -/

section answers
variable {s : State} {l : LinkSlot} {c : InContext} {h : Header}
  (hc : (s.link l).inContext = some c) (asking : c.asking = true) (parsed : c.header = some h)
  (fresh : c.keyRef = none) (unset : c.early = none)

/-- The frame after an answer, of a frame without a key and without a verdict. -/
def answeredFrame (x : Link) (c : InContext) (h : Header) (k : Keystream) : Selection → InContext
  | .refused code => { c with asking := false, early := some code }
  | .replayed ref => { c with asking := false, keyRef := some ref, early := some .replay }
  | .selected ref => { c with
      asking := false
      keyRef := some ref
      keystream := k
      early := if x.state = .quarantined ∧ (h.cls = 0x00#8 ∨ h.cls = 0x04#8) then some .quarantined
        else none }

include hc asking parsed unset in
theorem selectionAnswered_inContext (a : Selection) : ∃ k : Keystream,
    ((s.selectionAnswered l c.ident a).link l).inContext = some (answeredFrame (s.link l) c h k a) := by
  cases a with
  | refused code => exact ⟨c.keystream, by
      rw [selectionAnswered_of_refused hc asking, setIn_inContext]
      rfl⟩
  | replayed ref => exact ⟨c.keystream, by
      rw [selectionAnswered_of_replayed hc asking, setIn_inContext]
      rfl⟩
  | selected ref =>
    obtain ⟨k, selected⟩ := selectionAnswered_of_selected hc asking parsed ref
    rw [unset] at selected
    exact ⟨k, selected⟩

theorem answeredFrame_asking (x : Link) (k : Keystream) (a : Selection) :
    (answeredFrame x c h k a).asking = false := by
  cases a <;> rfl

include hc asking parsed fresh unset

theorem keySelection_answers {epoch : Half} {q : Seq} {before rest : List KeyRequest}
    (waits : s.keys.requests = before ++ .selection l c.ident epoch q :: rest)
    (others : ∀ q ∈ before, q.isSelection l = false) :
    ∃ (u : State) (c' : InContext), exec (.keySelection l) s = .next u.resume ∧
      (u.link l).inContext = some c' ∧ c'.asking = false ∧ u.still = s.still ∧
      u.keys.table = s.keys.table ∧ u.keys.requests = before ++ rest ∧
      ((∀ k, (s.key k).state = .empty ∨ (s.key k).link ≠ l ∨ (s.key k).epoch ≠ epoch) →
        c'.early = some .noKey ∧ c'.keyRef = none) ∧
      ∀ k, (s.key k).state ≠ .empty → (s.key k).link = l → (s.key k).epoch = epoch →
        (∀ j, j < k → (s.key j).state = .empty ∨ (s.key j).link ≠ l ∨ (s.key j).epoch ≠ epoch) →
        let early := (s.key k).state = .pending ∧ s.time.valid = true ∧
          ∃ a, (s.key k).activation = some a ∧
            s.time.seconds.toNat < a.toNat - (s.key k).earlyGrace
        (early → c'.early = some .earlyEpoch ∧ c'.keyRef = none) ∧
        (¬early → c'.keyRef = some (.session k l epoch (s.key k).installation) ∧
          c'.early = if (s.key k).window.passes q = false then some .replay
            else if (s.link l).state = .quarantined ∧ (h.cls = 0x00#8 ∨ h.cls = 0x04#8) then
              some .quarantined
            else none) := by
  let t := tookRequest s (before ++ rest)
  obtain ⟨stream, answered⟩ := selectionAnswered_inContext (s := t) (l := l) hc asking parsed unset
    (s.selectKey l epoch q)
  have keys := selectionAnswered_keys t l c.ident (s.selectKey l epoch q)
  refine ⟨_, _, exec_keySelection_of_first waits others, answered, answeredFrame_asking .., ?_,
    (congrArg KeyUnit.table keys).trans rfl, (congrArg KeyUnit.requests keys).trans rfl, fun none_ => ?_,
    fun k standing link hasEpoch first => ?_⟩
  · rw [still_selectionAnswered]
    rfl
  · rw [selectKey_of_none fun k ⟨standing, link, hasEpoch⟩ =>
      (none_ k).elim standing fun other => other.elim (· link) (· hasEpoch)]
    exact ⟨rfl, fresh⟩
  · rw [selectKey_of_first ⟨standing, link, hasEpoch⟩ fun j lower ⟨standing', link', epoch'⟩ =>
      (first j lower).elim standing' fun other => other.elim (· link') (· epoch')]
    have isEarly := early_eq_false (s.key k) s.time
    refine ⟨fun early => ?_, fun onTime => ?_⟩
    · rw [if_pos ⟨early.1, isEarly.mpr early.2⟩]
      exact ⟨rfl, fresh⟩
    · rw [if_neg fun both => onTime ⟨both.1, isEarly.mp both.2⟩]
      have ref : (s.key k).ref k = .session k l epoch (s.key k).installation := by
        rw [← link, ← hasEpoch]
        rfl
      rw [ref]
      cases (s.key k).window.passes q
      · exact ⟨rfl, rfl⟩
      · exact ⟨rfl, rfl⟩

theorem kekSelection_answers {k : KekIndex} {q : Seq} {rest : List StoreRequest}
    (head : s.store.requests = .selection l c.ident k q :: rest)
    (kekClass : h.cls = 0x02#8 ∨ h.cls = 0x03#8) :
    ∃ (u : State) (c' : InContext), exec .kekSelection s = .next u.resume ∧
      (u.link l).inContext = some c' ∧ c'.asking = false ∧ u.still = s.still ∧
      (s.store.marker = .parked ∨ (s.kek k).state ≠ .loaded →
        c'.early = some .kekAbsent ∧ c'.keyRef = none) ∧
      (s.store.marker = .live → (s.kek k).state = .loaded →
        c'.keyRef = some (.kek k (s.erasures k)) ∧
        c'.early = if (s.kek k).highWater.toNat < q.toNat then none else some .replay) := by
  let t : State := { s with store := s.store.tookHead (.selection l c.ident k q) rest }
  obtain ⟨stream, answered⟩ := selectionAnswered_inContext (s := t) (l := l) hc asking parsed unset
    (s.selectKek k q)
  refine ⟨_, _, exec_kekSelection_of_head head, answered, answeredFrame_asking .., ?_,
    fun unusable => ?_, fun live loaded => ?_⟩
  · rw [still_selectionAnswered]
    rfl
  · rw [selectKek_of_unusable unusable]
    exact ⟨rfl, fresh⟩
  · rw [selectKek_of_usable live loaded]
    have other : ¬((t.link l).state = .quarantined ∧ (h.cls = 0x00#8 ∨ h.cls = 0x04#8)) := by
      rcases kekClass with is | is <;> simp [is]
    split
    · exact ⟨rfl, if_neg other⟩
    · exact ⟨rfl, rfl⟩

end answers

/-! ### The bytes up to the header -/

section sixteenth
variable {s : State} {l : LinkSlot} {c : InContext} {x : Nat} {b : Byte}

/-- The sixteenth header byte: the checks, and what is then asked (R84 to R86). -/
theorem takeHeader_of_last (last : x = 15) :
    let h := parseHeader (c.headerBytes ++ [b])
    let parsed := parsedFrame c x b
    let asks : InContext := { withHolding parsed h.cls with asking := true }
    let refused (code : PartCode) : State :=
      s.setIn l (some { asks with asking := c.asking, early := some code })
    (∀ code, failedCheck (s.link l) c.capacity h = some code →
      s.takeHeader l c x b = s.setIn l (some { parsed with early := some code })) ∧
    (failedCheck (s.link l) c.capacity h = none →
      (h.epoch ≠ 0 → s.takeHeader l c x b = (s.setIn l (some asks)).askKeyUnit
        (.selection l c.ident h.epoch h.sequence)) ∧
      (h.epoch = 0 → h.cls ≠ 0x02#8 → h.cls ≠ 0x03#8 → s.takeHeader l c x b = refused .noKey) ∧
      (h.epoch = 0 → h.cls = 0x02#8 ∨ h.cls = 0x03#8 →
        ((s.link l).kek = none → s.takeHeader l c x b = refused .kekAbsent) ∧
        ∀ k, (s.link l).kek = some k → s.takeHeader l c x b =
          (s.setIn l (some asks)).askStore (.selection l c.ident k h.sequence))) := by
  intro h parsed asks refused
  refine ⟨fun code failed => takeHeader_of_failed last failed, fun passed => ?_⟩
  obtain ⟨cls, ofCode⟩ := ofCode?_of_passed passed
  have named := code_of_ofCode? ofCode
  have step : s.takeHeader l c x b = s.askSelection l parsed h cls :=
    takeHeader_of_passed last passed ofCode
  rw [step]
  exact ⟨fun epoch => askSelection_of_session named epoch,
    fun epoch notRenewal notBeacon => askSelection_of_other named epoch notRenewal notBeacon,
    fun epoch kekClass => ⟨fun unbound => askSelection_of_unbound named epoch kekClass unbound,
      fun k bound => askSelection_of_bound named epoch kekClass bound⟩⟩

end sixteenth

/-- Settles O36: the two selections by the standing of the key that they find; the bytes by their place before the
header; a receive guard's write by where its bytes lie, and its last grant by the beats performed. -/
theorem selectionsFollowTheHeader : Obligations.SelectionsFollowTheHeader := by
  refine ⟨?keyUnit, ?store, ?bytes, ?inside, ?outside, ?grant⟩
  case keyUnit =>
    intro s l c h epoch q before rest waits others hc asking parsed fresh unset
    exact keySelection_answers hc asking parsed fresh unset waits others
  case store =>
    intro s l c h k q rest head hc asking parsed fresh unset kekClass
    exact kekSelection_answers hc asking parsed fresh unset head kekClass
  case bytes =>
    intro s l c x b hc receiving taken faulted
    refine ⟨fun asking => takeByte_of_asking receiving asking, fun free =>
      ⟨fun broken => takeByte_of_fault free broken, fun sound => ⟨fun gap => ?_, fun h next parsed past => ?_,
        fun next unparsed => ?_⟩⟩⟩
    · exact ⟨_, takeByte_of_gap free sound gap, streamFaultIn_facts hc⟩
    · exact ⟨_, takeByte_of_excess free sound next parsed past, streamFaultIn_facts hc⟩
    · have step : taken = some (s.takeHeader l c x b, b) := takeByte_of_header free sound next unparsed
      refine ⟨fun early => by rw [step, takeHeader_of_early early], fun last => ?_⟩
      obtain ⟨failed, passed⟩ := takeHeader_of_last (s := s) (l := l) (c := c) (b := b) last
      rw [step]
      refine ⟨fun code fails => congrArg (fun t => some (t, b)) (failed code fails), fun passes => ?_⟩
      obtain ⟨session, other, kek⟩ := passed passes
      exact ⟨fun epoch => congrArg (fun t => some (t, b)) (session epoch),
        fun epoch notRenewal notBeacon =>
          congrArg (fun t => some (t, b)) (other epoch notRenewal notBeacon),
        fun epoch kekClass => ⟨fun unbound => congrArg (fun t => some (t, b)) ((kek epoch kekClass).1 unbound),
          fun k bound => congrArg (fun t => some (t, b)) ((kek epoch kekClass).2 k bound)⟩⟩
  case inside =>
    intro s start l c bytes accepts quiet whole some_ short space places hc receiving free sound
    exact ⟨fun values full low high other => write_of_gap accepts quiet whole some_ short space places
        hc receiving free sound full low high other,
      fun before after values shape present order unparsed early fits => write_of_header accepts
        quiet whole some_ short space places hc receiving free sound shape present order unparsed
        early fits⟩
  case outside =>
    intro s start l bytes accepts quiet whole short space enabled places a beyond
    exact write_of_outside accepts quiet whole short space enabled places beyond
  case grant =>
    intro s l x p w bytes answered port granted first use write isWrite one place started
      unfinished given taken issued performed free wf
    let t : State := { s with arbiter := .l }
    refine ⟨s.grant, rfl, ?_⟩
    have step : s.grant = _ := (grant_of_port (onL := true) granted).trans
      (grantPort_of_store (s := t) (l := l) port one first use write isWrite place unfinished given
        taken issued performed free)
    rw [step]
    refine ⟨rfl, fun b => memRead_memWriteBytes b bytes w.address wf, rfl, rfl, ?_⟩
    rw [List.append_nil, still_setPort]
    rfl

end Sys2Proof.Proofs.HeaderSelections
end


section
/-! PROOFS. Transactions of one portion that the part answers itself (R49 to R53): the stray ones of port L, and the
phantom window on port P. -/

namespace Sys2Proof.Proofs.AnsweredTraffic
open Sys2Proof Sys2Proof.Machine
open Sys2Proof.Proofs.MemoryPort Sys2Proof.Proofs.Grants Sys2Proof.Proofs.DrainLimit

/-! ### A presented transaction of one portion -/

/-- The one portion of a transaction that lies in one place. -/
def onePortion (q : BusRequest) (pl : Place) : Portion :=
  { place := pl, start := q.start, beats := q.beats, bytes := q.bytes }

/-- The read of some beats, from the beat of an address on. -/
def readOf (start : Long) (beats : Nat) : BusRequest := ⟨true, start.toNat / 8 * 8, beats, []⟩

/-- The write of some bytes, from the beat of an address on. -/
def writeOf (start : Long) (bytes : List (Option Byte)) : BusRequest :=
  ⟨false, start.toNat / 8 * 8, bytes.length / 8, bytes⟩

section presented
variable {s t : State} {onL : Bool} {start : Long} {pl : Place} {p : Portion}
  (accepts : s.accepts = true) (quiet : (s.port onL).quiet = true)

section reads
variable {beats : Nat} (low : 1 ≤ beats) (high : beats ≤ 8)
  (space : start.toNat / 8 * 8 + 8 * beats ≤ 2 ^ 32) (places : s.beatsIn start beats pl = true)
  (step : (accepted s onL (readOf start beats) pl).advance onL true true true 0 0
    (onePortion (readOf start beats) pl) = (t, p))
include accepts quiet low high space places step

theorem read_settles (last : (t.port onL).presented = []) :
    exec (if onL then .portLRead start beats else .portPRead start beats) s =
      .next (t.setPort onL (settledPort (t.port onL)
        ⟨readOf start beats, [onePortion (readOf start beats) pl], []⟩ p)).closeDrained :=
  (exec_read_of_legal onL s low high space).trans (congrArg _
    (present_of_one (q := readOf start beats) accepts quiet low ((beatsIn_iff ..).mp places) (.inl rfl)
      step last))

/-- A read that is answered at once leaves its port quiet. -/
theorem read_answered (port : t.port onL = (accepted s onL (readOf start beats) pl).port onL)
    (done : p.done = true) (whole : p.answer.length = 8 * p.beats) :
    exec (if onL then .portLRead start beats else .portPRead start beats) s =
      .next (t.setPort onL ⟨none, [], [], some (.data p.answer)⟩).closeDrained := by
  have inside : t.port onL = ⟨_, [], [], (s.port onL).answered⟩ := port.trans (port_setPort_self ..)
  rw [read_settles accepts quiet low high space places step (by rw [inside]), settledPort, if_pos done,
    readyBytes_of_whole whole, inside]
  rfl

/-- A read that is not answered yet is held in its port. -/
theorem read_held {accesses : List Access}
    (port : t.port onL = { (accepted s onL (readOf start beats) pl).port onL with accesses := accesses })
    (going : p.done = false) : ∃ x : Port,
    exec (if onL then .portLRead start beats else .portPRead start beats) s =
      .next (t.setPort onL x).closeDrained ∧
    x.current.isSome = true ∧ x.answered = (s.port onL).answered ∧ x.accesses = accesses := by
  have inside : t.port onL = ⟨_, [], accesses, (s.port onL).answered⟩ :=
    port.trans (congrArg (fun x : Port => { x with accesses := accesses }) (port_setPort_self ..))
  refine ⟨_, read_settles accepts quiet low high space places step (by rw [inside]), ?_, ?_, ?_⟩
  all_goals rw [settledPort, if_neg (by simp [going]), inside]
  · rfl

end reads

include accepts quiet in
/-- A write that the part discards is acknowledged at once. -/
theorem write_discarded {bytes : List (Option Byte)} (whole : bytes.length % 8 = 0)
    (some_ : bytes.length ≠ 0) (high : bytes.length ≤ 64)
    (space : start.toNat / 8 * 8 + bytes.length ≤ 2 ^ 32)
    (places : s.beatsIn start (bytes.length / 8) pl = true)
    (step : (accepted s onL (writeOf start bytes) pl).advance onL false true true 0 0
      (onePortion (writeOf start bytes) pl) = (t, p))
    (port : t.port onL = (accepted s onL (writeOf start bytes) pl).port onL) (done : p.done = true) :
    exec (if onL then .portLWrite start bytes else .portPWrite start bytes) s =
      .next (t.setPort onL ⟨none, [], [], some .acknowledged⟩).closeDrained := by
  have inside : t.port onL = ⟨_, [], [], (s.port onL).answered⟩ := port.trans (port_setPort_self ..)
  have settles := present_of_one (q := writeOf start bytes) accepts quiet
    (show 1 ≤ bytes.length / 8 by omega) ((beatsIn_iff ..).mp places)
    (.inr (show bytes.length = 8 * (bytes.length / 8) by omega)) step (by rw [inside])
  rw [settledPort, if_pos done, inside] at settles
  exact (exec_write_of_legal onL s whole some_ high space).trans (congrArg _ settles)

end presented

/-! ### Stray traffic of port L (R49 to R51, R53) -/

section stray
variable {s : State} {p : Portion} (fresh : p.done = false) (new : p.started = false) (n : Nat)
include fresh new

theorem advance_of_strayRead {l : LinkSlot} (stray : s.strayRead p.place = some l) :
    s.advance true true true true 0 n p = (s.fault (some l) p.start, p.zeroed) := by
  have outbound (m : LinkSlot) (phantom : Bool)
      (shut : (if (s.link m).outContext.isNone then some m else none) = some l) :
      s.advanceOutbound m phantom 0 n p = (s.fault (some l) p.start, p.zeroed) := by
    split at shut
    · next none =>
      cases shut
      simp [State.advanceOutbound, Option.isNone_iff_eq_none.mp none, new]
    · cases shut
  have owned : s.advance true true true true 0 n p = s.advanceReadL 0 n p := by
    cases place : p.place <;> rw [place] at stray <;>
      simp [State.advance, fresh, new, Portion.atMemory]
  rw [owned, State.advanceReadL]
  cases place : p.place <;> rw [place] at stray
  case receiveGuard m =>
    cases stray
    rfl
  case transmitGuard m => exact outbound m false stray
  case phantom m base => exact outbound m true stray
  all_goals cases stray

theorem advance_of_strayWrite {link : Option LinkSlot} (stray : p.place.strayWrite = some link) :
    s.advance true false true true 0 n p = (s.fault link p.start, p.discarded) := by
  have owned : s.advance true false true true 0 n p = s.advanceWriteL 0 p := by
    simp [State.advance, fresh, new, Portion.atMemory]
  rw [owned, State.advanceWriteL]
  cases place : p.place <;> rw [place] at stray <;> cases stray <;> rfl

end stray

section port
variable {s : State} {start : Long} {pl : Place}
  (accepts : s.accepts = true) (quiet : s.steering.l.quiet = true)
include accepts quiet

theorem strayRead_faults {beats : Nat} {l : LinkSlot} (low : 1 ≤ beats) (high : beats ≤ 8)
    (space : start.toNat / 8 * 8 + 8 * beats ≤ 2 ^ 32) (places : s.beatsIn start beats pl = true)
    (stray : s.strayRead pl = some l) :
    ∃ u : State, exec (.portLRead start beats) s = .next u.closeDrained ∧
      u.steering.l = ⟨none, [], [], some (.data (zeroes (8 * beats)))⟩ ∧
      u.mail = { s.mail with
        reports := s.mail.reports ++ [ringFaultPosting (some l) (start.toNat / 8 * 8)] } ∧
      u.still = s.still ∧ u.links = s.links ∧ u.steering.p = s.steering.p := by
  have stray' : (accepted s true (readOf start beats) pl).strayRead pl = some l := stray
  have whole : (onePortion (readOf start beats) pl).zeroed.answer = zeroes (8 * beats) := by
    simp [Portion.zeroed, onePortion, readOf]
  have runs := read_answered (onL := true) accepts quiet low high space places
    (advance_of_strayRead (p := onePortion (readOf start beats) pl) rfl rfl 0 stray') rfl rfl
    (by rw [whole]; simp [zeroes, Portion.zeroed, onePortion, readOf])
  rw [whole] at runs
  exact ⟨_, runs, rfl, rfl, (still_setPort ..).trans (still_setPort s true _), rfl, rfl⟩

theorem strayWrite_faults {bytes : List (Option Byte)} {link : Option LinkSlot}
    (whole : bytes.length % 8 = 0) (some_ : bytes.length ≠ 0) (high : bytes.length ≤ 64)
    (space : start.toNat / 8 * 8 + bytes.length ≤ 2 ^ 32)
    (places : s.beatsIn start (bytes.length / 8) pl = true) (stray : pl.strayWrite = some link) :
    ∃ u : State, exec (.portLWrite start bytes) s = .next u.closeDrained ∧
      u.steering.l = ⟨none, [], [], some .acknowledged⟩ ∧
      u.mail = { s.mail with
        reports := s.mail.reports ++ [ringFaultPosting link (start.toNat / 8 * 8)] } ∧
      u.still = s.still ∧ u.links = s.links ∧ u.steering.p = s.steering.p :=
  ⟨_, write_discarded (onL := true) accepts quiet whole some_ high space places
      (advance_of_strayWrite (p := onePortion (writeOf start bytes) pl) rfl rfl 0 stray) rfl rfl,
    rfl, rfl, (still_setPort ..).trans (still_setPort s true _), rfl, rfl⟩

end port

/-! ### The phantom window on port P (R53) -/

/-- An address in the phantom window lies in the sub-window of its link. -/
theorem phantom_of_place {m : RegionMap} {a base : Nat} {l : LinkSlot}
    (h : m.place a = .phantom l base) : base ≤ a ∧ a < base + 512 ∧ (a - base) / 64 = l.val := by
  unfold RegionMap.place at h
  split at h
  · cases h
  · split at h
    · cases h
    · split at h
      · rename_i found
        subst h
        obtain ⟨i, -, inside⟩ := List.exists_of_findSome?_eq_some found
        obtain ⟨x, -, e⟩ := Option.map_eq_some_iff.mp inside
        cases e
      · split at h
        · cases h
        · split at h
          · cases h
          · split at h
            · rename_i found
              cases h
              obtain ⟨-, within⟩ := Option.filter_eq_some_iff.mp found
              obtain ⟨low, high⟩ := (inRange_iff _ _).mp within
              refine ⟨low, high, ?_⟩
              rw [Fin.val_ofNat, Nat.mod_eq_of_lt (by dsimp only at low high; omega)]
            · cases h

/-- Every byte of the beats lies in the sub-window. -/
theorem phantom_of_beats {s : State} {start : Long} {beats base : Nat} {l : LinkSlot}
    (places : s.beatsIn start beats (.phantom l base) = true) (aligned : base % 512 = 0) {j : Nat}
    (within : j < 8 * beats) :
    (start.toNat / 8 * 8 + j - base) / 64 = l.val ∧
      (start.toNat / 8 * 8 + j - base) % 64 = start.toNat / 8 * 8 + j - (base + 64 * l.val) := by
  have place := (beatsIn_iff ..).mp places (j / 8) (by omega)
  obtain ⟨low, high, sub⟩ := phantom_of_place place
  simp only [firstBeat] at low high sub
  omega

/-- What port P sees at an offset of the sub-window of a substituted frame. -/
def phantomShown (c : OutContext) (o : Nat) : Byte :=
  if o < 16 then (match c.header with | some h => byteAt h o | none => 0x00#8)
  else if o < 24 then (if c.contentsComplete then byteAt c.contents (o - 16) else 0x00#8)
  else if o < 32 then
    (match c.tag.value with
      | some v => BitVec.ofNat 8 (v / 256 ^ (o - 24))
      | none => 0x00#8)
  else 0x00#8

theorem byteAt_nil (i : Nat) : byteAt [] i = 0 := rfl

section shown
variable {s : State} {l : LinkSlot} {base a : Nat} (sub : (a - base) / 64 = l.val)
include sub

theorem phantomByte_of_none (shut : (s.link l).outContext.all (fun c => !c.substituted) = true) :
    s.phantomByte base a = 0 := by
  have none : (s.link l).outContext.filter (·.substituted) = none := by
    rw [Option.filter_eq_none_iff]
    intro c hc
    rw [hc] at shut
    simpa using shut
  rw [State.phantomByte, sub, Fin.ofNat_val_eq_self, none]

theorem phantomByte_of_open {c : OutContext} (hc : (s.link l).outContext = some c)
    (substituted : c.substituted = true) : s.phantomByte base a = phantomShown c ((a - base) % 64) := by
  have kept : (some c).filter (·.substituted) = some c := by simp [substituted]
  rw [State.phantomByte, sub, Fin.ofNat_val_eq_self, hc, kept]
  unfold phantomShown
  dsimp only
  split
  · cases c.header <;> rfl
  · split
    · rfl
    · split
      · cases c.tag.value with
        | none => rfl
        | some v => exact byteAt_tagBytes v (by omega)
      · rfl

end shown

/-- A read of the phantom window on port P is answered by the outbound engine. -/
theorem advance_of_phantomRead {s : State} {p : Portion} {l : LinkSlot} {base : Nat}
    (place : p.place = .phantom l base) (fresh : p.done = false) (new : p.started = false) (n : Nat) :
    s.advance false true true true 0 n p = (s, { p.discarded with
      answer := (List.range (8 * p.beats)).map (fun j => s.phantomByte base (p.start + j)) }) := by
  simp [State.advance, State.advanceP, Portion.atMemory, place, fresh, new]

theorem advance_of_phantomWrite {s : State} {p : Portion} {l : LinkSlot} {base : Nat}
    (place : p.place = .phantom l base) (fresh : p.done = false) (new : p.started = false) (n : Nat) :
    s.advance false false true true 0 n p = (s, p.discarded) := by
  simp [State.advance, State.advanceP, Portion.atMemory, place, fresh, new]

section window
variable {s : State} {start : Long} {l : LinkSlot} {base : Nat}
  (accepts : s.accepts = true) (quiet : s.steering.p.quiet = true)
include accepts quiet

/-- Port P reads the bytes of the sub-window. -/
theorem phantomRead_answered {beats : Nat} (low : 1 ≤ beats) (high : beats ≤ 8)
    (space : start.toNat / 8 * 8 + 8 * beats ≤ 2 ^ 32)
    (places : s.beatsIn start beats (.phantom l base) = true) {f : Nat → Byte}
    (bytes : ∀ j, j < 8 * beats → s.phantomByte base (start.toNat / 8 * 8 + j) = f j) :
    ∃ u : State, exec (.portPRead start beats) s = .next u.closeDrained ∧
      u.steering.p = ⟨none, [], [], some (.data ((List.range (8 * beats)).map f))⟩ ∧
      u.still = s.still ∧ u.links = s.links ∧ u.mail = s.mail ∧ u.steering.l = s.steering.l := by
  have same : (List.range (8 * beats)).map
      (fun j => s.phantomByte base (start.toNat / 8 * 8 + j)) = (List.range (8 * beats)).map f :=
    List.map_congr_left fun j mem => bytes j (List.mem_range.mp mem)
  have runs := read_answered (onL := false) accepts quiet low high space places
    (advance_of_phantomRead (p := onePortion (readOf start beats) (.phantom l base)) rfl rfl rfl 0) rfl
    rfl (by simp [Portion.discarded])
  refine ⟨_, runs, ?_, (still_setPort ..).trans (still_setPort s false _), rfl, rfl, rfl⟩
  rw [← same]
  rfl

theorem phantomWrite_discarded {bytes : List (Option Byte)} (whole : bytes.length % 8 = 0)
    (some_ : bytes.length ≠ 0) (high : bytes.length ≤ 64)
    (space : start.toNat / 8 * 8 + bytes.length ≤ 2 ^ 32)
    (places : s.beatsIn start (bytes.length / 8) (.phantom l base) = true) :
    ∃ u : State, exec (.portPWrite start bytes) s = .next u.closeDrained ∧
      u.steering.p = ⟨none, [], [], some .acknowledged⟩ ∧
      u.still = s.still ∧ u.links = s.links ∧ u.mail = s.mail ∧ u.steering.l = s.steering.l :=
  ⟨_, write_discarded (onL := false) accepts quiet whole some_ high space places
      (advance_of_phantomWrite (p := onePortion (writeOf start bytes) (.phantom l base)) rfl rfl rfl 0)
      rfl rfl,
    rfl, (still_setPort ..).trans (still_setPort s false _), rfl, rfl, rfl⟩

end window

end Sys2Proof.Proofs.AnsweredTraffic
end


section
/-! PROOFS. The bytes of an outbound frame that a read is answered with (R63, R64, R77). -/

namespace Sys2Proof.Proofs.ServedBytes
open Sys2Proof Sys2Proof.Machine
open Sys2Proof.Proofs.ReadData Sys2Proof.Proofs.DrainLimit

/-! ### Coverage moved on (R64) -/

/-- The context whose payload is absorbed through an offset. -/
def coveredTo (c : OutContext) (plain : Nat → Byte) (m : Nat) : OutContext :=
  { c with coverage := m, tag := c.tagThrough plain m }

section
variable (c : OutContext) (plain : Nat → Byte)

theorem coveredTo_coverage : coveredTo c plain c.coverage = c := by
  rw [coveredTo, tagThrough_coverage]

/-- A tag through an offset that is covered already is the tag as it stands. -/
theorem tagThrough_of_covered {upto : Nat} (covered : upto ≤ c.coverage) : c.tagThrough plain upto = c.tag := by
  simp [OutContext.tagThrough, Nat.sub_eq_zero_of_le covered, Tag.absorbAll, Nat.not_lt_of_le covered]

theorem coveredTo_max (upto : Nat) : coveredTo c plain (max c.coverage upto) =
    { c with coverage := max c.coverage upto, tag := c.tagThrough plain upto } := by
  unfold coveredTo
  by_cases covered : upto ≤ c.coverage
  · rw [Nat.max_eq_left covered, tagThrough_coverage, tagThrough_of_covered c plain covered]
  · rw [Nat.max_eq_right (by omega)]

theorem absorbAll_append (xs ys : List Byte) (t : Tag) :
    t.absorbAll (xs ++ ys) = (t.absorbAll xs).absorbAll ys := by
  induction xs generalizing t with
  | nil => rfl
  | cons x xs ih => exact ih (t.absorb x)

theorem absorbAll_keys (bs : List Byte) (t : Tag) : (t.absorbAll bs).keys = t.keys := by
  induction bs generalizing t with
  | nil => rfl
  | cons b bs ih => exact (ih (t.absorb b)).trans (absorb_keys t b)

theorem tagThrough_keys (upto : Nat) : (c.tagThrough plain upto).keys = c.tag.keys := by
  unfold OutContext.tagThrough
  dsimp only
  split
  · rw [finish_keys, absorbAll_keys]
  · rw [absorbAll_keys]

variable {c plain} {m : Nat}

/-- The tag through one byte more. -/
theorem tagThrough_succ (low : c.coverage ≤ m) (more : m < c.len) : c.tagThrough plain (m + 1) =
    if m + 1 = c.len then ((c.tagThrough plain m).absorb (c.cipherAt plain m)).finish
    else (c.tagThrough plain m).absorb (c.cipherAt plain m) := by
  have bytes : (List.range (m + 1 - c.coverage)).map (fun j => c.cipherAt plain (c.coverage + j)) =
      (List.range (m - c.coverage)).map (fun j => c.cipherAt plain (c.coverage + j)) ++
        [c.cipherAt plain m] := by
    rw [show m + 1 - c.coverage = (m - c.coverage) + 1 by omega, List.range_succ, List.map_append,
      List.map_singleton, show c.coverage + (m - c.coverage) = m by omega]
  have under : ¬(c.coverage < m ∧ m = c.len) := by omega
  have reached : c.coverage < m + 1 := by omega
  unfold OutContext.tagThrough
  rw [bytes, absorbAll_append, if_neg under]
  simp only [reached, true_and]
  rfl

/-- The payload byte at coverage enciphered moves coverage on; any other leaves it. -/
theorem encipher_coveredTo {k : Nat} {key : Byte} (low : c.coverage ≤ m) (inside : k < c.len)
    (cipher : plain k ^^^ key = c.cipherAt plain k) :
    (coveredTo c plain m).encipher k (plain k) key =
      (coveredTo c plain (if k = m then m + 1 else m), c.cipherAt plain k) := by
  rw [OutContext.encipher, cipher]
  by_cases at_ : k = m
  · subst at_
    have tag := tagThrough_succ (plain := plain) low inside
    rw [if_pos (show k = (coveredTo c plain k).coverage from rfl), if_pos rfl]
    exact (congrArg (fun t => (({ c with coverage := k + 1, tag := t } : OutContext),
      c.cipherAt plain k)) tag).symm
  · rw [if_neg (show ¬k = (coveredTo c plain m).coverage from at_), if_neg at_]

end

/-! ### One byte (R63) -/

section byte
variable {c : OutContext} {plain : Nat → Byte} {fetched : Option (Nat × List Byte)} {a : Nat}
  {h : List Byte}

theorem serveByte_of_outside (outside : a < c.pointer ∨ c.pointer + 24 + c.len ≤ a) :
    c.serveByte fetched a = some (c, 0) :=
  if_pos (by unfold extentLength; omega)

section inside
variable (low : c.pointer ≤ a) (high : a < c.pointer + 24 + c.len)
include low high

theorem not_outside : ¬(a < c.pointer ∨ c.pointer + extentLength c.len ≤ a) := by
  unfold extentLength
  omega

theorem serveByte_of_header (short : a < c.pointer + 16) :
    c.serveByte fetched a = c.header.map (fun h => (c, byteAt h (a - c.pointer))) := by
  rw [OutContext.serveByte, if_neg (not_outside low high)]
  exact if_pos (by omega)

theorem serveByte_of_parts {p k : Byte} {keys : Nat × Nat} (past : c.pointer + 16 ≤ a)
    (inside : a < c.pointer + 16 + c.len) (data : c.plain? fetched (a - c.pointer - 16) = some p)
    (key : keystreamByte c.keystream.held (a - c.pointer - 16) = some k) (some_ : c.tag.keys = some keys) :
    c.serveByte fetched a = some (c.encipher (a - c.pointer - 16) p k) := by
  rw [OutContext.serveByte, if_neg (not_outside low high)]
  refine (if_neg (by omega)).trans ((if_pos (by omega)).trans ?_)
  rw [data, key, some_]

theorem serveByte_of_trailer {d : OutContext} {v : Nat} (past : c.pointer + 16 + c.len ≤ a)
    (complete : ¬(c.substituted = true ∧ c.contentsComplete = false))
    (completed : c.completeSubstituted 8 = d) (len : d.len = c.len) (value : d.tag.value = some v) :
    c.serveByte fetched a = some (d, BitVec.ofNat 8 (v / 256 ^ (a - c.pointer - 16 - c.len))) := by
  rw [OutContext.serveByte, if_neg (not_outside low high)]
  refine (if_neg (by omega)).trans ((if_neg (by omega)).trans ((if_neg complete).trans ?_))
  dsimp only
  rw [completed, value, Option.map_some, len, byteAt_tagBytes v (by omega)]

theorem serveByte_of_untagged (past : c.pointer + 16 + c.len ≤ a)
    (value : (c.completeSubstituted 8).tag.value = none) : c.serveByte fetched a = none := by
  rw [OutContext.serveByte, if_neg (not_outside low high)]
  refine (if_neg (by omega)).trans ((if_neg (by omega)).trans ?_)
  split
  · rfl
  · dsimp only
    rw [value, Option.map_none]

end inside

/-- A payload byte whose memory beats are not at hand is not ready. -/
theorem serveByte_of_unfetched (software : c.substituted = false) (past : c.pointer + 16 ≤ a)
    (inside : a < c.pointer + 16 + c.len) : c.serveByte none a = none := by
  have data : c.plain? none (a - c.pointer - 16) = none := by
    simp [OutContext.plain?, software]
  rw [OutContext.serveByte, if_neg (not_outside (by omega) (by omega))]
  refine (if_neg (by omega)).trans ((if_pos (by omega)).trans ?_)
  rw [data]

/-- The answer of an address in the header. -/
theorem answerAt_of_header (c : OutContext) {v : Nat} (low : c.pointer ≤ a) (short : a < c.pointer + 16) :
    c.answerAt h plain v a = byteAt h (a - c.pointer) := by
  rw [OutContext.answerAt, if_neg (by omega), if_pos short]

theorem answerAt_of_payload (c : OutContext) {v : Nat} (past : c.pointer + 16 ≤ a)
    (inside : a < c.pointer + 16 + c.len) :
    c.answerAt h plain v a = c.cipherAt plain (a - c.pointer - 16) := by
  rw [OutContext.answerAt, if_neg (by omega), if_neg (by omega), if_pos inside]

theorem answerAt_of_trailer (c : OutContext) {v : Nat} (past : c.pointer + 16 + c.len ≤ a)
    (high : a < c.pointer + 24 + c.len) :
    c.answerAt h plain v a = BitVec.ofNat 8 (v / 256 ^ (a - c.pointer - 16 - c.len)) := by
  rw [OutContext.answerAt, if_neg (by omega), if_neg (by omega), if_neg (by omega)]

theorem answerAt_of_outside (c : OutContext) {v : Nat}
    (outside : a < c.pointer ∨ c.pointer + 24 + c.len ≤ a) : c.answerAt h plain v a = 0 :=
  if_pos outside

/-- Outside the payload and the trailer nothing is absorbed. -/
theorem serveByte_of_plain (c : OutContext) {v : Nat} (header : c.header = some h)
    (other : a < c.pointer + 16 ∨ c.pointer + 24 + c.len ≤ a) :
    c.serveByte fetched a = some (c, c.answerAt h plain v a) := by
  by_cases outside : a < c.pointer ∨ c.pointer + 24 + c.len ≤ a
  · rw [serveByte_of_outside outside, answerAt_of_outside c outside]
  · rw [serveByte_of_header (by omega) (by omega) (by omega), header,
      answerAt_of_header c (by omega) (by omega)]
    rfl

/-- A payload byte whose plaintext and keystream are at hand is answered (R63). -/
theorem serveByte_of_ready {m v : Nat} (past : c.pointer + 16 ≤ a) (inside : a < c.pointer + 16 + c.len)
    (low : c.coverage ≤ m) (keys : c.tag.keys.isSome = true)
    (held : (c.keystream.held.lookup (1 + (a - c.pointer - 16) / 16)).isSome = true)
    (data : c.plain? fetched (a - c.pointer - 16) = some (plain (a - c.pointer - 16))) :
    (coveredTo c plain m).serveByte fetched a =
      some (coveredTo c plain (if a - c.pointer - 16 = m then m + 1 else m),
        c.answerAt h plain v a) := by
  have key := keystreamByte_of_held held
  obtain ⟨pair, some_⟩ := Option.isSome_iff_exists.mp ((tagThrough_keys c plain m).symm ▸ keys)
  rw [serveByte_of_parts (c := coveredTo c plain m) (show c.pointer ≤ a by omega)
      (show a < c.pointer + 24 + c.len by omega) past inside data key some_,
    answerAt_of_payload c past inside]
  exact congrArg some (encipher_coveredTo low (show a - c.pointer - 16 < c.len by omega) rfl)

end byte

/-! ### A keepalive's contents absorbed to their end (R77) -/

theorem completeSubstituted_of_plain {c : OutContext} (n : Nat)
    (nothing : c.substituted = false ∨ c.len ≤ c.coverage) : c.completeSubstituted n = c := by
  cases n with
  | zero => rfl
  | succ n =>
    refine if_neg ?_
    rintro ⟨substituted, -, more, -⟩
    rcases nothing with software | covered
    · simp [software] at substituted
    · omega

theorem completeSubstituted_coveredTo {c : OutContext} (substituted : c.substituted = true)
    (complete : c.contentsComplete = true) (keys : c.tag.keys.isSome = true)
    (held : ∀ o, o < c.len → (c.keystream.held.lookup (1 + o / 16)).isSome = true) :
    ∀ (n m : Nat), c.coverage ≤ m → c.len ≤ m + n →
      (coveredTo c (byteAt c.contents) m).completeSubstituted n =
        coveredTo c (byteAt c.contents) (max m c.len)
  | 0, m, _, enough => by rw [Nat.max_eq_left (by omega)]; rfl
  | n + 1, m, low, enough => by
    by_cases covered : c.len ≤ m
    · rw [Nat.max_eq_left covered]
      exact completeSubstituted_of_plain (n + 1) (.inr covered)
    · have more : m < c.len := by omega
      have key := keystreamByte_of_held (held m more)
      have keys' : (coveredTo c (byteAt c.contents) m).tag.keys.isSome = true :=
        (tagThrough_keys c (byteAt c.contents) m).symm ▸ keys
      have next := completeSubstituted_coveredTo substituted complete keys held n (m + 1) (by omega)
        (by omega)
      have step := encipher_coveredTo (c := c) (plain := byteAt c.contents) (k := m) low more rfl
      rw [if_pos rfl] at step
      rw [OutContext.completeSubstituted, if_pos ⟨substituted, complete, more, keys'⟩,
        show keystreamByte (coveredTo c (byteAt c.contents) m).keystream.held
          (coveredTo c (byteAt c.contents) m).coverage = _ from key]
      dsimp only
      rw [show max m c.len = max (m + 1) c.len by omega, ← next]
      exact congrArg (fun r : OutContext × Byte => r.1.completeSubstituted n) step

/-! ### A range of bytes -/

/-- Bytes that are each ready are all answered. -/
theorem serve_of_steps {fetched : Option (Nat × List Byte)} {f : Nat → Byte}
    {stands : Nat → OutContext → Prop} {z : Nat} : ∀ (n b : Nat), b + n = z →
    (∀ a c, b ≤ a → a < z → stands a c →
      ∃ c', c.serveByte fetched a = some (c', f a) ∧ stands (a + 1) c') →
    ∀ (c : OutContext) (answer : List Byte), stands b c →
      ∃ c', c.serve fetched (List.range' b n) answer = (c', answer ++ (List.range' b n).map f) ∧
        stands z c'
  | 0, b, ends, _, c, answer, at_ => ⟨c, by simp [OutContext.serve], by rwa [← ends]⟩
  | n + 1, b, ends, step, c, answer, at_ => by
    obtain ⟨c', byte, next⟩ := step b c (le_refl b) (by omega) at_
    obtain ⟨c'', serves, final⟩ := serve_of_steps n (b + 1) (by omega)
      (fun a c low high => step a c (by omega) high) c' (answer ++ [f b]) next
    refine ⟨c'', ?_, final⟩
    rw [List.range'_succ, OutContext.serve, byte]
    dsimp only
    rw [serves, List.map_cons, List.append_assoc]
    rfl

/-- Bytes that leave the frame as it is, one of which is not ready, stay unanswered from there on. -/
theorem serve_of_stop {c : OutContext} {fetched : Option (Nat × List Byte)} (xs : List Nat)
    (answer : List Byte)
    (keeps : ∀ a ∈ xs, c.serveByte fetched a = none ∨ ∃ b, c.serveByte fetched a = some (c, b))
    (stops : ∃ a ∈ xs, c.serveByte fetched a = none) :
    ∃ bytes, c.serve fetched xs answer = (c, answer ++ bytes) ∧ bytes.length < xs.length := by
  induction xs generalizing answer with
  | nil =>
    obtain ⟨a, mem, -⟩ := stops
    cases mem
  | cons x xs ih =>
    rcases keeps x List.mem_cons_self with stop | ⟨b, byte⟩
    · exact ⟨[], by simp [OutContext.serve, stop], by simp⟩
    · obtain ⟨a, mem, stop⟩ := stops
      have later : a ∈ xs := (List.mem_cons.mp mem).resolve_left fun e => by
        rw [e, byte] at stop
        cases stop
      obtain ⟨bytes, serves, short⟩ := ih (answer ++ [b])
        (fun a mem => keeps a (List.mem_cons_of_mem x mem)) ⟨a, later, stop⟩
      refine ⟨b :: bytes, ?_, by simpa using short⟩
      rw [OutContext.serve, byte]
      dsimp only
      rw [serves, List.append_assoc]
      rfl

end Sys2Proof.Proofs.ServedBytes
end


section
/-! PROOFS. Reads of an open outbound extent (R57, R60 to R70, R77): the portion taken, the fill or the payload read
that it begins, and the bytes answered at once. -/

namespace Sys2Proof.Proofs.ExtentReads
open Sys2Proof Sys2Proof.Machine
open Sys2Proof.Proofs.KeyChanges Sys2Proof.Proofs.CipherTaking Sys2Proof.Proofs.MemoryPort
open Sys2Proof.Proofs.ReadData Sys2Proof.Proofs.TrafficKeepsContexts Sys2Proof.Proofs.DrainLimit
open Sys2Proof.Proofs.AnsweredTraffic Sys2Proof.Proofs.ServedBytes

/-! ### What taking a portion leaves (R61) -/

section untouched
variable (s : State) (l : LinkSlot)

@[simp] theorem feedOut_steering : (s.feedOut l).steering = s.steering := by
  unfold State.feedOut
  (repeat' split) <;> simp

@[simp] theorem moveOutWindow_steering (w : Nat) : (s.moveOutWindow l w).steering = s.steering := by
  unfold State.moveOutWindow
  (repeat' split) <;> simp

theorem queueRead_steering (r : InternalRead) : (s.queueRead r).steering = s.steering := by
  unfold State.queueRead
  split <;> rfl

theorem setOut_same {s : State} {l : LinkSlot} {c : OutContext} (hc : (s.link l).outContext = some c) :
    s.setOut l (some c) = s := by
  rw [State.setOut, ← hc]
  exact setLink_same s l

/-- A window that stands at a block stays there. -/
theorem moveOutWindow_same {s : State} {l : LinkSlot} {c : OutContext} {w : Nat}
    (hc : (s.link l).outContext = some c) (at_ : c.keystream.start = w) : s.moveOutWindow l w = s := by
  simp only [State.moveOutWindow, hc, at_, if_true]

/-- A fill begins: the window follows it, and its first read is queued (R65). -/
theorem startFill_facts {s : State} {l : LinkSlot} {c : OutContext}
    (hc : (s.link l).outContext = some c) (first last : Nat) :
    ∃ k : Keystream, k.start = blockOf first ∧
      ((s.startFill l first last).link l).outContext =
        some { c with fill := some ⟨first, last, true, none⟩, keystream := k } ∧
      (s.startFill l first last).steering = s.steering ∧ (s.startFill l first last).mail = s.mail ∧
      (s.startFill l first last).internal.reads ++ (s.startFill l first last).internal.waitingReads =
        s.internal.reads ++ s.internal.waitingReads ++
          [c.fillRead l ⟨first, last, true, none⟩] := by
  obtain ⟨k, start, -, context⟩ := moveOutWindow_outContext (blockOf first)
    (setOut_outContext s l (some { c with fill := some ⟨first, last, true, none⟩ }))
  have step : s.startFill l first last =
      ((s.setOut l (some { c with fill := some ⟨first, last, true, none⟩ })).moveOutWindow l
        (blockOf first)).queueRead (c.fillRead l ⟨first, last, true, none⟩) := by
    simp only [State.startFill, hc]
  rw [step]
  refine ⟨k, start, ?_, ?_, ?_, ?_⟩
  · rw [queueRead_link, context]
  · rw [queueRead_steering, moveOutWindow_steering, State.setOut_steering]
  · rw [queueRead_mail, moveOutWindow_mail]
    rfl
  · rw [queueRead_reads, moveOutWindow_internal]
    rfl

end untouched

/-! ### A portion of the frame -/

/-- The place of a read shows the open frame: its guard, or for a substituted frame its sub-window. -/
def Shows (l : LinkSlot) (c : OutContext) (pl : Place) : Prop :=
  (pl = .transmitGuard l ∧ c.substituted = false) ∨ ∃ base, pl = .phantom l base ∧ c.substituted = true

/-- The portion touches the extent of the frame. -/
def Touches (c : OutContext) (p : Portion) : Prop :=
  max p.start c.pointer < min (p.start + 8 * p.beats) (c.pointer + 24 + c.len)

/-- The portion carries payload bytes of the frame. -/
def Carries (c : OutContext) (p : Portion) : Prop :=
  max p.start (c.pointer + 16) < min (p.start + 8 * p.beats) (c.pointer + 16 + c.len)

theorem carriesPayload_iff (c : OutContext) (p : Portion) : p.carriesPayload c = true ↔ Carries c p :=
  decide_eq_true_iff

/-- The first payload offset of a portion. -/
def firstOffset (c : OutContext) (p : Portion) : Nat :=
  max p.start (c.pointer + 16) - (c.pointer + 16)

theorem advance_of_extent {s : State} {l : LinkSlot} {c : OutContext} {p : Portion}
    (shows : Shows l c p.place) (going : p.done = false) (n : Nat) :
    s.advance true true true true 0 n p = s.advanceOutbound l c.substituted 0 n p := by
  rcases shows with ⟨place, software⟩ | ⟨base, place, substituted⟩
  · rw [software]
    simp [State.advance, going, Portion.atMemory, Portion.isPlain, place, State.advanceReadL]
  · rw [substituted]
    simp [State.advance, going, Portion.atMemory, Portion.isPlain, place, State.advanceReadL]

section portion
variable {s : State} {l : LinkSlot} {c : OutContext} {p : Portion}

theorem unanswered_eq (p : Portion) : p.unanswered =
    List.range' (p.start + p.answer.length) (8 * p.beats - p.answer.length) := by
  have all : (List.range (8 * p.beats)).map (· + p.start) = List.range' p.start (8 * p.beats) := by
    rw [List.range'_eq_map_range]
    exact List.map_congr_left fun j _ => Nat.add_comm j p.start
  rw [Portion.unanswered, all, List.drop_range', Nat.mul_one]

section taken
variable (hc : (s.link l).outContext = some c) (touches : Touches c p)
include hc touches

theorem advanceOutbound_of_open (sound : c.lost = none) (i n : Nat) :
    s.advanceOutbound l c.substituted i n p =
      match c.binding with
      | .unbound => (s.beginRelease l c, p)
      | .sequenceAsked => (s, p)
      | .commitAsked => (s, p)
      | .bound =>
        (if p.started then s else s.takePortion l c p).servePortion l i { p with started := true } := by
  have touched : p.touches c.pointer (c.pointer + extentLength c.len) = true :=
    decide_eq_true (by unfold Touches at touches; unfold extentLength; omega)
  unfold State.advanceOutbound
  rw [hc]
  exact (if_pos ⟨rfl, touched⟩).trans (if_neg (by simp [sound]))

theorem advanceOutbound_of_unbound (sound : c.lost = none) (unbound : c.binding = .unbound) (i n : Nat) :
    s.advanceOutbound l c.substituted i n p = (s.beginRelease l c, p) := by
  rw [advanceOutbound_of_open hc touches sound, unbound]

theorem advanceOutbound_of_taken (sound : c.lost = none) (bound : c.binding = .bound)
    (new : p.started = false) (i n : Nat) : s.advanceOutbound l c.substituted i n p =
      (s.takePortion l c p).servePortion l i { p with started := true } := by
  rw [advanceOutbound_of_open hc touches sound, bound, new]
  rfl

theorem advanceOutbound_of_started (sound : c.lost = none) (bound : c.binding = .bound)
    (started : p.started = true) (i n : Nat) : s.advanceOutbound l c.substituted i n p =
      s.servePortion l i { p with started := true } := by
  rw [advanceOutbound_of_open hc touches sound, bound, started]
  rfl

end taken

/-- A portion of header bytes, of a covered trailer, or of a substituted frame's other bytes is served at once. -/
theorem takePortion_of_plain (noPayload : ¬Carries c p)
    (covered : c.substituted = true ∨ p.start + 8 * p.beats ≤ c.pointer + 16 + c.len ∨ c.len ≤ c.coverage) :
    s.takePortion l c p = s := by
  unfold State.takePortion
  dsimp only
  rw [if_neg (fun carries => noPayload ((carriesPayload_iff c p).mp carries))]
  by_cases substituted : c.substituted = true
  · rw [if_pos substituted]
  · rw [if_neg substituted, if_neg]
    rintro ⟨touched, more⟩
    have inside := of_decide_eq_true touched
    rcases covered with is | before | full
    · exact substituted is
    · omega
    · omega

theorem takePortion_of_covered (carries : Carries c p)
    (covered : c.substituted = true ∨ firstOffset c p ≤ c.coverage) :
    s.takePortion l c p = s.moveOutWindow l (blockOf (firstOffset c p)) := by
  unfold State.takePortion
  dsimp only
  rw [if_pos ((carriesPayload_iff c p).mpr carries)]
  refine if_neg ?_
  rintro ⟨software, gap⟩
  rcases covered with is | low
  · rw [is] at software
    cases software
  · exact absurd gap (Nat.not_lt_of_le low)

/-- A gap before the portion's payload, or before a trailer, begins a fill (R65, R67). -/
theorem takePortion_of_gap {target : Nat} (touches : Touches c p)
    (needs : (Carries c p ∧ target = firstOffset c p) ∨
      (¬Carries c p ∧ c.pointer + 16 < p.start + 8 * p.beats ∧ target = c.len))
    (software : c.substituted = false) (gap : c.coverage < target) :
    s.takePortion l c p = s.startFill l c.coverage (target - 1) := by
  unfold State.takePortion
  dsimp only
  rcases needs with ⟨carries, rfl⟩ | ⟨noPayload, past, rfl⟩
  · rw [if_pos ((carriesPayload_iff c p).mpr carries)]
    exact if_pos ⟨software, gap⟩
  · have trailer : p.touches (c.pointer + 16 + c.len) (c.pointer + extentLength c.len) = true := by
      refine decide_eq_true ?_
      unfold Carries at noPayload
      unfold Touches at touches
      unfold extentLength
      omega
    rw [if_neg (fun carries => noPayload ((carriesPayload_iff c p).mp carries)),
      if_neg (by simp [software]), if_pos ⟨trailer, gap⟩]

section served
variable (hc : (s.link l).outContext = some c)
include hc

theorem servePortion_of_fill (filling : c.fill.isSome = true) (i : Nat) :
    s.servePortion l i p = (s, p) := by
  simp only [State.servePortion, hc, filling, if_true]

variable (noFill : c.fill = none) {c' : OutContext} {bytes : List Byte}
  (serves : c.serve p.fetched p.unanswered p.answer = (c', bytes))
include noFill serves

theorem servePortion_of_ready (noRead : p.issued = true ∨ ¬Carries c p ∨ c.substituted = true) (i : Nat) :
    s.servePortion l i p = (s.setOut l (some c'), { p with
      issued := true, answer := bytes, done := decide (8 * p.beats ≤ bytes.length) }) := by
  have none_ : (!p.issued && p.carriesPayload c && !c.substituted) = false := by
    rcases noRead with is | no | is
    · simp [is]
    · simp [Bool.eq_false_iff.mpr (fun carries => no ((carriesPayload_iff c p).mp carries))]
    · simp [is]
  simp only [State.servePortion, hc, noFill, none_, serves, Option.isSome_none, Bool.false_eq_true,
    if_false]

theorem servePortion_of_read (waits : p.issued = false) (carries : Carries c p)
    (software : c.substituted = false) (i : Nat) :
    s.servePortion l i p = ((s.issueL (payloadAccess c p i)).setOut l (some c'), { p with
      issued := true, answer := bytes, done := decide (8 * p.beats ≤ bytes.length) }) := by
  have reads : (!p.issued && p.carriesPayload c && !c.substituted) = true := by
    simp [waits, (carriesPayload_iff c p).mpr carries, software]
  simp only [State.servePortion, hc, noFill, reads, serves, Option.isSome_none, Bool.false_eq_true,
    if_false, if_true]

end served
end portion

/-! ### The bytes that wait for a payload read -/

/-- Before the payload read is made, no byte moves the frame on. -/
theorem serveByte_keeps {c : OutContext} (software : c.substituted = false) (a : Nat) :
    c.serveByte none a = none ∨ ∃ b, c.serveByte none a = some (c, b) := by
  by_cases outside : a < c.pointer ∨ c.pointer + 24 + c.len ≤ a
  · exact .inr ⟨0, serveByte_of_outside outside⟩
  · have low : c.pointer ≤ a := by omega
    have high : a < c.pointer + 24 + c.len := by omega
    by_cases short : a < c.pointer + 16
    · rw [serveByte_of_header low high short]
      cases c.header with
      | none => exact .inl rfl
      | some h => exact .inr ⟨_, rfl⟩
    · by_cases inside : a < c.pointer + 16 + c.len
      · exact .inl (serveByte_of_unfetched software (by omega) inside)
      · cases value : c.tag.value with
        | some v =>
          exact .inr ⟨_, serveByte_of_trailer low high (by omega) (by simp [software])
            (completeSubstituted_of_plain 8 (.inl software)) rfl value⟩
        | none => exact .inl (serveByte_of_untagged low high (by omega)
            (by rw [completeSubstituted_of_plain 8 (.inl software), value]))

end Sys2Proof.Proofs.ExtentReads
end


section
/-! PROOFS. Traffic that the part answers (O15): the reads of an open outbound extent, and the grant of a payload
read. -/

namespace Sys2Proof.Proofs.TrafficAnswers
open Sys2Proof Sys2Proof.Machine
open Sys2Proof.Proofs.CipherTaking Sys2Proof.Proofs.MemoryPort Sys2Proof.Proofs.Grants
open Sys2Proof.Proofs.ReadData Sys2Proof.Proofs.TrafficKeepsContexts Sys2Proof.Proofs.DrainLimit
open Sys2Proof.Proofs.AnsweredTraffic Sys2Proof.Proofs.ServedBytes Sys2Proof.Proofs.ExtentReads

/-- The answer of a read, byte by byte. -/
def answerOf (a beats : Nat) (f : Nat → Byte) : Port :=
  ⟨none, [], [], some (.data ((List.range (8 * beats)).map (fun j => f (a + j))))⟩

theorem map_range'_eq (a n : Nat) (f : Nat → Byte) :
    (List.range' a n).map f = (List.range n).map (fun j => f (a + j)) := by
  rw [List.range'_eq_map_range, List.map_map]
  rfl

/-! ### A substituted keepalive's bytes (R77) -/

/-- Where a read from an address on has left a substituted frame: absorbed through some offset, and to the end of
its eight bytes once a trailer byte was answered. -/
def AbsorbedAt (c : OutContext) (from_ b : Nat) (d : OutContext) : Prop :=
  ∃ m, d = coveredTo c (byteAt c.contents) m ∧ c.coverage ≤ m ∧ m ≤ max c.coverage 8 ∧
    (from_ < b → c.pointer + 16 + c.len < b → m = max c.coverage 8)

theorem contents_step {c d : OutContext} {h : List Byte} {v from_ a : Nat} (substituted : c.substituted = true)
    (complete : c.contentsComplete = true) (header : c.header = some h) (keys : c.tag.keys.isSome = true)
    (eight : c.len = 8) (held : c.holdsKeystream 0 7)
    (value : (c.tagThrough (byteAt c.contents) 8).value = some v) (first : from_ < c.pointer + 24 + c.len)
    (low : from_ ≤ a) (stands : AbsorbedAt c from_ a d) :
    ∃ d', d.serveByte none a = some (d', c.answerAt h (byteAt c.contents) v a) ∧
      AbsorbedAt c from_ (a + 1) d' := by
  obtain ⟨m, rfl, above, below, full⟩ := stands
  by_cases plain : a < c.pointer + 16 ∨ c.pointer + 24 + c.len ≤ a
  · exact ⟨_, serveByte_of_plain (coveredTo c (byteAt c.contents) m) header plain, m, rfl, above, below,
      fun _ past => full (by omega) (by omega)⟩
  · by_cases inside : a < c.pointer + 16 + c.len
    · refine ⟨_, serveByte_of_ready (by omega) inside above keys (held _ (by omega) (by omega))
        (by simp [OutContext.plain?, substituted, complete]), _, rfl, ?_, ?_, fun _ past => by omega⟩
      · split <;> omega
      · split <;> omega
    · have absorbed := completeSubstituted_coveredTo substituted complete keys
        (fun o short => held o (Nat.zero_le o) (by omega)) 8 m above (by omega)
      rw [eight, show max m 8 = max c.coverage 8 by omega, coveredTo_max] at absorbed
      refine ⟨_, (serveByte_of_trailer (c := coveredTo c (byteAt c.contents) m) (show c.pointer ≤ a by omega)
        (show a < c.pointer + 24 + c.len by omega) (show c.pointer + 16 + c.len ≤ a by omega)
        (by simp [coveredTo, complete]) absorbed rfl value).trans ?_, max c.coverage 8,
        (coveredTo_max ..).symm, Nat.le_max_left .., le_refl _, fun _ _ => rfl⟩
      rw [answerAt_of_trailer c (by omega) (by omega)]
      rfl

/-! ### A presented read of the extent -/

section reading
variable {s : State} {l : LinkSlot} {c : OutContext} {start : Long} {beats : Nat} {pl : Place}
  (accepts : s.accepts = true) (quiet : s.steering.l.quiet = true) (low : 1 ≤ beats) (high : beats ≤ 8)
  (space : start.toNat / 8 * 8 + 8 * beats ≤ 2 ^ 32) (places : s.beatsIn start beats pl = true)
  (hc : (s.link l).outContext = some c) (shows : Shows l c pl)
include accepts quiet low high space places shows

/-- A read of the extent that is answered at once. -/
theorem extentRead_answered {t : State} {p : Portion} {f : Nat → Byte}
    (step : (accepted s true (readOf start beats) pl).advanceOutbound l c.substituted 0 0
      (onePortion (readOf start beats) pl) = (t, p))
    (port : t.steering = (accepted s true (readOf start beats) pl).steering) (done : p.done = true)
    (size : p.beats = beats)
    (bytes : p.answer = (List.range (8 * beats)).map (fun j => f (start.toNat / 8 * 8 + j))) :
    ∃ u : State, exec (.portLRead start beats) s = .next u.closeDrained ∧
      u.steering.l = answerOf (start.toNat / 8 * 8) beats f ∧ u.links = t.links ∧
      u.internal = t.internal ∧ u.mail = t.mail ∧ u.still = t.still := by
  have whole : p.answer.length = 8 * p.beats := by rw [bytes, size, List.length_map, List.length_range]
  have runs := read_answered (onL := true) accepts quiet low high space places
    ((advance_of_extent (p := onePortion (readOf start beats) pl) shows rfl 0).trans step)
    (congrArg Steering.l port) done whole
  rw [bytes] at runs
  exact ⟨_, runs, rfl, rfl, rfl, rfl, still_setPort t true _⟩

/-- A read of the extent that is held. -/
theorem extentRead_held {t : State} {p : Portion} {accesses : List Access}
    (step : (accepted s true (readOf start beats) pl).advanceOutbound l c.substituted 0 0
      (onePortion (readOf start beats) pl) = (t, p))
    (port : t.steering.l = { (accepted s true (readOf start beats) pl).steering.l with
      accesses := accesses })
    (going : p.done = false) :
    ∃ u : State, exec (.portLRead start beats) s = .next u.closeDrained ∧
      u.steering.l.current.isSome = true ∧ u.steering.l.answered = s.steering.l.answered ∧
      u.steering.l.accesses = accesses ∧ u.links = t.links ∧ u.keys = t.keys ∧
      u.internal = t.internal ∧ u.mail = t.mail ∧ u.still = t.still := by
  obtain ⟨x, runs, current, answered, waits⟩ := read_held (onL := true) accepts quiet low high space
    places ((advance_of_extent (p := onePortion (readOf start beats) pl) shows rfl 0).trans step) port going
  exact ⟨_, runs, current, answered, waits, rfl, rfl, rfl, rfl, still_setPort t true x⟩

include hc

variable (touches : Touches c (onePortion (readOf start beats) pl))
include touches

theorem read_of_unbound (sound : c.lost = none) (unbound : c.binding = .unbound) :
    ∃ u : State, exec (.portLRead start beats) s = .next u.closeDrained ∧
      (u.steering.l.current.isSome = true ∧ u.steering.l.answered = s.steering.l.answered ∧
        u.still = s.still ∧ u.mail = s.mail) ∧
      (u.link l).outContext = some { c with binding := .sequenceAsked } ∧
      u.keys = { s.keys with requests := s.keys.requests ++ [.sequence l c.ident] } := by
  let t := accepted s true (readOf start beats) pl
  obtain ⟨u, runs, current, answered, -, links, keys, -, mail, still⟩ := extentRead_held accepts quiet low
    high space places shows
    (advanceOutbound_of_unbound (s := t) (l := l) hc touches sound unbound 0 0) rfl rfl
  refine ⟨u, runs, ⟨current, answered, still.trans ?_, mail⟩, ?_, keys⟩
  · rw [still_beginRelease]
    exact still_setPort s true _
  · rw [State.link, links]
    exact setOut_outContext t l _

theorem read_of_lost (lost : c.lost.isSome = true) :
    ∃ u : State, exec (.portLRead start beats) s = .next u.closeDrained ∧
      u.steering.l = answerOf (start.toNat / 8 * 8) beats (lostAnswer c) ∧
      u.links = s.links ∧ u.internal = s.internal ∧ u.mail = s.mail ∧ u.still = s.still := by
  let t := accepted s true (readOf start beats) pl
  obtain ⟨u, runs, port, links, internal, mail, still⟩ := extentRead_answered accepts quiet low high space
    places shows (advanceOutbound_of_lost (s := t) (l := l) hc rfl lost touches rfl 0 0) rfl rfl rfl rfl
  exact ⟨u, runs, port, links, internal, mail, still.trans
    ((still_withdrawPayload ..).trans (still_setPort s true _))⟩

variable (sound : c.lost = none) (bound : c.binding = .bound) (noFill : c.fill = none)
include sound bound noFill

/-- A portion whose bytes are all ready is answered, and the frame moves on as they say. -/
theorem read_of_ready {c' : OutContext} {f : Nat → Byte}
    (taken : (accepted s true (readOf start beats) pl).takePortion l c
      (onePortion (readOf start beats) pl) = accepted s true (readOf start beats) pl)
    (noRead : ¬Carries c (onePortion (readOf start beats) pl) ∨ c.substituted = true)
    (serves : c.serve none (List.range' (start.toNat / 8 * 8) (8 * beats)) [] =
      (c', (List.range' (start.toNat / 8 * 8) (8 * beats)).map f)) :
    ∃ u : State, exec (.portLRead start beats) s = .next u.closeDrained ∧
      u.steering.l = answerOf (start.toNat / 8 * 8) beats f ∧ u.links = (s.setOut l (some c')).links ∧
      u.internal = s.internal ∧ u.mail = s.mail ∧ u.still = s.still := by
  let t := accepted s true (readOf start beats) pl
  let p : Portion := { onePortion (readOf start beats) pl with started := true }
  have serves' : c.serve p.fetched p.unanswered p.answer =
      (c', (List.range' (start.toNat / 8 * 8) (8 * beats)).map f) := by
    rw [unanswered_eq]
    exact serves
  have ready := servePortion_of_ready (s := t) (l := l) hc noFill serves' (.inr noRead) 0
  have step := advanceOutbound_of_taken (s := t) (l := l) hc touches sound bound rfl 0 0
  rw [taken, ready] at step
  obtain ⟨u, runs, port, links, internal, mail, still⟩ := extentRead_answered accepts quiet low high space
    places shows step rfl (decide_eq_true (by rw [List.length_map, List.length_range']; exact le_refl _)) rfl
    (map_range'_eq ..)
  exact ⟨u, runs, port, links, internal, mail,
    still.trans ((still_setOut ..).trans (still_setPort s true _))⟩

theorem read_of_complete {h : List Byte} {v : Nat} (header : c.header = some h)
    (noPayload : ¬Carries c (onePortion (readOf start beats) pl))
    (covered : start.toNat / 8 * 8 + 8 * beats ≤ c.pointer + 16 + c.len ∨
      (c.len ≤ c.coverage ∧ c.tag.value = some v ∧
        (c.substituted = false ∨ c.contentsComplete = true))) :
    ∃ u : State, exec (.portLRead start beats) s = .next u.closeDrained ∧
      u.steering.l = answerOf (start.toNat / 8 * 8) beats (c.answerAt h (fun _ => 0) v) ∧
      u.links = s.links ∧ u.internal = s.internal ∧ u.mail = s.mail ∧ u.still = s.still := by
  obtain ⟨c', serves, rfl⟩ := serve_of_steps (fetched := none) (f := c.answerAt h (fun _ => 0) v)
    (stands := fun _ d => d = c) (8 * beats) (start.toNat / 8 * 8) rfl
    (fun a d from_ before is => by
      subst is
      refine ⟨d, ?_, rfl⟩
      by_cases plain : a < d.pointer + 16 ∨ d.pointer + 24 + d.len ≤ a
      · exact serveByte_of_plain d header plain
      · have trailer : d.pointer + 16 + d.len ≤ a := by
          unfold Carries at noPayload
          simp only [onePortion, readOf] at noPayload
          omega
        obtain ⟨full, value, complete⟩ := covered.resolve_left (by omega)
        rw [answerAt_of_trailer d trailer (by omega)]
        exact serveByte_of_trailer (by omega) (by omega) trailer (by rcases complete with is | is <;> simp [is])
          (completeSubstituted_of_plain 8 (.inr full)) rfl value) c [] rfl
  obtain ⟨u, runs, port, links, internal, mail, still⟩ := read_of_ready accepts quiet low high space
    places hc shows touches sound bound noFill
    (takePortion_of_plain noPayload (.inr (covered.imp id fun both => both.1))) (.inl noPayload)
    (by rwa [List.nil_append] at serves)
  refine ⟨u, runs, port, links.trans ?_, internal, mail, still⟩
  rw [setOut_same hc]

omit noFill in
theorem read_of_gap {target : Nat}
    (needs : (Carries c (onePortion (readOf start beats) pl) ∧
        target = firstOffset c (onePortion (readOf start beats) pl)) ∨
      (¬Carries c (onePortion (readOf start beats) pl) ∧
        c.pointer + 16 < start.toNat / 8 * 8 + 8 * beats ∧ target = c.len))
    (software : c.substituted = false) (gap : c.coverage < target) :
    ∃ (u : State) (k : Keystream), exec (.portLRead start beats) s = .next u.closeDrained ∧
      (u.steering.l.current.isSome = true ∧ u.steering.l.answered = s.steering.l.answered ∧
        u.still = s.still ∧ u.mail = s.mail) ∧
      u.steering.l.accesses = [] ∧ k.start = 1 + c.coverage / 16 ∧
      (u.link l).outContext = some { c with
        fill := some ⟨c.coverage, target - 1, true, none⟩, keystream := k } ∧
      u.internal.reads ++ u.internal.waitingReads = s.internal.reads ++ s.internal.waitingReads ++
        [c.fillRead l ⟨c.coverage, target - 1, true, none⟩] := by
  let t := accepted s true (readOf start beats) pl
  let p : Portion := { onePortion (readOf start beats) pl with started := true }
  obtain ⟨k, at_, context, steering, mail, reads⟩ :=
    startFill_facts (s := t) (l := l) hc c.coverage (target - 1)
  have step := advanceOutbound_of_taken (s := t) (l := l) hc touches sound bound rfl 0 0
  rw [takePortion_of_gap touches needs software gap, servePortion_of_fill context rfl] at step
  obtain ⟨u, runs, current, answered, accesses, links, -, internal, mail', still⟩ := extentRead_held
    accepts quiet low high space places shows step (congrArg Steering.l steering) rfl
  refine ⟨u, k, runs, ⟨current, answered, still.trans ?_, mail'.trans mail⟩, accesses, at_, ?_, ?_⟩
  · rw [still_startFill]
    exact still_setPort s true _
  · rw [State.link, links]
    exact context
  · rw [internal]
    exact reads

theorem read_of_payload (carries : Carries c (onePortion (readOf start beats) pl))
    (software : c.substituted = false)
    (covered : firstOffset c (onePortion (readOf start beats) pl) ≤ c.coverage) :
    ∃ (u : State) (k : Keystream), exec (.portLRead start beats) s = .next u.closeDrained ∧
      (u.steering.l.current.isSome = true ∧ u.steering.l.answered = s.steering.l.answered ∧
        u.still = s.still ∧ u.mail = s.mail) ∧
      k.start = 1 + firstOffset c (onePortion (readOf start beats) pl) / 16 ∧
      u.internal = s.internal ∧ (u.link l).outContext = some { c with keystream := k } ∧
      u.steering.l.accesses = [payloadAccess c (onePortion (readOf start beats) pl) 0] := by
  let t := accepted s true (readOf start beats) pl
  let p : Portion := { onePortion (readOf start beats) pl with started := true }
  let w := blockOf (firstOffset c (onePortion (readOf start beats) pl))
  obtain ⟨k, at_, -, context⟩ := moveOutWindow_outContext (s := t) (l := l) w hc
  let moved : OutContext := { c with keystream := k }
  obtain ⟨bytes, serves, short⟩ := serve_of_stop (c := moved) (fetched := none) p.unanswered []
    (fun a _ => serveByte_keeps (c := moved) software a) (by
      unfold Carries at carries
      simp only [onePortion, readOf] at carries
      refine ⟨max (start.toNat / 8 * 8) (c.pointer + 16), ?_, serveByte_of_unfetched software
        (Nat.le_max_right ..) (show _ < c.pointer + 16 + c.len by omega)⟩
      rw [unanswered_eq, List.mem_range'_1]
      simp only [p, onePortion, readOf, List.length_nil]
      omega)
  have step := advanceOutbound_of_taken (s := t) (l := l) hc touches sound bound rfl 0 0
  rw [takePortion_of_covered carries (.inr covered),
    servePortion_of_read (p := p) (c := moved) context noFill serves rfl carries software] at step
  rw [unanswered_eq, List.length_range'] at short
  obtain ⟨u, runs, current, answered, accesses, links, -, internal, mail, still⟩ := extentRead_held
    (accesses := [payloadAccess c (onePortion (readOf start beats) pl) 0])
    accepts quiet low high space places shows step (by
      show ({ (t.moveOutWindow l w).steering.l with
        accesses := (t.moveOutWindow l w).steering.l.accesses ++ _ } : Port) = _
      rw [moveOutWindow_steering]
      rfl)
      (decide_eq_false (by
        simp only [p, List.nil_append] at short ⊢
        omega))
  refine ⟨u, k, runs, ⟨current, answered, still.trans ?_, mail.trans (moveOutWindow_mail t l w)⟩, at_,
    internal.trans (moveOutWindow_internal t l w), ?_, accesses⟩
  · rw [still_setOut, still_issueL, still_moveOutWindow]
    exact still_setPort s true _
  · rw [State.link, links]
    exact setOut_outContext _ l _

/-- A substituted keepalive is enciphered from its status contents, to the end of its payload (R77). -/
theorem read_of_contents {h : List Byte} {v : Nat} (substituted : c.substituted = true)
    (complete : c.contentsComplete = true) (header : c.header = some h) (keys : c.tag.keys.isSome = true)
    (eight : c.len = 8) (at_ : c.keystream.start = 1) (held : c.holdsKeystream 0 7)
    (trailer : c.pointer + 16 + c.len < start.toNat / 8 * 8 + 8 * beats)
    (value : (c.tagThrough (byteAt c.contents) 8).value = some v) :
    ∃ u : State, exec (.portLRead start beats) s = .next u.closeDrained ∧
      u.steering.l = answerOf (start.toNat / 8 * 8) beats (c.answerAt h (byteAt c.contents) v) ∧
      (u.link l).outContext = some { c with
        coverage := max c.coverage 8, tag := c.tagThrough (byteAt c.contents) 8 } ∧
      u.mail = s.mail ∧ u.still = s.still := by
  have unmoved : (accepted s true (readOf start beats) pl).takePortion l c
      (onePortion (readOf start beats) pl) = accepted s true (readOf start beats) pl := by
    by_cases carries : Carries c (onePortion (readOf start beats) pl)
    · rw [takePortion_of_covered carries (.inl substituted)]
      refine moveOutWindow_same hc (at_.trans ?_)
      unfold Carries at carries
      unfold firstOffset blockOf
      omega
    · exact takePortion_of_plain carries (.inl substituted)
  obtain ⟨c', serves, m, rfl, -, -, full⟩ := serve_of_steps (fetched := none)
    (f := c.answerAt h (byteAt c.contents) v)
    (stands := AbsorbedAt c (start.toNat / 8 * 8)) (8 * beats) (start.toNat / 8 * 8) rfl
    (fun a d from_ _ stands => contents_step substituted complete header keys eight held value
      (by unfold Touches at touches; simp only [onePortion, readOf] at touches; omega) from_ stands) c []
    ⟨c.coverage, (coveredTo_coverage ..).symm, le_refl _, Nat.le_max_left .., fun later => by omega⟩
  rw [full (by omega) trailer, coveredTo_max] at serves
  obtain ⟨u, runs, port, links, -, mail, still⟩ := read_of_ready accepts quiet low high space
    places hc shows touches sound bound noFill unmoved (.inr substituted) (by rwa [List.nil_append] at serves)
  refine ⟨u, runs, port, ?_, mail, still⟩
  rw [State.link, links]
  exact setOut_outContext s l _

end reading

end Sys2Proof.Proofs.TrafficAnswers
end


section
/-! PROOFS. The grant of a payload read (R63, R64), and what the part answers (O15). -/

namespace Sys2Proof.Proofs.PayloadGrants
open Sys2Proof Sys2Proof.Machine
open Sys2Proof.Proofs.CipherTaking Sys2Proof.Proofs.MemoryPort Sys2Proof.Proofs.Grants
open Sys2Proof.Proofs.DrainLimit Sys2Proof.Proofs.AnsweredTraffic Sys2Proof.Proofs.ServedBytes
open Sys2Proof.Proofs.ExtentReads Sys2Proof.Proofs.TrafficAnswers

theorem performAccess_of_payload {s : State} {onL : Bool} {a : Access} (read : a.write = none)
    (payload : a.use = .payload) : s.performAccess onL a = s.serve onL a.portion
      (fun p => p.served .payload a.address (memReadBytes s.memory a.address (8 * a.beats))) := by
  simp only [State.performAccess, read, payload]

theorem getElem?_memReadBytes (m : List Host.Cell) (a : Nat) {n i : Nat} (within : i < n) :
    (memReadBytes m a n)[i]? = some (memRead m (a + i)) := by
  induction n generalizing a i with
  | zero => omega
  | succ n ih =>
    cases i with
    | zero => rfl
    | succ i =>
      rw [memReadBytes, List.getElem?_cons_succ, ih (a + 1) (by omega), Nat.add_assoc, Nat.add_comm 1]

/-! ### The bytes that the memory beats make ready -/

/-- The offset that a read reaches up to an address. -/
def reachOf (c : OutContext) (b : Nat) : Nat := min b (c.pointer + 16 + c.len) - (c.pointer + 16)

/-- One byte of a portion whose memory beats are at hand; coverage follows it (R63, R64). -/
theorem payload_step {c d : OutContext} {plain : Nat → Byte} {fetched : Option (Nat × List Byte)}
    {h : List Byte} {v first a z : Nat} (software : c.substituted = false) (header : c.header = some h)
    (keys : c.tag.keys.isSome = true) (held : c.holdsKeystream first (reachOf c z - 1))
    (data : ∀ o, first ≤ o → o < reachOf c z → c.plain? fetched o = some (plain o))
    (value : c.pointer + 16 + c.len < z → (c.tagThrough plain (reachOf c z)).value = some v)
    (low : c.pointer + 16 + first ≤ a) (before : a < z)
    (stands : d = coveredTo c plain (max c.coverage (reachOf c a))) :
    ∃ d', d.serveByte fetched a = some (d', c.answerAt h plain v a) ∧
      d' = coveredTo c plain (max c.coverage (reachOf c (a + 1))) := by
  subst stands
  have reach : reachOf c a = min a (c.pointer + 16 + c.len) - (c.pointer + 16) := rfl
  have next : reachOf c (a + 1) = min (a + 1) (c.pointer + 16 + c.len) - (c.pointer + 16) := rfl
  have last : reachOf c z = min z (c.pointer + 16 + c.len) - (c.pointer + 16) := rfl
  by_cases inside : a < c.pointer + 16 + c.len
  · refine ⟨_, serveByte_of_ready (by omega) inside (Nat.le_max_left ..) keys (held _ (by omega) (by omega))
      (data _ (by omega) (by omega)), congrArg (coveredTo c plain) ?_⟩
    split <;> omega
  · rw [show reachOf c (a + 1) = reachOf c a by omega]
    refine ⟨_, ?_, rfl⟩
    by_cases past : c.pointer + 24 + c.len ≤ a
    · exact serveByte_of_plain (coveredTo c plain _) header (.inr past)
    · rw [show reachOf c a = reachOf c z by omega, coveredTo_max, answerAt_of_trailer c (by omega) (by omega)]
      exact serveByte_of_trailer
        (c := { c with coverage := max c.coverage (reachOf c z), tag := c.tagThrough plain (reachOf c z) })
        (show c.pointer ≤ a by omega) (show a < c.pointer + 24 + c.len by omega)
        (show c.pointer + 16 + c.len ≤ a by omega) (by simp [software])
        (completeSubstituted_of_plain 8 (.inl software)) rfl (value (by omega))

section granted
variable {s : State} {l : LinkSlot} {c : OutContext} {h : List Byte} {v : Nat} {p : Portion}

/-- The plaintext of a payload offset, from memory. -/
def memoryByte (s : State) (c : OutContext) (o : Nat) : Byte := memRead s.memory (c.pointer + 16 + o)

/-- The memory beats of a portion hold its payload bytes. -/
theorem plain?_of_beats (software : c.substituted = false) {first upto o : Nat} (low : first ≤ o) (high : o < upto) :
    c.plain? (some (c.beatOf first, memReadBytes s.memory (c.beatOf first)
      (8 * ((c.beatOf (upto - 1) - c.beatOf first) / 8 + 1)))) o = some (memoryByte s c o) := by
  have within : c.pointer + 16 + o - c.beatOf first <
      8 * ((c.beatOf (upto - 1) - c.beatOf first) / 8 + 1) := by
    unfold OutContext.beatOf
    omega
  have index : c.beatOf first + (c.pointer + 16 + o - c.beatOf first) = c.pointer + 16 + o := by
    unfold OutContext.beatOf
    omega
  rw [OutContext.plain?, if_neg (by simp [software]), Option.bind_some]
  dsimp only
  rw [getElem?_memReadBytes _ _ within, index]
  rfl

variable (software : c.substituted = false) (header : c.header = some h) (keys : c.tag.keys.isSome = true)
  (some_ : firstOffset c p < reachOf c (p.start + 8 * p.beats))
  (covered : firstOffset c p ≤ c.coverage)
  (held : c.holdsKeystream (firstOffset c p) (reachOf c (p.start + 8 * p.beats) - 1))
  (prefix_ : p.answer = (List.range (max p.start (c.pointer + 16) - p.start)).map
    (fun j => c.answerAt h (memoryByte s c) 0 (p.start + j)))
  (value : c.pointer + 16 + c.len < p.start + 8 * p.beats →
    (c.tagThrough (memoryByte s c) (reachOf c (p.start + 8 * p.beats))).value = some v)
include software header keys some_ covered held prefix_ value

/-- With its memory beats at hand a portion is answered to its end (R63, R64). -/
theorem serve_of_beats :
    let upto := reachOf c (p.start + 8 * p.beats)
    c.serve (some (c.beatOf (firstOffset c p), memReadBytes s.memory (c.beatOf (firstOffset c p))
        (8 * ((c.beatOf (upto - 1) - c.beatOf (firstOffset c p)) / 8 + 1)))) p.unanswered p.answer =
      ({ c with coverage := max c.coverage upto, tag := c.tagThrough (memoryByte s c) upto },
        (List.range (8 * p.beats)).map (fun j => c.answerAt h (memoryByte s c) v (p.start + j))) := by
  intro upto
  have first : firstOffset c p = max p.start (c.pointer + 16) - (c.pointer + 16) := rfl
  have last : reachOf c (p.start + 8 * p.beats) =
    min (p.start + 8 * p.beats) (c.pointer + 16 + c.len) - (c.pointer + 16) := rfl
  have length : p.answer.length = max p.start (c.pointer + 16) - p.start := by
    rw [prefix_, List.length_map, List.length_range]
  obtain ⟨d, serves, rfl⟩ := serve_of_steps
    (fetched := some (c.beatOf (firstOffset c p), memReadBytes s.memory (c.beatOf (firstOffset c p))
      (8 * ((c.beatOf (upto - 1) - c.beatOf (firstOffset c p)) / 8 + 1))))
    (f := c.answerAt h (memoryByte s c) v)
    (stands := fun a d => d = coveredTo c (memoryByte s c) (max c.coverage (reachOf c a)))
    (z := p.start + 8 * p.beats) (8 * p.beats - p.answer.length) (p.start + p.answer.length) (by omega)
    (fun a d low high stands => payload_step software header keys held
      (fun o from_ under => plain?_of_beats software from_ under) value (by omega) high stands)
    c p.answer (by
      have none_ : max c.coverage (reachOf c (p.start + p.answer.length)) = c.coverage := by
        unfold reachOf
        omega
      rw [none_, coveredTo_coverage])
  have before : p.answer = (List.range' p.start p.answer.length).map (c.answerAt h (memoryByte s c) v) := by
    rw [map_range'_eq, length, prefix_]
    refine List.map_congr_left fun j mem => ?_
    rw [List.mem_range] at mem
    by_cases outside : p.start + j < c.pointer
    · rw [answerAt_of_outside c (.inl outside), answerAt_of_outside c (.inl outside)]
    · rw [answerAt_of_header c (by omega) (by omega), answerAt_of_header c (by omega) (by omega)]
  rw [unanswered_eq, serves, coveredTo_max]
  refine Prod.ext rfl ?_
  calc p.answer ++ (List.range' (p.start + p.answer.length) (8 * p.beats - p.answer.length)).map
        (c.answerAt h (memoryByte s c) v)
      = (List.range' p.start (8 * p.beats)).map (c.answerAt h (memoryByte s c) v) := by
        conv_lhs => rw [before]
        rw [← List.map_append, List.length_map, List.length_range', List.range'_append_1]
        congr 2
        omega
    _ = _ := map_range'_eq ..

end granted

/-! ### The grant -/

section grant
variable {s : State} {l : LinkSlot} {c c' : OutContext} {x : Transaction} {p : Portion}
  {answered : Option BusAnswer} {bytes : List Byte}

/-- A held read whose bytes are all ready is answered, and its port rests. -/
theorem run_of_served (hc : (s.link l).outContext = some c)
    (port : s.port true = ⟨some x, [], [], answered⟩) (one : x.portions = [p])
    (isRead : x.request.isRead = true) (place : p.place = .transmitGuard l) (going : p.done = false)
    (started : p.started = true) (issued : p.issued = true) (touches : Touches c p)
    (software : c.substituted = false) (sound : c.lost = none) (bound : c.binding = .bound)
    (noFill : c.fill = none) (serves : c.serve p.fetched p.unanswered p.answer = (c', bytes))
    (whole : bytes.length = 8 * p.beats) : s.run true =
      (s.setOut l (some c')).setPort true ⟨none, [], [], some (.data bytes)⟩ := by
  have inside : (s.port true).current = some x := by rw [port]
  have shows : Shows l c p.place := .inl ⟨place, software⟩
  have step : s.advance true x.request.isRead true true 0 x.returned.length p =
      (s.setOut l (some c'), { p with
        started := true, issued := true, answer := bytes, done := true }) := by
    rw [isRead, advance_of_extent shows going, advanceOutbound_of_started hc touches sound bound started,
      servePortion_of_ready (p := { p with started := true }) hc noFill serves (.inl issued), whole,
      decide_eq_true (le_refl _)]
  have outside : (s.setOut l (some c')).port true = ⟨some x, [], [], answered⟩ := port
  have steps : (s.port true).steps = 2 := by rw [port]; rfl
  rw [State.run, steps, run_of_one 1 inside one step (by rw [outside]), outside, settledPort, if_pos rfl,
    isRead, if_pos rfl, readyBytes_of_whole whole]

/-- The memory beats of a payload read reach its portion, and its bytes are answered (R63, R64). -/
theorem grantPort_of_payload {w : Access} (hc : (s.link l).outContext = some c)
    (port : s.port true = ⟨some x, [], [w], answered⟩) (one : x.portions = [p]) (first : w.portion = 0)
    (read : w.write = none) (payload : w.use = .payload)
    (isRead : x.request.isRead = true) (place : p.place = .transmitGuard l) (going : p.done = false)
    (started : p.started = true) (issued : p.issued = true) (touches : Touches c p)
    (software : c.substituted = false) (sound : c.lost = none) (bound : c.binding = .bound)
    (noFill : c.fill = none)
    (serves : c.serve (some (w.address, memReadBytes s.memory w.address (8 * w.beats))) p.unanswered p.answer =
      (c', bytes))
    (whole : bytes.length = 8 * p.beats) : s.grantPort true =
      (s.setOut l (some c')).setPort true ⟨none, [], [], some (.data bytes)⟩ := by
  let q := p.served .payload w.address (memReadBytes s.memory w.address (8 * w.beats))
  obtain ⟨-, -, memory, -⟩ := setPort_others s true ⟨some x, [], [], answered⟩
  have settled := run_of_served (s := s.setPort true ⟨some { x with portions := [q] }, [], [], answered⟩)
    (x := { x with portions := [q] }) (p := q) hc (port_setPort_self ..) rfl isRead place going started
    issued touches software sound bound noFill serves whole
  rw [grantPort_of_one port, performAccess_of_payload read payload, first, memory,
    serve_of_one (port_setPort_self ..) one, setPort_setPort]
  exact settled

end grant

/-- Settles O15: stray traffic by its place; the phantom window by its frame; a read of the extent by what the frame
waits for; a payload read's grant by the bytes that it makes ready. -/
theorem trafficAnsweredByThePart : Obligations.TrafficAnsweredByThePart := by
  refine ⟨?stray, ?phantom, ?extent, ?grant⟩
  case stray =>
    intro start pl s accepts quiet
    exact ⟨fun beats l low high space places stray =>
        strayRead_faults accepts quiet low high space places stray,
      fun bytes link whole some_ high space places stray =>
        strayWrite_faults accepts quiet whole some_ high space places stray⟩
  case phantom =>
    intro start l base s accepts quiet
    refine ⟨fun beats low high space places aligned shut => ?_,
      fun beats c low high space places aligned hc substituted => ?_,
      fun bytes whole some_ high space places =>
        phantomWrite_discarded accepts quiet whole some_ high space places⟩
    · have answered := phantomRead_answered accepts quiet low high space places (f := fun _ => 0)
        fun j within => phantomByte_of_none (phantom_of_beats places aligned within).1 shut
      rw [List.map_const', List.length_range] at answered
      exact answered
    · refine phantomRead_answered accepts quiet low high space places fun j within => ?_
      obtain ⟨sub, offset⟩ := phantom_of_beats places aligned within
      rw [phantomByte_of_open sub hc substituted, offset]
      rfl
  case extent =>
    intro start beats pl l c s accepts quiet low high a z space places hc shows touches
    refine ⟨fun sound unbound => ?_, fun lost => ?_, fun sound bound noFill => ⟨?_, ?_, ?_, ?_⟩⟩
    · exact read_of_unbound accepts quiet low high space places hc shows touches sound unbound
    · exact read_of_lost accepts quiet low high space places hc shows touches lost
    · intro h v header noPayload covered
      exact read_of_complete accepts quiet low high space places hc shows touches sound bound noFill
        header noPayload covered
    · intro target needs software gap
      exact read_of_gap accepts quiet low high space places hc shows touches sound bound needs
        software gap
    · intro carries software covered
      exact read_of_payload accepts quiet low high space places hc shows touches sound bound noFill
        carries software covered
    · intro h v substituted complete header keys eight at_ held trailer value
      exact read_of_contents accepts quiet low high space places hc shows touches sound bound noFill
        substituted complete header keys eight at_ held trailer value
  case grant =>
    intro s l c h x p answered v payload z first upto beat plain port granted isRead one place started
      issued going prefix_ hc software sound bound noFill header keys some_ covered held value
    let t : State := { s with arbiter := .l }
    have serves := serve_of_beats (s := t) software header keys some_ covered held prefix_ value
    have touches : Touches c p := by
      unfold Touches
      dsimp only [first, upto, z, payload] at some_
      omega
    have step : s.grant = _ := (grant_of_port (onL := true) granted).trans
      (grantPort_of_payload (s := t) (l := l) hc port one rfl rfl rfl isRead place going started issued
        touches software sound bound noFill serves (by rw [List.length_map, List.length_range]))
    refine ⟨s.grant, rfl, ?_⟩
    rw [step]
    refine ⟨rfl, setOut_outContext t l _, fun m ne => ?_, rfl, ?_⟩
    · exact SequenceRequests.setOut_link_ne t _ ne
    · rw [still_setPort, still_setOut]
      rfl

end Sys2Proof.Proofs.PayloadGrants
end


section
/-! PROOFS. Presentation of descriptors (R30 to R33, R75): the bytes shown, the checks, and the context that a
descriptor read ready opens. -/

namespace Sys2Proof.Proofs.Presentations
open Sys2Proof Sys2Proof.Machine
open Sys2Proof.Proofs.SlotsAndResults Sys2Proof.Proofs.HeaderBytes Sys2Proof.Proofs.DrainLimit

/-! ### Descriptor bytes (R28) -/

section bytes
variable {d : List Byte}

theorem patch_one (fits : 1 < d.length) (b : Byte) : patch d 1 [b] = d.set 1 b := by
  rw [List.set_eq_take_append_cons_drop, if_pos fits, patch]
  simp

theorem withOwnClear_eq (fits : 1 < d.length) : withOwnClear d = d.set 1 (byteAt d 1 &&& 0x7F#8) :=
  patch_one fits _

theorem asRefused_eq (fits : 1 < d.length) : asRefused d = d.set 1 (byteAt d 1 ||| 0x90#8) :=
  patch_one fits _

theorem asReady_eq (whole : d.length = 16) : asReady d =
    [byteAt d 0, (byteAt d 1 ||| 0x80#8) &&& 0xEF#8] ++ leBytes 2 (descLength d + 24) ++ d.drop 4 := by
  match d, whole with
  | a :: b :: c :: e :: rest, _ => rfl

theorem byteAt_set (fits : 1 < d.length) (b : Byte) : byteAt (d.set 1 b) 1 = b := by
  simp [byteAt, List.getD, fits]

theorem not_ready_withOwnClear (fits : 1 < d.length) : readsReady (withOwnClear d) = false := by
  rw [withOwnClear_eq fits, readsReady, descOwn, byteAt_set fits]
  simp

/-- A refused descriptor has SKIP set, and one too short for it shows OWN clear. -/
theorem not_ready_asRefused (d : List Byte) : readsReady (asRefused d) = false := by
  match d with
  | [] => rfl
  | [_] => exact Bool.and_eq_false_imp.mpr fun _ =>
      congrArg (!·) (show (0x00#8 ||| 0x90#8).getLsbD 4 = true by decide)
  | a :: b :: rest =>
    have skip : ((b ||| 0x90#8).getLsbD 4) = true := by simp
    exact Bool.and_eq_false_imp.mpr fun _ => congrArg (!·) skip

theorem not_ready_of_clear (own : descOwn d = false) : readsReady d = false := by
  rw [readsReady, own, Bool.false_and]

theorem not_ready_of_skip (skip : descSkip d = true) : readsReady d = false := by
  rw [readsReady, skip, Bool.not_true, Bool.and_false]

end bytes

/-! ### The outbound checks (R31) -/

/-- The region does not lie wholly in the guard. -/
def liesOutside (guard : Option Region) (pointer len : Nat) : Bool :=
  guard.all (fun g => pointer < g.base || g.base + g.size < pointer + len)

theorem liesIn_eq (guard : Option Region) (pointer len : Nat) :
    liesIn guard pointer len = !liesOutside guard pointer len := by
  cases guard with
  | none => rfl
  | some g =>
    rw [Bool.eq_iff_iff]
    simp [liesIn, liesOutside]

/-- The first failed check of R31, by the fields of the descriptor. -/
def outRefusal (x : Link) (pointer len cls : Nat) : Option PartCode :=
  if x.state = .closing then some .linkClosed
  else if pointer % 4 ≠ 0 then some .badDescriptor
  else if cls ∉ [0, 1, 2, 4] then some .badClass
  else if x.maxPayload < len then some .tooLong
  else if cls = 1 ∧ len ≠ 8 then some .badClass
  else if liesOutside x.transmit pointer (len + 24) then some .badDescriptor
  else if x.state = .keyed ∨ x.state = .quarantined ∨
    (x.state = .awaitKey ∧ cls = 2 ∧ x.kek.isSome) then none
  else some .noKey

theorem descClass_toNat (d : List Byte) : (descClass d).toNat = (byteAt d 1).toNat % 8 := by
  rw [descClass, BitVec.toNat_and]
  exact Nat.and_two_pow_sub_one_eq_mod _ 3

theorem outboundClass_of_some {d : List Byte} {c : FrameClass} (h : outboundClass d = some c) :
    c ≠ .beacon ∧ c.code.toNat = (byteAt d 1).toNat % 8 := by
  unfold outboundClass at h
  split at h
  case h_1 => cases h
  case h_6 => cases h
  all_goals
    next named =>
      cases h
      exact ⟨by decide, by rw [code_of_ofCode? named, descClass_toNat]⟩

theorem outboundClass_eq_none_iff (d : List Byte) :
    outboundClass d = none ↔ (byteAt d 1).toNat % 8 ∉ [0, 1, 2, 4] := by
  rw [← descClass_toNat]
  constructor
  · intro h
    unfold outboundClass at h
    split at h
    case h_1 named =>
      rw [← code_of_ofCode? named]
      decide
    case h_6 named =>
      have big := (ofCode?_eq_none_iff _).mp named
      simp only [List.mem_cons, List.not_mem_nil, or_false]
      omega
    all_goals cases h
  · intro other
    refine Option.eq_none_iff_forall_ne_some.mpr fun c named => other ?_
    obtain ⟨notBeacon, code⟩ := outboundClass_of_some named
    rw [descClass_toNat, ← code]
    cases c with
    | beacon => exact absurd rfl notBeacon
    | data => decide
    | keepalive => decide
    | renewal => decide
    | report => decide

theorem keepalive_iff {c : FrameClass} {n : Nat} (code : c.code.toNat = n) : c = .keepalive ↔ n = 1 := by
  subst code
  cases c <;> decide

theorem renewalClass_iff {c : FrameClass} {n : Nat} (code : c.code.toNat = n) : c = .renewal ↔ n = 2 := by
  subst code
  cases c <;> decide

theorem maySend_iff (x : Link) (c : FrameClass) : x.maySend c = true ↔
    x.state = .keyed ∨ x.state = .quarantined ∨
      (x.state = .awaitKey ∧ c = .renewal ∧ x.kek.isSome = true) := by
  unfold Link.maySend
  cases x.state <;> simp

/-- The checks of R31 in order. -/
theorem outboundCheck_eq (x : Link) (d : List Byte) : outboundCheck x d =
    match outRefusal x (descPointer d) (descLength d) ((byteAt d 1).toNat % 8), outboundClass d with
    | some code, _ => .inl code
    | none, some c => .inr c
    | none, none => .inl .badClass := by
  unfold outboundCheck outRefusal
  by_cases closing : x.state = .closing
  · rw [if_pos closing, if_pos closing]
  rw [if_neg closing, if_neg closing]
  by_cases pointer : descPointer d % 4 ≠ 0
  · rw [if_pos pointer, if_pos pointer]
  rw [if_neg pointer, if_neg pointer]
  cases named : outboundClass d with
  | none => rw [if_pos ((outboundClass_eq_none_iff d).mp named)]
  | some c =>
    have known : ¬(byteAt d 1).toNat % 8 ∉ [0, 1, 2, 4] := fun other => by
      rw [(outboundClass_eq_none_iff d).mpr other] at named
      cases named
    obtain ⟨-, code⟩ := outboundClass_of_some named
    rw [if_neg known]
    dsimp only
    simp only [keepalive_iff code, liesIn_eq, Bool.not_eq_false', show ∀ n, extentLength n = n + 24
      from fun n => Nat.add_comm 24 n]
    by_cases may : x.maySend c = true
    · rw [if_neg (c := x.maySend c = false) (by simp [may])]
      have sends := (maySend_iff x c).mp may
      rw [renewalClass_iff code] at sends
      rw [if_pos (c := x.state = .keyed ∨ _) sends]
      (repeat' split) <;> simp_all
    · rw [if_pos (c := x.maySend c = false) (by simpa using may)]
      have stays := fun sends => may ((maySend_iff x c).mpr sends)
      rw [renewalClass_iff code] at stays
      rw [if_neg (c := x.state = .keyed ∨ _) stays]
      (repeat' split) <;> simp_all

theorem outboundCheck_of_refusal {x : Link} {d : List Byte} {code : PartCode}
    (refused : outRefusal x (descPointer d) (descLength d) ((byteAt d 1).toNat % 8) = some code) :
    outboundCheck x d = .inl code := by
  rw [outboundCheck_eq, refused]

theorem outboundCheck_of_passed {x : Link} {d : List Byte}
    (passed : outRefusal x (descPointer d) (descLength d) ((byteAt d 1).toNat % 8) = none) :
    ∃ c : FrameClass, outboundCheck x d = .inr c ∧ c.code.toNat = (byteAt d 1).toNat % 8 := by
  cases named : outboundClass d with
  | some c => exact ⟨c, by rw [outboundCheck_eq, passed, named], (outboundClass_of_some named).2⟩
  | none =>
    have other := (outboundClass_eq_none_iff d).mp named
    unfold outRefusal at passed
    rw [if_pos other] at passed
    (repeat' split at passed) <;> cases passed

/-! ### The inbound checks (R33) -/

/-- The first failed check of R33 case 6, by the fields of the descriptor. -/
def inRefusal (x : Link) (closing : Bool) (pointer len : Nat) : Option PartCode :=
  if closing = true ∨ (x.state = .closing ∧ x.drainStart = none) then some .linkClosed
  else if pointer % 4 ≠ 0 then some .badDescriptor
  else if len < 24 then some .badDescriptor
  else if liesOutside x.receive pointer len then some .badDescriptor
  else none

theorem inboundCheck_eq (x : Link) (closing : Bool) (d : List Byte) :
    inboundCheck x closing d = inRefusal x closing (descPointer d) (descLength d) := by
  unfold inboundCheck inRefusal
  simp only [liesIn_eq, Bool.not_eq_false']

/-! ### Outbound presentation, by the first case of R30 -/

section outbound
variable {s : State} {r : RingIndex} {l : LinkSlot} {i : Nat} {d : List Byte}

theorem presentOut_of_pending (pending : (s.slot r i).pending = true) :
    s.presentOut r l i d = (s, withOwnClear d) := by
  simp only [State.presentOut, pending, if_true]

section free
variable (free : (s.slot r i).pending = false)
include free

theorem presentOut_of_held {code : PartCode} (held : (s.slot r i).held = some code) :
    s.presentOut r l i d = (s, asRefused ((s.slot r i).copy.getD d)) := by
  simp only [State.presentOut, free, held, Bool.false_eq_true, if_false]

variable (unheld : (s.slot r i).held = none)
include unheld

theorem presentOut_of_open {c : OutContext} (hc : (s.link l).outContext = some c) :
    s.presentOut r l i d = (s, if c.slot = i then c.presented else withOwnClear d) := by
  simp only [State.presentOut, free, unheld, hc, Bool.false_eq_true, if_false]

variable (shut : (s.link l).outContext = none)
include shut

theorem presentOut_of_idle (own : descOwn d = false) (none_ : s.substitution l = none) :
    s.presentOut r l i d = (s, d) := by
  simp only [State.presentOut, free, unheld, shut, own, none_, Bool.false_eq_true, if_false, if_true]

theorem presentOut_of_substitution {pointer : Nat} (own : descOwn d = false)
    (some_ : s.substitution l = some pointer) : s.presentOut r l i d =
      (s.openSubstituted l i pointer (asSubstituted d pointer), asSubstituted d pointer) := by
  simp only [State.presentOut, free, unheld, shut, own, some_, Bool.false_eq_true, if_false, if_true]

variable (own : descOwn d = true)
include own

theorem presentOut_of_skip (skip : descSkip d = true) :
    s.presentOut r l i d = (s.record r i none d, d) := by
  simp only [State.presentOut, free, unheld, shut, own, skip, Bool.false_eq_true, Bool.true_eq_false,
    if_false, if_true]

variable (used : descSkip d = false)
include used

theorem presentOut_of_refused {code : PartCode} (refused : outboundCheck (s.link l) d = .inl code) :
    s.presentOut r l i d = (s.record r i (some code) d, asRefused d) := by
  simp only [State.presentOut, free, unheld, shut, own, used, refused, Bool.false_eq_true,
    Bool.true_eq_false, if_false]

theorem presentOut_of_ready {cls : FrameClass} (passed : outboundCheck (s.link l) d = .inr cls)
    (due : s.holdOffPassed l (descHoldOff d) = true) : s.presentOut r l i d =
      ((s.record r i none d).openSoftware l i d (asReady d) cls, asReady d) := by
  simp only [State.presentOut, free, unheld, shut, own, used, passed, due, Bool.false_eq_true,
    Bool.true_eq_false, if_false, if_true]

end free
end outbound

/-! ### Inbound presentation, by the first case of R33 -/

section inbound
variable {s : State} {r : RingIndex} {l : LinkSlot} {i : Nat} {closing : Bool} {d : List Byte}

theorem presentIn_of_pending (pending : (s.slot r i).pending = true) :
    s.presentIn r l i closing d = (s.notifyNoBuffer l, withOwnClear d) := by
  simp only [State.presentIn, pending, if_true]

section free
variable (free : (s.slot r i).pending = false)
include free

theorem presentIn_of_held {code : PartCode} (held : (s.slot r i).held = some code) :
    s.presentIn r l i closing d = (s, asRefused ((s.slot r i).copy.getD d)) := by
  simp only [State.presentIn, free, held, Bool.false_eq_true, if_false]

variable (unheld : (s.slot r i).held = none)
include unheld

theorem presentIn_of_open {c : InContext} (hc : (s.link l).inContext = some c) :
    s.presentIn r l i closing d = (s.notifyNoBuffer l, withOwnClear d) := by
  simp only [State.presentIn, free, unheld, hc, Bool.false_eq_true, if_false]

variable (shut : (s.link l).inContext = none)
include shut

theorem presentIn_of_clear (own : descOwn d = false) :
    s.presentIn r l i closing d = (s.notifyNoBuffer l, d) := by
  simp only [State.presentIn, free, unheld, shut, own, Bool.false_eq_true, if_false, if_true]

variable (own : descOwn d = true)
include own

theorem presentIn_of_skip (skip : descSkip d = true) :
    s.presentIn r l i closing d = (s.record r i none d, d) := by
  simp only [State.presentIn, free, unheld, shut, own, skip, Bool.false_eq_true, Bool.true_eq_false,
    if_false, if_true]

variable (used : descSkip d = false)
include used

theorem presentIn_of_refused {code : PartCode} (refused : inboundCheck (s.link l) closing d = some code) :
    s.presentIn r l i closing d = (s.record r i (some code) d, asRefused d) := by
  simp only [State.presentIn, free, unheld, shut, own, used, refused, Bool.false_eq_true,
    Bool.true_eq_false, if_false]

theorem presentIn_of_ready (passed : inboundCheck (s.link l) closing d = none) :
    s.presentIn r l i closing d = ((s.record r i none d).openInbound l i d, d) := by
  simp only [State.presentIn, free, unheld, shut, own, used, passed, Bool.false_eq_true,
    Bool.true_eq_false, if_false]

end free
end inbound

/-! ### A descriptor read ready belongs to the open context -/

section ready
variable {s : State} {r : RingIndex} {l : LinkSlot} {i : Nat} {d : List Byte}

theorem setSlot_links (s : State) (r : RingIndex) (i : Nat) (x : SlotRecord) :
    (s.setSlot r i x).links = s.links := by
  unfold State.setSlot
  split <;> rfl

theorem record_link (held : Option PartCode) : (s.record r i held d).link l = s.link l := by
  rw [State.record, State.link, setSlot_links, State.link]

theorem openSoftware_outContext (s : State) (l : LinkSlot) (i : Nat) (d presented : List Byte) (cls : FrameClass) :
    ((s.openSoftware l i d presented cls).link l).outContext =
      some (OutContext.fresh s.nextIdent i (descPointer d) (descLength d) cls (descRpt d) false []
        presented) :=
  CipherTaking.setOut_outContext s l _

theorem openSubstituted_outContext (s : State) (l : LinkSlot) (i pointer : Nat) (presented : List Byte) :
    ((s.openSubstituted l i pointer presented).link l).outContext =
      some (OutContext.fresh s.nextIdent i pointer 8 .keepalive false true (s.statusContents l)
        presented) :=
  CipherTaking.setOut_outContext s l _

theorem openInbound_inContext (s : State) (l : LinkSlot) (i : Nat) (d : List Byte) :
    ((s.openInbound l i d).link l).inContext =
      some (InContext.fresh s.nextIdent i (descPointer d) (descLength d)) :=
  CipherTaking.setIn_inContext s l _

variable (whole : d.length = 16)
include whole

theorem outContext_of_ready (ready : readsReady (s.presentOut r l i d).2 = true) :
    ∃ c, ((s.presentOut r l i d).1.link l).outContext = some c ∧ c.slot = i := by
  have fits : 1 < d.length := by omega
  have never {e : List Byte} {t : State} (is : s.presentOut r l i d = (t, e)) (dull : readsReady e = false) :
      ∃ c, ((s.presentOut r l i d).1.link l).outContext = some c ∧ c.slot = i := by
    rw [is, dull] at ready
    cases ready
  cases free : (s.slot r i).pending with
  | true => exact never (presentOut_of_pending free) (not_ready_withOwnClear fits)
  | false =>
    cases held : (s.slot r i).held with
    | some code => exact never (presentOut_of_held free held) (not_ready_asRefused _)
    | none =>
      cases hc : (s.link l).outContext with
      | some c =>
        have is := presentOut_of_open (d := d) free held hc
        by_cases own : c.slot = i
        · rw [is]
          exact ⟨c, hc, own⟩
        · rw [if_neg own] at is
          exact never is (not_ready_withOwnClear fits)
      | none =>
        cases own : descOwn d with
        | false =>
          cases some_ : s.substitution l with
          | none => exact never (presentOut_of_idle free held hc own some_) (not_ready_of_clear own)
          | some pointer =>
            rw [presentOut_of_substitution free held hc own some_]
            exact ⟨_, openSubstituted_outContext .., rfl⟩
        | true =>
          cases used : descSkip d with
          | true => exact never (presentOut_of_skip free held hc own used) (not_ready_of_skip used)
          | false =>
            cases check : outboundCheck (s.link l) d with
            | inl code =>
              exact never (presentOut_of_refused free held hc own used check) (not_ready_asRefused d)
            | inr cls =>
              cases due : s.holdOffPassed l (descHoldOff d) with
              | false =>
                exact never (LinksAndHoldOff.presentOut_before_holdOff free held hc own used check due)
                  (not_ready_withOwnClear fits)
              | true =>
                rw [presentOut_of_ready free held hc own used check due]
                exact ⟨_, openSoftware_outContext .., rfl⟩

theorem inContext_of_ready {closing : Bool} (ready : readsReady (s.presentIn r l i closing d).2 = true) :
    ∃ c, ((s.presentIn r l i closing d).1.link l).inContext = some c ∧ c.slot = i := by
  have fits : 1 < d.length := by omega
  have never {e : List Byte} {t : State} (is : s.presentIn r l i closing d = (t, e))
      (dull : readsReady e = false) :
      ∃ c, ((s.presentIn r l i closing d).1.link l).inContext = some c ∧ c.slot = i := by
    rw [is, dull] at ready
    cases ready
  cases free : (s.slot r i).pending with
  | true => exact never (presentIn_of_pending free) (not_ready_withOwnClear fits)
  | false =>
    cases held : (s.slot r i).held with
    | some code => exact never (presentIn_of_held free held) (not_ready_asRefused _)
    | none =>
      cases hc : (s.link l).inContext with
      | some c => exact never (presentIn_of_open free held hc) (not_ready_withOwnClear fits)
      | none =>
        cases own : descOwn d with
        | false => exact never (presentIn_of_clear free held hc own) (not_ready_of_clear own)
        | true =>
          cases used : descSkip d with
          | true => exact never (presentIn_of_skip free held hc own used) (not_ready_of_skip used)
          | false =>
            cases check : inboundCheck (s.link l) closing d with
            | some code =>
              exact never (presentIn_of_refused free held hc own used check) (not_ready_asRefused d)
            | none =>
              rw [presentIn_of_ready free held hc own used check]
              exact ⟨_, openInbound_inContext .., rfl⟩

end ready

end Sys2Proof.Proofs.Presentations
end


section
/-! PROOFS. What a descriptor shows, under the first case that applies (R30 to R34, R75), and the port L read of a
descriptor area. -/

namespace Sys2Proof.Proofs.DescriptorReads
open Sys2Proof Sys2Proof.Machine
open Sys2Proof.Proofs.SlotsAndResults Sys2Proof.Proofs.MemoryPort Sys2Proof.Proofs.Grants
open Sys2Proof.Proofs.DrainLimit Sys2Proof.Proofs.AnsweredTraffic
open Sys2Proof.Proofs.Presentations

/-! ### The contexts opened -/

section opened
variable {s : State} {r : RingIndex} {l : LinkSlot} {i : Nat} {d : List Byte}

theorem record_nextIdent (held : Option PartCode) : (s.record r i held d).nextIdent = s.nextIdent :=
  (congrArg State.nextIdent (setSlot_eq s r i _)).trans rfl

theorem openSoftware_record (presented : List Byte) (cls : FrameClass) :
    (s.record r i none d).openSoftware l i d presented cls =
      { (s.record r i none d).setLink l { s.link l with
          outContext := some (OutContext.fresh s.nextIdent i (descPointer d) (descLength d) cls
            (descRpt d) false [] presented) } with
        nextIdent := s.nextIdent + 1 } := by
  have opened (t : State) (x : Link) (same : t.link l = x) (n : Nat) (ident : t.nextIdent = n) :
      t.openSoftware l i d presented cls = { t.setLink l { x with
          outContext := some (OutContext.fresh n i (descPointer d) (descLength d) cls
            (descRpt d) false [] presented) } with
        nextIdent := n + 1 } := by
    subst same ident
    rfl
  exact opened _ _ (record_link none) _ (record_nextIdent none)

theorem openInbound_record :
    (s.record r i none d).openInbound l i d =
      { (s.record r i none d).setLink l { s.link l with
          inContext := some (InContext.fresh s.nextIdent i (descPointer d) (descLength d)) } with
        nextIdent := s.nextIdent + 1 } := by
  have opened (t : State) (x : Link) (same : t.link l = x) (n : Nat) (ident : t.nextIdent = n) :
      t.openInbound l i d = { t.setLink l { x with
          inContext := some (InContext.fresh n i (descPointer d) (descLength d)) } with
        nextIdent := n + 1 } := by
    subst same ident
    rfl
  exact opened _ _ (record_link none) _ (record_nextIdent none)

end opened

/-! ### A substituted keepalive (R74, R75, R77) -/

section keepalive
variable {s : State} {l : LinkSlot}

theorem substitution_of_none (never : ((s.link l).state ≠ .keyed ∧ (s.link l).state ≠ .quarantined) ∨
    (s.link l).keepalive = 0 ∨ (s.link l).idle ≤ (s.link l).keepalive ∨ s.phantom = none) :
    s.substitution l = none := by
  unfold State.substitution
  dsimp only
  split
  · next both =>
    obtain ⟨standing, idle⟩ := both
    simp only [Link.isIdle, Bool.and_eq_true, bne_iff_ne, decide_eq_true_eq] at idle
    rcases never with ⟨notKeyed, notQuarantined⟩ | off | busy | absent
    · exact absurd standing (not_or.mpr ⟨notKeyed, notQuarantined⟩)
    · exact absurd off idle.1
    · exact absurd idle.2 (Nat.not_lt_of_le busy)
    · rw [absent]
      rfl
  · rfl

theorem substitution_of_idle {base : Nat} (standing : (s.link l).state = .keyed ∨ (s.link l).state = .quarantined)
    (on : (s.link l).keepalive ≠ 0) (idle : (s.link l).keepalive < (s.link l).idle)
    (window : s.phantom = some base) : s.substitution l = some (base + 64 * l.val) := by
  unfold State.substitution
  dsimp only
  rw [if_pos ⟨standing, by simp [Link.isIdle, on, idle]⟩, window]
  rfl

/-- The fields of a keepalive's status contents (R77). -/
theorem statusContents_fields (s : State) (l : LinkSlot) : let x := s.link l
    let contents := s.statusContents l
    contents.length = 8 ∧
      slice contents 0 2 = leBytes 2 x.health.e ∧ byteAt contents 2 = x.state.code ∧
      slice contents 3 1 = leBytes 1 x.health.a ∧
      slice contents 4 2 = leBytes 2 (match s.currentKey l with
        | some k => (s.key k).epoch.toNat | none => 0) ∧
      (byteAt contents 6).getLsbD 0 = s.time.valid ∧
      ((byteAt contents 6).getLsbD 1 = true ↔ x.state = .quarantined) ∧
      ((byteAt contents 6).getLsbD 2 = true ↔
        ∃ k, s.currentKey l = some k ∧ (s.key k).dueReported = true) ∧
      (byteAt contents 6).getLsbD 3 = x.health.silent := by
  intro x contents
  let flags (a b c d : Bool) : Byte := (if a then 1#8 <<< 0 else 0) ||| (if b then 1#8 <<< 1 else 0) |||
    (if c then 1#8 <<< 2 else 0) ||| (if d then 1#8 <<< 3 else 0)
  have bits : ∀ a b c d : Bool, (flags a b c d).getLsbD 0 = a ∧ (flags a b c d).getLsbD 1 = b ∧
      (flags a b c d).getLsbD 2 = c ∧ (flags a b c d).getLsbD 3 = d := by decide
  obtain ⟨valid, quarantined, due, silent⟩ := bits s.time.valid (x.state == .quarantined)
    ((((s.currentKey l).map s.key).map (·.dueReported)).getD false) x.health.silent
  refine ⟨rfl, rfl, rfl, rfl, ?_, valid, ?_, ?_, silent⟩
  · have epoch : (((s.currentKey l).map s.key).map (fun k => k.epoch.toNat)).getD 0 =
        match s.currentKey l with | some k => (s.key k).epoch.toNat | none => 0 := by
      cases s.currentKey l <;> rfl
    rw [← epoch]
    rfl
  · refine (Bool.eq_iff_iff.mp quarantined).trans ?_
    exact beq_iff_eq
  · refine (Bool.eq_iff_iff.mp due).trans ?_
    cases s.currentKey l with
    | none => simp
    | some k => simp

end keepalive

/-! ### Reads of a descriptor area (R34) -/

theorem forceOwnClear_length (base start : Nat) (d : List Byte) :
    (forceOwnClear base start d).length = d.length := List.length_mapIdx

theorem byteAt_forceOwnClear (base start : Nat) (d : List Byte) {j : Nat} (within : j < d.length) :
    byteAt (forceOwnClear base start d) j =
      if (start + j - base) % 16 = 1 then byteAt d j &&& 0x7F#8 else byteAt d j := by
  simp [byteAt, forceOwnClear, List.getD, within]

section area
variable {s : State} {r : RingIndex} {area : Area} {start : Nat} {d : List Byte} {alone closing : Bool}

theorem openRing_of_free (free : s.ring r = none) : s.openRing r area = none := by
  rw [State.openRing, free]
  rfl

theorem isOpen_iff (x : LinkState) : x.isOpen = true ↔ x ≠ .closed := by
  cases x <;> decide

theorem openRing_of_shut {ring : Ring} (held : s.ring r = some ring)
    (shut : ring.area ≠ area ∨ (s.link ring.link).state = .closed) : s.openRing r area = none := by
  rw [State.openRing, held, Option.filter_eq_none_iff]
  rintro _ ⟨⟩ both
  obtain ⟨same, isOpen⟩ := Bool.and_eq_true_iff.mp both
  exact shut.elim (fun other => other (beq_iff_eq.mp same)) ((isOpen_iff _).mp isOpen)

theorem openRing_of_open {ring : Ring} (held : s.ring r = some ring) (same : ring.area = area)
    (isOpen : (s.link ring.link).state ≠ .closed) : s.openRing r area = some ring := by
  rw [State.openRing, held, Option.filter_eq_some_iff]
  exact ⟨rfl, Bool.and_eq_true_iff.mpr ⟨beq_iff_eq.mpr same, (isOpen_iff _).mpr isOpen⟩⟩

theorem presentRead_of_shut (shut : s.openRing r area = none) :
    s.presentRead r area start d alone closing = (s, forceOwnClear area.base start d) := by
  simp only [State.presentRead, shut]

variable {ring : Ring} (isOpen : s.openRing r area = some ring)
include isOpen

theorem presentRead_of_part (part : (start - ring.base) % 16 ≠ 0 ∨ d.length ≠ 16 ∨ alone = false) :
    s.presentRead r area start d alone closing =
      (s.ringFault ring.link start, forceOwnClear area.base start d) := by
  have not_whole : ¬((start - ring.base) % 16 = 0 ∧ d.length = 16 ∧ alone = true) := by
    rintro ⟨at_, length, only⟩
    rcases part with h | h | h
    · exact h at_
    · exact h length
    · simp [h] at only
  simp only [State.presentRead, isOpen, if_neg not_whole]

theorem presentRead_of_slot (at_ : (start - ring.base) % 16 = 0) (length : d.length = 16)
    (only : alone = true) : s.presentRead r area start d alone closing =
      if ring.outbound then s.presentOut r ring.link ((start - ring.base) / 16) d
      else s.presentIn r ring.link ((start - ring.base) / 16) closing d := by
  simp only [State.presentRead, isOpen, at_, length, only, and_self, if_true]

end area

/-! ### The access that answers the read (R44, R46) -/

section grant
variable {s : State}

theorem setSlot_steering (r : RingIndex) (i : Nat) (x : SlotRecord) :
    (s.setSlot r i x).steering = s.steering :=
  (congrArg State.steering (setSlot_eq s r i x)).trans rfl

theorem presentOut_steering (r : RingIndex) (l : LinkSlot) (i : Nat) (d : List Byte) :
    (s.presentOut r l i d).1.steering = s.steering := by
  unfold State.presentOut
  dsimp only
  (repeat' split) <;>
    simp [State.openSubstituted, State.openSoftware, State.record, setSlot_steering]

theorem presentIn_steering (r : RingIndex) (l : LinkSlot) (i : Nat) (closing : Bool) (d : List Byte) :
    (s.presentIn r l i closing d).1.steering = s.steering := by
  unfold State.presentIn
  dsimp only
  (repeat' split) <;> simp [State.openInbound, State.record, setSlot_steering]

theorem presentRead_steering (r : RingIndex) (area : Area) (start : Nat) (d : List Byte)
    (alone closing : Bool) : (s.presentRead r area start d alone closing).1.steering = s.steering := by
  unfold State.presentRead
  split
  · rfl
  · split
    · split
      · exact presentOut_steering ..
      · exact presentIn_steering ..
    · rfl

variable {x : Transaction} {p : Portion} {answered : Option BusAnswer} {r : RingIndex} {area : Area}
  {closing : Bool}

theorem performAccess_of_descriptor {a : Access} (read : a.write = none) (use : a.use = .descriptor closing)
    (at_ : s.placeOf true a.portion = some p) (place : p.place = .descriptors r area) :
    s.performAccess true a =
      let shown := s.presentRead r area a.address (memReadBytes s.memory a.address (8 * a.beats))
        (s.oneRing true) closing
      shown.1.serve true a.portion (fun p => p.served (.descriptor closing) a.address shown.2) := by
  simp only [State.performAccess, read, use, at_, place, Option.map_some]

/-- The memory transaction of a descriptor read is answered with what is then presented (log 19). -/
theorem grantPort_of_descriptor
    (port : s.port true = ⟨some x, [], [⟨0, .descriptor closing, p.start, p.beats, none⟩], answered⟩)
    (isRead : x.request.isRead = true) (one : x.portions = [p]) (place : p.place = .descriptors r area) :
    let t := s.setPort true ⟨some x, [], [], answered⟩
    let shown := t.presentRead r area p.start (memReadBytes s.memory p.start (8 * p.beats)) true closing
    shown.2.length = 8 * p.beats →
    s.grantPort true = shown.1.setPort true ⟨none, [], [], some (.data shown.2)⟩ := by
  intro t shown whole
  have at_ : t.placeOf true 0 = some p := by
    rw [State.placeOf, port_setPort_self]
    simp [one]
  have alone : t.oneRing true = true := by
    rw [State.oneRing, port_setPort_self]
    simp [one, place]
  have kept : shown.1.port true = ⟨some x, [], [], answered⟩ :=
    (congrArg Steering.l (presentRead_steering ..)).trans (port_setPort_self s true _)
  obtain ⟨-, -, memory, -⟩ := setPort_others s true ⟨some x, [], [], answered⟩
  rw [grantPort_of_one port, performAccess_of_descriptor rfl rfl at_ place, alone, memory]
  change (shown.1.serve true 0 _).run true = _
  rw [serve_of_one kept one]
  exact (run_of_done (port_setPort_self ..) rfl rfl).trans
    (by rw [setPort_setPort, if_pos isRead, readyBytes_of_whole whole]; rfl)

end grant

/-! ### A presented read of an area -/

theorem areaRead_waits {s : State} {start : Long} {beats : Nat} {r : RingIndex} {area : Area}
    (accepts : s.accepts = true) (quiet : s.steering.l.quiet = true) (low : 1 ≤ beats) (high : beats ≤ 8)
    (space : start.toNat / 8 * 8 + 8 * beats ≤ 2 ^ 32)
    (places : s.beatsIn start beats (.descriptors r area) = true) :
    ∃ u : State, exec (.portLRead start beats) s = .next u.closeDrained ∧
      u.steering.l.accesses = [⟨0, .descriptor (decide ((s.link area.link).state = .closing)),
        start.toNat / 8 * 8, beats, none⟩] ∧
      u.steering.l.current.isSome = true ∧ u.steering.l.answered = s.steering.l.answered ∧
      u.still = s.still ∧ u.links = s.links ∧ u.rings = s.rings ∧ u.mail = s.mail := by
  let t := accepted s true (readOf start beats) (.descriptors r area)
  let w : Access := ⟨0, .descriptor (decide ((s.link area.link).state = .closing)),
    start.toNat / 8 * 8, beats, none⟩
  have step : t.advance true true true true 0 0 (onePortion (readOf start beats) (.descriptors r area)) =
      (t.issue true w, { onePortion (readOf start beats) (.descriptors r area) with
        started := true, issued := true }) := rfl
  obtain ⟨x, runs, current, answered, accesses⟩ := read_held (onL := true) (accesses := [w]) accepts quiet
    low high space places step rfl rfl
  exact ⟨_, runs, accesses, current, answered,
    (still_setPort ..).trans ((still_issue ..).trans (still_setPort s true _)), rfl, rfl, rfl⟩

end Sys2Proof.Proofs.DescriptorReads
end


section
/-! PROOFS. Completion writes (R35 to R37): the completions of a write, the replacement of a slot, and the write's
answer. -/

namespace Sys2Proof.Proofs.CompletionWrites
open Sys2Proof Sys2Proof.Machine
open Sys2Proof.Proofs.SlotsAndResults Sys2Proof.Proofs.RenewalJobs Sys2Proof.Proofs.MemoryPort
open Sys2Proof.Proofs.Grants Sys2Proof.Proofs.DrainLimit Sys2Proof.Proofs.AnsweredTraffic
open Sys2Proof.Proofs.Presentations Sys2Proof.Proofs.DescriptorReads

/-! ### The completions of a write (R35) -/

section completions
variable {base i : Nat} {bytes : List (Option Byte)}

/-- A write of the first four bytes of a slot is one completion. -/
theorem completionsOf_of_whole {status control low high : Byte} {rest : List (Option Byte)}
    (size : rest.length = 4 ∨ rest.length = 12) :
    completionsOf base (base + 16 * i) ([some status, some control, some low, some high] ++ rest) =
      [(i, status, leNat [low, high])] := by
  have second : (base + 16 * i + 8 - base) % 16 ≠ 0 := by omega
  rcases size with eight | sixteen
  · have beats : ([some status, some control, some low, some high] ++ rest).length / 8 = 1 := by
      simp [eight]
    rw [completionsOf, beats]
    simp [List.range_succ]
  · have beats : ([some status, some control, some low, some high] ++ rest).length / 8 = 2 := by
      simp [sixteen]
    rw [completionsOf, beats]
    simp [List.range_succ, second]

/-- A write that leaves one of the first four bytes of a slot out completes nothing. -/
theorem completionsOf_of_partial (size : bytes.length = 8 ∨ bytes.length = 16) (part : none ∈ bytes.take 4) :
    completionsOf base (base + 16 * i) bytes = [] := by
  rw [completionsOf, List.filterMap_eq_nil_iff]
  intro beat mem
  rw [List.mem_range] at mem
  split
  · next at_ =>
    obtain rfl : beat = 0 := by omega
    split
    · next four =>
      rw [Nat.mul_zero, List.drop_zero] at four
      simp [four] at part
    · rfl
  · rfl

/-- A write of the last eight bytes of a slot completes nothing. -/
theorem completionsOf_of_tail (size : bytes.length = 8) : completionsOf base (base + 16 * i + 8) bytes = [] := by
  have second : (base + 16 * i + 8 - base) % 16 ≠ 0 := by omega
  rw [completionsOf, size]
  simp [List.range_succ, second]

end completions

/-! ### What a completion write leaves -/

/-- The state after a completion, with a RING_FAULT for the bytes beyond it. -/
def withExtra (l : LinkSlot) (start : Nat) (rest : List (Option Byte)) (t : State) : State :=
  if ∀ b ∈ rest, b = none then t else t.ringFault l start

/-- The report for the bytes beyond a completion. -/
def extraReports (l : LinkSlot) (start : Nat) (rest : List (Option Byte)) : List (ReportSource × Report) :=
  if ∀ b ∈ rest, b = none then [] else [(.linkUnit, ⟨.ringFault start, some l, 0⟩)]

theorem withExtra_eq (l : LinkSlot) (start : Nat) (rest : List (Option Byte)) (t : State) :
    withExtra l start rest t = { t with
      mail := { t.mail with reports := t.mail.reports ++ extraReports l start rest } } := by
  unfold withExtra extraReports
  split
  · rw [List.append_nil]
  · rfl

theorem reduceOption_length_eq_zero (xs : List (Option Byte)) :
    xs.reduceOption.length = 0 ↔ ∀ b ∈ xs, b = none := by
  rw [List.length_eq_zero_iff, List.reduceOption, List.filterMap_eq_nil_iff]
  rfl

section completeWrite
variable {s : State} {r : RingIndex} {area : Area} {start : Nat}

theorem completeWrite_of_none {bytes : List (Option Byte)} (nothing : completionsOf area.base start bytes = [])
    (enabled : ∃ b, some b ∈ bytes) : s.completeWrite r area start bytes = s.ringFault area.link start := by
  have some_ : bytes.reduceOption.length ≠ 0 := fun empty => by
    obtain ⟨b, mem⟩ := enabled
    cases (reduceOption_length_eq_zero bytes).mp empty _ mem
  simp [State.completeWrite, nothing, State.completeAll, some_]

variable {status control low high : Byte} {rest : List (Option Byte)} {i : Nat}
  (one : completionsOf area.base start ([some status, some control, some low, some high] ++ rest) =
    [(i, status, leNat [low, high])])
include one

theorem completeWrite_of_discarded
    (discards : (s.openRing r area).bind (fun ring => s.completeSlot r ring i status (leNat [low, high])) = none) :
    s.completeWrite r area start ([some status, some control, some low, some high] ++ rest) =
      s.ringFault area.link start := by
  unfold State.completeWrite
  simp only [one, State.completeAll, discards, Bool.true_or, if_true]

theorem completeWrite_of_taken {t : State}
    (takes : (s.openRing r area).bind (fun ring => s.completeSlot r ring i status (leNat [low, high])) = some t) :
    s.completeWrite r area start ([some status, some control, some low, some high] ++ rest) =
      withExtra area.link start rest t := by
  have enabled : ([some status, some control, some low, some high] ++ rest).reduceOption.length =
      4 + rest.reduceOption.length := by
    simp [List.reduceOption]
    omega
  unfold State.completeWrite withExtra
  simp only [one, State.completeAll, takes, enabled, List.length_singleton, Bool.false_or,
    ← reduceOption_length_eq_zero]
  by_cases clean : rest.reduceOption.length = 0
  · simp [clean]
  · simp [clean]

end completeWrite

/-! ### What a completion leaves alone -/

section steering
variable (s : State)

theorem queueReplacement_steering (r : RingIndex) (i : Nat) (status : Byte) (o : FrameOutcome) :
    (s.queueReplacement r i status o).steering = s.steering :=
  (congrArg State.steering (queueReplacement_eq s r i status o)).trans rfl

theorem finishOut_steering (l : LinkSlot) (status : Byte) : (s.finishOut l status).steering = s.steering := by
  unfold State.finishOut
  refine ((congrArg State.steering (closeOut_eq _ l)).trans rfl).trans ?_
  split <;> rfl

theorem settle_steering (l : LinkSlot) (c : InContext) (status : Byte) (total : Nat) :
    (s.settle l c status total).steering = s.steering := by
  have ends (code : Byte) (b : Bool) : (s.endSettlement l c code b).steering = s.steering :=
    (congrArg State.steering (endSettlement_eq s l c code b)).trans rfl
  unfold State.settle
  split
  · exact ends _ _
  · split
    · exact ends _ _
    · unfold State.confirm
      dsimp only
      split <;> rfl

theorem completeIdle_steering {r : RingIndex} {ring : Ring} {i : Nat} {status : Byte} {t : State}
    (h : s.completeIdle r ring i status = some t) : t.steering = s.steering := by
  unfold State.completeIdle at h
  dsimp only at h
  (repeat' split at h) <;> cases h <;> exact queueReplacement_steering ..

theorem completeSlot_steering {r : RingIndex} {ring : Ring} {i : Nat} {status : Byte} {total : Nat} {t : State}
    (h : s.completeSlot r ring i status total = some t) : t.steering = s.steering := by
  unfold State.completeSlot at h
  split at h
  · cases h
  · split at h
    · split at h
      · cases h
        unfold State.completeOut
        split
        · exact finishOut_steering ..
        · exact (queueReplacement_steering ..).trans (finishOut_steering ..)
      · exact completeIdle_steering s h
    · split at h
      · cases h
        exact (settle_steering ..).trans (setSlot_steering ..)
      · exact completeIdle_steering s h

theorem completeAll_steering (r : RingIndex) (area : Area) (cs : List (Nat × Byte × Nat)) :
    ∀ (s : State) (discarded : Bool), (s.completeAll r area discarded cs).1.steering = s.steering := by
  induction cs with
  | nil => intro s discarded; rfl
  | cons c cs ih =>
    intro s discarded
    obtain ⟨i, status, total⟩ := c
    rw [State.completeAll]
    split
    · next t takes =>
      obtain ⟨ring, -, step⟩ := Option.bind_eq_some_iff.mp takes
      exact (ih t discarded).trans (completeSlot_steering s step)
    · exact ih s true

theorem completeWrite_steering (r : RingIndex) (area : Area) (start : Nat) (bytes : List (Option Byte)) :
    (s.completeWrite r area start bytes).steering = s.steering := by
  unfold State.completeWrite
  dsimp only
  split
  · exact completeAll_steering ..
  · exact completeAll_steering ..

end steering

/-! ### The write at the port -/

/-- A completion write is acknowledged, and leaves what its completions leave. -/
theorem completionWrite_settles {s t : State} {start : Long} {bytes : List (Option Byte)} {r : RingIndex}
    {area : Area} (accepts : s.accepts = true) (quiet : s.steering.l.quiet = true)
    (aligned : start.toNat % 8 = 0) (whole : bytes.length % 8 = 0) (some_ : bytes.length ≠ 0)
    (high : bytes.length ≤ 64) (space : start.toNat + bytes.length ≤ 2 ^ 32)
    (places : s.beatsIn start (bytes.length / 8) (.descriptors r area) = true)
    (completes : (accepted s true (writeOf start bytes) (.descriptors r area)).completeWrite r area
      start.toNat bytes = t) :
    ∃ u : State, (exec (.portLWrite start bytes) s = .next u.closeDrained ∧
        u.steering.l = ⟨none, [], [], some .acknowledged⟩ ∧ u.still = s.still ∧
        u.steering.p = s.steering.p) ∧
      u.links = t.links ∧ u.rings = t.rings ∧ u.internal = t.internal ∧ u.mail = t.mail ∧
      u.keys = t.keys ∧ u.store = t.store := by
  have at_ : start.toNat / 8 * 8 = start.toNat := by omega
  have steering : t.steering = _ := (congrArg State.steering completes).symm.trans (completeWrite_steering ..)
  have still : t.still = _ := (congrArg State.still completes).symm.trans (still_completeWrite ..)
  have step : (accepted s true (writeOf start bytes) (.descriptors r area)).advance true false true true 0 0
      (onePortion (writeOf start bytes) (.descriptors r area)) =
      (t, (onePortion (writeOf start bytes) (.descriptors r area)).discarded) := by
    rw [← completes]
    show (_, _) = _
    rw [show (onePortion (writeOf start bytes) (.descriptors r area)).start = start.toNat from at_]
    rfl
  exact ⟨_, ⟨write_discarded (onL := true) accepts quiet whole some_ high (by omega) places step
      (congrArg Steering.l steering) rfl, rfl,
    (still_setPort ..).trans (still.trans (still_setPort s true _)), (congrArg Steering.p steering).trans rfl⟩,
    rfl, rfl, rfl, rfl, rfl, rfl⟩

/-! ### A slot replaced (R36, R37) -/

/-- The slot is replaced: pending until its replacement lands, which is queued behind the writes before it, and whose
FRAME_DONE is posted when it finds a place; `more` is what else is posted. -/
def Replaced (s : State) (r : RingIndex) (ring : Ring) (i : Nat) (more : List (ReportSource × Report)) (u : State)
    (code : Byte) (cls : Option Byte) (len epoch sequence : Nat) : Prop :=
  ∀ copy, (ring.slot i).copy = some copy →
    let show_ : Byte := match cls with
      | some c => if c.toNat ≤ 7 then (byteAt copy 1 &&& 0x78#8) ||| c
        else byteAt copy 1 &&& 0x7F#8
      | none => byteAt copy 1 &&& 0x7F#8
    let done : Option Report := if (byteAt copy 1).getLsbD 3 = true then
        some ⟨.frameDone (!ring.outbound) i code, some ring.link, 0⟩ else none
    u.slot r i = { ring.slot i with pending := true, job := none } ∧
    (∀ q j, q ≠ r ∨ j ≠ i → u.slot q j = s.slot q j) ∧
    u.internal.writes ++ u.internal.waitingWrites =
      s.internal.writes ++ s.internal.waitingWrites ++
        [⟨ring.base + 16 * i, [code, show_] ++ leBytes 2 len ++ slice copy 4 6 ++
          leBytes 2 epoch ++ leBytes 4 sequence, .replacement r i, done⟩] ∧
    u.mail.reports = s.mail.reports ++
      (if s.internal.writes.length < 24 ∧ s.internal.waitingWrites = [] then
        (done.map (fun d => (ReportSource.linkUnit, d))).toList else []) ++ more

/-- A queued write's announcement is posted when the write finds a place. -/
theorem queueWrite_reports (s : State) (w : InternalWrite) : (s.queueWrite w).mail.reports = s.mail.reports ++
    (if s.internal.writes.length < 24 ∧ s.internal.waitingWrites = [] then
      (w.announce.map (fun d => (ReportSource.linkUnit, { d with repeats := 0 }))).toList else []) := by
  unfold State.queueWrite
  split
  · rw [admitWrite_eq]
    rfl
  · rw [List.append_nil]

theorem queueReplacement_of_copy {s : State} {r : RingIndex} {ring : Ring} {i : Nat} {copy : List Byte}
    (held : s.ring r = some ring) (shown : (ring.slot i).copy = some copy) (status : Byte) (o : FrameOutcome) :
    s.queueReplacement r i status o =
      (s.setSlot r i { ring.slot i with pending := true, job := none }).queueWrite
        { address := ring.base + 16 * i
          bytes := replacementBytes copy o.cls status o.len o.epoch o.sequence
          use := .replacement r i
          announce := if descRpt copy then
            some ⟨.frameDone (!ring.outbound) i status, some ring.link, 0⟩ else none } := by
  simp only [State.queueReplacement, held, shown]

/-- The state in which a slot is replaced has the slots, the queue and the reports that it had before, but for the
pending mark of that slot. -/
structure Before (s t : State) (r : RingIndex) (ring : Ring) (i : Nat) : Prop where
  ring_ : ∃ slots, t.ring r = some { ring with slots := slots } ∧ i < slots.length
  copy : (t.slot r i).copy = (ring.slot i).copy
  slot : { t.slot r i with pending := true, job := none } = { ring.slot i with pending := true, job := none }
  others : ∀ q j, q ≠ r ∨ j ≠ i → t.slot q j = s.slot q j
  internal : t.internal = s.internal
  reports : t.mail.reports = s.mail.reports

/-- A slot replaced from such a state. -/
theorem replaced_of_before {s t u : State} {r : RingIndex} {ring : Ring} {i : Nat}
    (before : Before s t r ring i) (status : Byte) (o : FrameOutcome) {more : List (ReportSource × Report)}
    (rings : u.rings = (t.queueReplacement r i status o).rings)
    (internal : u.internal = (t.queueReplacement r i status o).internal)
    (reports : u.mail.reports = (t.queueReplacement r i status o).mail.reports ++ more) :
    Replaced s r ring i more u status o.cls o.len o.epoch.toNat o.sequence := by
  intro copy shown show_ done
  obtain ⟨slots, held, within⟩ := before.ring_
  have slot_ : ({ ring with slots := slots } : Ring).slot i = t.slot r i := (slot_of_ring held i).symm
  have shown' : (t.slot r i).copy = some copy := before.copy.trans shown
  have queued := queueReplacement_of_copy held (slot_ ▸ shown') status o
  refine ⟨?_, fun q j ne => ?_, ?_, ?_⟩
  · rw [slot_eq_of_rings rings, queueReplacement_slot_self status o shown', before.slot]
  · rw [slot_eq_of_rings rings, queueReplacement_slot_ne _ _ _ _ _ ne, before.others q j ne]
  · rw [internal, queued, queueWrite_writes, setSlot_internal, before.internal]
    rfl
  · have mail (x : SlotRecord) : (t.setSlot r i x).mail = t.mail :=
      (congrArg State.mail (setSlot_eq t r i x)).trans rfl
    rw [reports, queued, queueWrite_reports, setSlot_internal, mail, before.internal, before.reports]
    congr 2
    split
    · dsimp only [done]
      rw [show descRpt copy = (byteAt copy 1).getLsbD 3 from rfl]
      cases (byteAt copy 1).getLsbD 3 <;> rfl
    · rfl

end Sys2Proof.Proofs.CompletionWrites
end


section
/-! PROOFS. What a completion does to its slot (R35 to R37, R71, R78): the open frame closed or confirmed, a held
refusal or a skip replaced. -/

namespace Sys2Proof.Proofs.Completions
open Sys2Proof Sys2Proof.Machine
open Sys2Proof.Proofs.SlotsAndResults Sys2Proof.Proofs.CipherTaking Sys2Proof.Proofs.SequenceRequests
open Sys2Proof.Proofs.RenewalJobs Sys2Proof.Proofs.MemoryPort Sys2Proof.Proofs.DrainLimit
open Sys2Proof.Proofs.AnsweredTraffic Sys2Proof.Proofs.Presentations Sys2Proof.Proofs.DescriptorReads
open Sys2Proof.Proofs.CompletionWrites

/-! ### States from which a slot is replaced -/

theorem queueReplacement_statuses (s : State) (r : RingIndex) (i : Nat) (status : Byte) (o : FrameOutcome) :
    (s.queueReplacement r i status o).mail.statuses = s.mail.statuses := by
  obtain ⟨more, grown⟩ := queueReplacement_mail s r i status o
  rw [grown]

theorem queueReplacement_links (s : State) (r : RingIndex) (i : Nat) (status : Byte) (o : FrameOutcome) :
    (s.queueReplacement r i status o).links = s.links :=
  (congrArg State.links (queueReplacement_eq s r i status o)).trans rfl

section before
variable {s t : State} {r : RingIndex} {ring : Ring} {i : Nat} (held : s.ring r = some ring)
  (within : i < ring.slots.length)
include held within

theorem before_of_rings (rings : t.rings = s.rings) (internal : t.internal = s.internal)
    (reports : t.mail.reports = s.mail.reports) : Before s t r ring i := by
  have same (q : RingIndex) (j : Nat) : t.slot q j = s.slot q j := slot_eq_of_rings rings q j
  refine ⟨⟨ring.slots, ?_, within⟩, ?_, ?_, fun q j _ => same q j, internal, reports⟩
  · rw [State.ring, rings]
    exact held
  · rw [same, slot_of_ring held]
  · rw [same, slot_of_ring held]

/-- The slot marked pending before its replacement. -/
def markedSlot (s : State) (r : RingIndex) (ring : Ring) (i : Nat) : State :=
  s.setSlot r i { ring.slot i with pending := true }

omit held within in
theorem markedSlot_links : (markedSlot s r ring i).links = s.links := setSlot_links ..

omit held within in
theorem markedSlot_facts (s : State) (r : RingIndex) (ring : Ring) (i : Nat) :
    (markedSlot s r ring i).internal = s.internal ∧ (markedSlot s r ring i).mail = s.mail :=
  ⟨setSlot_internal .., (congrArg State.mail (setSlot_eq s r i _)).trans rfl⟩

omit held within in
theorem markedSlot_units (s : State) (r : RingIndex) (ring : Ring) (i : Nat) :
    (markedSlot s r ring i).keys = s.keys ∧ (markedSlot s r ring i).store = s.store :=
  ⟨(congrArg State.keys (setSlot_eq s r i _)).trans rfl, (congrArg State.store (setSlot_eq s r i _)).trans rfl⟩

omit held within in
/-- The marked slot is a field of the ring records alone. -/
theorem markedSlot_rings_of_rings (rings : t.rings = s.rings) :
    (markedSlot t r ring i).rings = (markedSlot s r ring i).rings := by
  unfold markedSlot State.setSlot State.ring State.setRing
  rw [rings]
  split
  · exact rings
  · rfl

theorem markedSlot_slot : (markedSlot s r ring i).slot r i = { ring.slot i with pending := true } :=
  slot_setSlot_self _ held within

theorem before_of_marked (rings : t.rings = (markedSlot s r ring i).rings) (internal : t.internal = s.internal)
    (reports : t.mail.reports = s.mail.reports) : Before s t r ring i := by
  have same (q : RingIndex) (j : Nat) : t.slot q j = (markedSlot s r ring i).slot q j :=
    slot_eq_of_rings rings q j
  refine ⟨⟨ring.slots.set i { ring.slot i with pending := true }, ?_, by rwa [List.length_set]⟩, ?_, ?_,
    fun q j ne => ?_, internal, reports⟩
  · rw [State.ring, rings, markedSlot, setSlot_of_ring held]
    exact State.setRing_ring_self ..
  · rw [same, markedSlot_slot held within]
  · rw [same, markedSlot_slot held within]
  · rw [same, markedSlot, slot_setSlot_ne _ _ ne]

end before

/-! ### The case of a completed slot (R35) -/

section cases
variable {s : State} {r : RingIndex} {ring : Ring} {i : Nat} {status : Byte} {total : Nat}

theorem completeSlot_of_pending (pending : (ring.slot i).pending = true) :
    s.completeSlot r ring i status total = none := by
  rw [State.completeSlot, if_pos pending]

section free
variable (free : (ring.slot i).pending = false)
include free

theorem completeSlot_of_out (outbound : ring.outbound = true) {c : OutContext}
    (hc : (s.link ring.link).outContext = some c) (at_ : c.slot = i) :
    s.completeSlot r ring i status total = some (s.completeOut ring.link c r status) := by
  have kept : (some c).filter (fun c => c.slot == i) = some c := by simp [at_]
  rw [State.completeSlot, if_neg (by simp [free]), if_pos outbound, hc, kept]

theorem completeSlot_of_in (inbound : ring.outbound = false) {c : InContext}
    (hc : (s.link ring.link).inContext = some c) (at_ : c.slot = i) (receiving : c.phase = .receiving) :
    s.completeSlot r ring i status total =
      some ((markedSlot s r ring i).settle ring.link c status total) := by
  have kept : (some c).filter (fun c => c.slot == i && c.phase == .receiving) = some c := by
    simp [at_, receiving]
  rw [State.completeSlot, if_neg (by simp [free]), if_neg (by simp [inbound]), hc, kept]
  rfl

theorem completeSlot_of_idle
    (idle : if ring.outbound then ∀ c, (s.link ring.link).outContext = some c → c.slot ≠ i
      else ∀ c, (s.link ring.link).inContext = some c → c.slot ≠ i ∨ c.phase ≠ .receiving) :
    s.completeSlot r ring i status total = s.completeIdle r ring i status := by
  rw [State.completeSlot, if_neg (by simp [free])]
  split at idle
  · next outbound =>
    have none_ : (s.link ring.link).outContext.filter (fun c => c.slot == i) = none := by
      rw [Option.filter_eq_none_iff]
      exact fun c hc at_ => idle c hc (beq_iff_eq.mp at_)
    rw [if_pos outbound, none_]
  · next inbound =>
    have none_ : (s.link ring.link).inContext.filter
        (fun c => c.slot == i && c.phase == .receiving) = none := by
      rw [Option.filter_eq_none_iff]
      intro c hc both
      obtain ⟨at_, receiving⟩ := Bool.and_eq_true_iff.mp both
      exact (idle c hc).elim (fun ne => ne (beq_iff_eq.mp at_)) (fun ne => ne (beq_iff_eq.mp receiving))
    rw [if_neg inbound, none_]

end free

/-- The state in which a held refusal of an inbound ring has handed its status on. -/
def noticed (s : State) (ring : Ring) (status code : Byte) : State :=
  if ring.outbound then s else s.notifyStatus ⟨ring.link, true, code, status != 0⟩

theorem noticed_facts (s : State) (ring : Ring) (status code : Byte) : let u := noticed s ring status code
    u.links = s.links ∧ u.rings = s.rings ∧ u.internal = s.internal ∧ u.mail = { s.mail with
      statuses := s.mail.statuses ++
        (if ring.outbound then [] else [⟨ring.link, true, code, status != 0⟩]) } := by
  unfold noticed
  split
  · exact ⟨rfl, rfl, rfl, by rw [List.append_nil]⟩
  · exact ⟨rfl, rfl, rfl, rfl⟩

theorem completeIdle_of_held {code : PartCode} (refused : (ring.slot i).held = some code) :
    s.completeIdle r ring i status = some ((noticed s ring status (finalStatus status code)).queueReplacement r i
      (finalStatus status code) (ring.emptyOutcome i)) := by
  simp only [State.completeIdle, refused]
  rfl

section unheld
variable (unheld : (ring.slot i).held = none)
include unheld

theorem completeIdle_of_skip {copy : List Byte} (shown : (ring.slot i).copy = some copy)
    (skip : descSkip copy = true) : s.completeIdle r ring i status =
      some (s.queueReplacement r i (finalStatus status .ok) (ring.emptyOutcome i)) := by
  simp only [State.completeIdle, unheld, shown, skip, if_true]

theorem completeIdle_of_nothing (used : ∀ copy, (ring.slot i).copy = some copy → descSkip copy = false) :
    s.completeIdle r ring i status = none := by
  cases shown : (ring.slot i).copy with
  | none => simp only [State.completeIdle, unheld, shown]
  | some copy => simp only [State.completeIdle, unheld, shown, used copy shown, Bool.false_eq_true, if_false]

end unheld
end cases

theorem finalStatus_eq (status : Byte) (code : PartCode) :
    finalStatus status code = if status = 0x00#8 then code.byte else status := rfl

theorem finalStatus_ok (status : Byte) : finalStatus status .ok = status := by
  rw [finalStatus_eq]
  split
  · next zero => rw [zero]; rfl
  · rfl

/-! ### The frame of the slot closed (R71, R78) -/

section finished
variable (s : State) (l : LinkSlot) (status : Byte)

theorem closeOut_link_ne {m : LinkSlot} (ne : m ≠ l) : (s.closeOut l).link m = s.link m := by
  unfold State.closeOut
  split
  · rfl
  · exact setOut_link_ne _ _ ne

theorem closeIn_link_ne {m : LinkSlot} (ne : m ≠ l) : (s.closeIn l).link m = s.link m := by
  unfold State.closeIn
  split
  · rfl
  · exact setIn_link_ne _ _ ne

/-- The state of a completed outbound frame, before its context closes. -/
def stamped : State :=
  let t := s.setLink l { s.link l with lastTransmit := some s.time.rawTick, idle := 0 }
  if status = lineAbort then t.notifyStatus ⟨l, false, status, true⟩ else t

theorem finishOut_eq_closeOut : s.finishOut l status = (stamped s l status).closeOut l := rfl

theorem stamped_eq : stamped s l status = { s with
    links := (s.setLink l { s.link l with lastTransmit := some s.time.rawTick, idle := 0 }).links
    mail := { s.mail with statuses := s.mail.statuses ++
      (if status = 0x01#8 then [⟨l, false, 0x01, true⟩] else []) } } := by
  unfold stamped lineAbort
  dsimp only
  by_cases abort : status = 0x01#8
  · rw [if_pos (c := status = 0x01) abort, if_pos abort, abort]
    rfl
  · rw [if_neg (c := status = 0x01) abort, if_neg abort, List.append_nil]
    rfl

theorem stamped_link (m : LinkSlot) : (stamped s l status).link m =
    (s.setLink l { s.link l with lastTransmit := some s.time.rawTick, idle := 0 }).link m := by
  rw [stamped_eq]
  rfl

/-- What a completed outbound frame leaves (R71, R78). -/
theorem finishOut_facts : let u := s.finishOut l status
    u.link l = { s.link l with
      outContext := none, lastTransmit := some s.time.rawTick, idle := 0 } ∧
    (∀ m, m ≠ l → u.link m = s.link m) ∧ u.rings = s.rings ∧ u.internal = s.internal ∧
    u.mail = { s.mail with statuses := s.mail.statuses ++
      (if status = 0x01#8 then [⟨l, false, 0x01, true⟩] else []) } := by
  intro u
  have step : u = _ := finishOut_eq_closeOut s l status
  rw [step]
  refine ⟨?_, fun m ne => ?_, ?_, ?_, ?_⟩
  · rw [closeOut_link, stamped_link, State.setLink_link_self]
  · rw [closeOut_link_ne _ _ ne, stamped_link, State.setLink_link_ne _ _ ne.symm]
  · rw [closeOut_rings, stamped_eq]
  · rw [closeOut_internal, stamped_eq]
  · rw [closeOut_mail, stamped_eq]

end finished

/-! ### The inbound frame settled (R36) -/

theorem settledFrame_link_ne (s : State) (l : LinkSlot) (status : Byte) (byController : Bool) {m : LinkSlot}
    (ne : m ≠ l) : (settledFrame s l status byController).link m = s.link m :=
  closeIn_link_ne (s.notifyStatus _) l ne

/-- What a settled frame leaves, before its slot is replaced. -/
theorem settledFrame_facts (s : State) (l : LinkSlot) (status : Byte) (byController : Bool) :
    let u := settledFrame s l status byController
    u.rings = s.rings ∧ u.internal = s.internal ∧
      u.mail = { s.mail with statuses := s.mail.statuses ++ [⟨l, true, status, byController⟩] } :=
  ⟨(congrArg State.rings (settledFrame_eq s l status byController)).trans rfl,
    settledFrame_internal s l status byController,
    (congrArg State.mail (settledFrame_eq s l status byController)).trans rfl⟩

section settle
variable {s : State} {l : LinkSlot} {c : InContext} {total : Nat}

theorem settle_of_controller {status : Byte} (set : status ≠ 0x00#8) :
    s.settle l c status total = s.endSettlement l c status true := if_pos set

/-- Without a status of the controller the frame's own code settles it, or its confirmation is asked. -/
theorem settle_of_clear : s.settle l c 0x00#8 total = match c.code total with
    | some code => s.endSettlement l c code.byte false
    | none => s.confirm l c ((c.header.map (·.sequence)).getD 0) := if_neg (not_not.mpr rfl)

theorem settle_of_code {code : PartCode} (ends : c.code total = some code) :
    s.settle l c 0x00#8 total = s.endSettlement l c code.byte false := by
  rw [settle_of_clear, ends]

theorem settle_of_verified {h : Header} (passes : c.code total = none) (parsed : c.header = some h) :
    s.settle l c 0x00#8 total = s.confirm l c h.sequence := by
  rw [settle_of_clear, passes]
  exact congrArg (s.confirm l c) (by rw [parsed]; rfl)

end settle

/-! ### The frame confirmed (R95) -/

section confirmed
variable {s : State} {l : LinkSlot} {c : InContext} {q : Seq}

/-- The state that waits for the confirmation of its frame. -/
def confirming (s : State) (l : LinkSlot) (c : InContext) : State :=
  s.setIn l (some { c with phase := .confirming, outcome := c.early })

theorem confirm_of_session {k : KeyIndex} {m : LinkSlot} {e : Half} {n}
    (ref : c.keyRef = some (.session k m e n)) : s.confirm l c q =
      (confirming s l c).askKeyUnit (.settle l c.ident (.session k m e n) q) := by
  unfold State.confirm
  dsimp only
  split
  · next is => cases ref.symm.trans is
  · next is => cases ref.symm.trans is
  · next is =>
    cases ref.symm.trans is
    rfl

theorem confirm_of_kek {k : KekIndex} {n : Nat} (ref : c.keyRef = some (.kek k n)) :
    s.confirm l c q = (confirming s l c).askStore (.receiveCommit l c.ident k n q) := by
  unfold State.confirm
  dsimp only
  split
  · next is => cases ref.symm.trans is
  · next is =>
    cases ref.symm.trans is
    rfl
  · next is => cases ref.symm.trans is

/-- What asking for the confirmation leaves. -/
theorem confirm_facts (s : State) (l : LinkSlot) (c : InContext) (q : Seq) :
    let u := s.confirm l c q
    u.links = (confirming s l c).links ∧ u.rings = s.rings ∧ u.internal = s.internal ∧ u.mail = s.mail := by
  unfold State.confirm
  dsimp only
  split <;> exact ⟨rfl, rfl, rfl, rfl⟩

end confirmed

end Sys2Proof.Proofs.Completions
end


section
/-! PROOFS. Descriptors (O16): what a read shows, the read of an area, and the completion writes of an open slot. -/

namespace Sys2Proof.Proofs.ReadyDescriptors
open Sys2Proof Sys2Proof.Machine
open Sys2Proof.Proofs.SlotsAndResults Sys2Proof.Proofs.CipherTaking Sys2Proof.Proofs.SequenceRequests
open Sys2Proof.Proofs.MemoryPort Sys2Proof.Proofs.Grants Sys2Proof.Proofs.DrainLimit
open Sys2Proof.Proofs.AnsweredTraffic Sys2Proof.Proofs.Presentations Sys2Proof.Proofs.DescriptorReads
open Sys2Proof.Proofs.CompletionWrites Sys2Proof.Proofs.Completions

/-! ### Writes of one slot -/

/-- A write was acknowledged, and left alone what no completion touches. -/
def Written (s : State) (start : Long) (bytes : List (Option Byte)) (u : State) : Prop :=
  exec (.portLWrite start bytes) s = .next u.closeDrained ∧
    u.steering.l = ⟨none, [], [], some .acknowledged⟩ ∧ u.still = s.still ∧
    u.steering.p = s.steering.p

/-- A write was acknowledged, and discarded with RING_FAULT. -/
def Discarded (s : State) (l : LinkSlot) (start : Long) (bytes : List (Option Byte)) : Prop :=
  ∃ u : State, Written s start bytes u ∧ u.links = s.links ∧ u.rings = s.rings ∧
    u.internal = s.internal ∧ u.mail = { s.mail with
      reports := s.mail.reports ++ [(.linkUnit, ⟨.ringFault start.toNat, some l, 0⟩)] }

section writes
variable {s : State} {start : Long} {r : RingIndex} {ring : Ring} {i : Nat}
  (accepts : s.accepts = true) (quiet : s.steering.l.quiet = true)
  (aligned : start.toNat % 8 = 0)
include accepts quiet aligned

/-- A write that completes nothing is discarded (R35). -/
theorem discarded_of_nothing {bytes : List (Option Byte)} (size : bytes.length = 8 ∨ bytes.length = 16)
    (space : start.toNat + bytes.length ≤ 2 ^ 32)
    (places : s.beatsIn start (bytes.length / 8) (.descriptors r ring.area) = true)
    (enabled : ∃ b, some b ∈ bytes)
    (nothing : completionsOf ring.base start.toNat bytes = []) : Discarded s ring.link start bytes := by
  obtain ⟨u, written, links, rings, internal, mail, -, -⟩ := completionWrite_settles accepts quiet aligned
    (by omega) (by omega) (by omega) space places
    (completeWrite_of_none (area := ring.area) nothing enabled)
  exact ⟨u, written, links, rings, internal, mail⟩

variable (held : s.ring r = some ring) (at_ : start.toNat = ring.base + 16 * i)
  {status control low high : Byte} {rest : List (Option Byte)} (size : rest.length = 4 ∨ rest.length = 12)
  (space : start.toNat + 4 + rest.length ≤ 2 ^ 32)
  (places : s.beatsIn start ((4 + rest.length) / 8) (.descriptors r ring.area) = true)
include held at_ size space places

/-- The completion of a closed link's slot, or of a slot that has none, is discarded. -/
theorem discarded_of_slot
    (shut : (s.link ring.link).state = .closed ∨
      ∀ t : State, t.links = s.links → t.completeSlot r ring i status (leNat [low, high]) = none) :
    Discarded s ring.link start ([some status, some control, some low, some high] ++ rest) := by
  have length : ([some status, some control, some low, some high] ++ rest).length = 4 + rest.length := by
    rw [List.length_append]
    rfl
  let t := accepted s true (writeOf start ([some status, some control, some low, some high] ++ rest))
    (.descriptors r ring.area)
  have discards : (t.openRing r ring.area).bind
      (fun ring => t.completeSlot r ring i status (leNat [low, high])) = none := by
    by_cases closed : (s.link ring.link).state = .closed
    · rw [openRing_of_shut (s := t) held (.inr closed)]
      rfl
    · rw [openRing_of_open (s := t) held rfl closed]
      exact shut.resolve_left closed t rfl
  obtain ⟨u, written, links, rings, internal, mail, -, -⟩ := completionWrite_settles accepts quiet aligned
    (by omega) (by omega) (by omega) (by omega) (by rwa [length])
    (completeWrite_of_discarded (area := ring.area) (by rw [at_]; exact completionsOf_of_whole size)
      discards)
  exact ⟨u, written, links, rings, internal, mail⟩

/-- A completion taken leaves what it says, and a RING_FAULT for the bytes beyond it. -/
theorem written_of_slot (isOpen : (s.link ring.link).state ≠ .closed) {t : State}
    (takes : (accepted s true (writeOf start ([some status, some control, some low, some high] ++ rest))
      (.descriptors r ring.area)).completeSlot r ring i status (leNat [low, high]) = some t) :
    ∃ u : State, Written s start ([some status, some control, some low, some high] ++ rest) u ∧
      u.links = t.links ∧ u.rings = t.rings ∧ u.internal = t.internal ∧
      u.mail = { t.mail with
        reports := t.mail.reports ++ extraReports ring.link start.toNat rest } ∧
      u.keys = t.keys ∧ u.store = t.store := by
  have length : ([some status, some control, some low, some high] ++ rest).length = 4 + rest.length := by
    rw [List.length_append]
    rfl
  let t' := accepted s true (writeOf start ([some status, some control, some low, some high] ++ rest))
    (.descriptors r ring.area)
  have takes' : (t'.openRing r ring.area).bind
      (fun ring => t'.completeSlot r ring i status (leNat [low, high])) = some t := by
    rw [openRing_of_open (s := t') held rfl isOpen]
    exact takes
  obtain ⟨u, written, links, rings, internal, mail, keys, store⟩ := completionWrite_settles accepts quiet
    aligned (by omega) (by omega) (by omega) (by omega) (by rwa [length])
    ((completeWrite_of_taken (area := ring.area) (by rw [at_]; exact completionsOf_of_whole size)
      takes').trans (withExtra_eq ..))
  exact ⟨u, written, links, rings, internal, mail, keys, store⟩

variable (within : i < ring.slots.length) (isOpen : (s.link ring.link).state ≠ .closed)
  (free : (ring.slot i).pending = false)
include within isOpen free

/-- The open outbound frame of a slot closes; a software frame's slot is replaced (R71, R78). -/
theorem written_of_out (outbound : ring.outbound = true) {c : OutContext}
    (hc : (s.link ring.link).outContext = some c) (slot : c.slot = i) :
    ∃ u : State, Written s start ([some status, some control, some low, some high] ++ rest) u ∧
      u.link ring.link = { s.link ring.link with
        outContext := none, lastTransmit := some s.time.rawTick, idle := 0 } ∧
      (∀ m, m ≠ ring.link → u.link m = s.link m) ∧
      u.mail.statuses = s.mail.statuses ++
        (if status = 0x01#8 then [⟨ring.link, false, 0x01, true⟩] else []) ∧
      (c.substituted = true → u.rings = s.rings ∧ u.internal = s.internal ∧
        u.mail.reports = s.mail.reports ++ extraReports ring.link start.toNat rest) ∧
      (c.substituted = false → Replaced s r ring i (extraReports ring.link start.toNat rest) u
        (finalStatus status (c.lost.getD .ok)) none c.len (c.epoch.getD 0).toNat
        (lowSequence (c.sequence.getD 0))) := by
  let t := accepted s true (writeOf start ([some status, some control, some low, some high] ++ rest))
    (.descriptors r ring.area)
  obtain ⟨u, written, links, rings, internal, mail, -, -⟩ := written_of_slot accepts quiet aligned held at_
    size space places isOpen (completeSlot_of_out (s := t) free outbound hc slot)
  obtain ⟨link, others, rings', internal', mail'⟩ := finishOut_facts t ring.link status
  cases substituted : c.substituted with
  | true =>
    have step : t.completeOut ring.link c r status = t.finishOut ring.link status := if_pos substituted
    rw [step] at links rings internal mail
    refine ⟨u, written, ?_, fun m ne => ?_, ?_, fun _ => ⟨rings.trans rings', internal.trans internal', ?_⟩,
      fun no => by cases no⟩
    · rw [State.link, links]
      exact link
    · rw [State.link, links]
      exact others m ne
    · rw [mail, mail']
      rfl
    · rw [mail, mail']
      rfl
  | false =>
    have step : t.completeOut ring.link c r status =
        (t.finishOut ring.link status).queueReplacement r c.slot
          (finalStatus status (c.lost.getD .ok)) c.outcome := if_neg (by simp [substituted])
    rw [step, slot] at links rings internal mail
    have links' := links.trans (queueReplacement_links ..)
    refine ⟨u, written, ?_, fun m ne => ?_, ?_, (fun yes => by cases yes), fun _ => ?_⟩
    · rw [State.link, links']
      exact link
    · rw [State.link, links']
      exact others m ne
    · rw [mail, queueReplacement_statuses, mail']
      rfl
    · exact replaced_of_before (o := c.outcome)
        (before_of_rings (s := s) held within rings' internal'
          ((congrArg Mail.reports mail').trans rfl)) _ rings internal
        (congrArg Mail.reports mail)

/-- The open inbound frame of a slot is settled with a code, and its slot replaced (R36). -/
theorem written_of_ended (inbound : ring.outbound = false) {c : InContext}
    (hc : (s.link ring.link).inContext = some c) (slot : c.slot = i) (receiving : c.phase = .receiving)
    (hr : (s.link ring.link).inRing = some r) {code : Byte} {byController : Bool}
    (ends : ∀ t : State, t.settle ring.link c status (leNat [low, high]) =
      t.endSettlement ring.link c code byController) :
    ∃ u : State, Written s start ([some status, some control, some low, some high] ++ rest) u ∧
      u.link ring.link = { s.link ring.link with inContext := none } ∧
      (∀ m, m ≠ ring.link → u.link m = s.link m) ∧
      u.mail.statuses = s.mail.statuses ++ [⟨ring.link, true, code, byController⟩] ∧
      Replaced s r ring i (extraReports ring.link start.toNat rest) u code c.frame.cls c.frame.len
        c.frame.epoch.toNat c.frame.sequence := by
  let t := accepted s true (writeOf start ([some status, some control, some low, some high] ++ rest))
    (.descriptors r ring.area)
  let v := markedSlot t r ring i
  have vLink (m : LinkSlot) : v.link m = s.link m := by
    rw [State.link, markedSlot_links]
    rfl
  obtain ⟨u, written, links, rings, internal, mail, -, -⟩ := written_of_slot accepts quiet aligned held at_
    size space places isOpen (completeSlot_of_in (s := t) free inbound hc slot receiving)
  rw [ends, endSettlement_of_ring _ _ _ _ _ (by rw [vLink]; exact hr), slot] at links rings internal mail
  have links' := links.trans (queueReplacement_links ..)
  obtain ⟨rings', internal', mail'⟩ := settledFrame_facts v ring.link code byController
  have vMail : v.mail = s.mail := (markedSlot_facts t r ring i).2
  have vInternal : v.internal = s.internal := (markedSlot_facts t r ring i).1
  refine ⟨u, written, ?_, fun m ne => ?_, ?_, ?_⟩
  · rw [State.link, links', ← State.link, settledFrame_link, vLink]
  · rw [State.link, links', ← State.link, settledFrame_link_ne _ _ _ _ ne, vLink]
  · rw [mail, queueReplacement_statuses, mail', vMail]
  · exact replaced_of_before (o := c.frame)
      (before_of_marked (s := s) held within (rings'.trans (markedSlot_rings_of_rings rfl)) (internal'.trans vInternal)
        ((congrArg Mail.reports mail').trans (congrArg Mail.reports vMail :))) _ rings internal
      (congrArg Mail.reports mail)

/-- The open inbound frame of a slot waits for its confirmation (R95). -/
theorem written_of_confirmed (inbound : ring.outbound = false) {c : InContext}
    (hc : (s.link ring.link).inContext = some c) (slot : c.slot = i) (receiving : c.phase = .receiving)
    {h : Header} (plain : status = 0x00#8) (passes : c.code (leNat [low, high]) = none)
    (parsed : c.header = some h) :
    ∃ u : State, Written s start ([some status, some control, some low, some high] ++ rest) u ∧
      u.internal = s.internal ∧ u.slot r i = { ring.slot i with pending := true } ∧
      u.mail = { s.mail with
        reports := s.mail.reports ++ extraReports ring.link start.toNat rest } ∧
      u.link ring.link = { s.link ring.link with
        inContext := some { c with phase := .confirming, outcome := c.early } } ∧
      (∀ k m e n, c.keyRef = some (.session k m e n) → u.store = s.store ∧
        u.keys = { s.keys with requests := s.keys.requests ++
          [.settle ring.link c.ident (.session k m e n) h.sequence] }) ∧
      (∀ k n, c.keyRef = some (.kek k n) → u.keys = s.keys ∧
        u.store = s.store.ask (.receiveCommit ring.link c.ident k n h.sequence)) := by
  subst plain
  let t := accepted s true (writeOf start ([some 0x00#8, some control, some low, some high] ++ rest))
    (.descriptors r ring.area)
  let v := markedSlot t r ring i
  have vLink (m : LinkSlot) : v.link m = s.link m := by
    rw [State.link, markedSlot_links]
    rfl
  obtain ⟨u, written, links, rings, internal, mail, keys, store⟩ := written_of_slot accepts quiet aligned held
    at_ size space places isOpen (completeSlot_of_in (s := t) free inbound hc slot receiving)
  rw [settle_of_verified passes parsed] at links rings internal mail keys store
  obtain ⟨links', rings', internal', mail'⟩ := confirm_facts v ring.link c h.sequence
  obtain ⟨vInternal, vMail⟩ := markedSlot_facts t r ring i
  obtain ⟨vKeys, vStore⟩ := markedSlot_units t r ring i
  refine ⟨u, written, internal.trans (internal'.trans vInternal), ?_, ?_, ?_, fun k m e n ref => ?_,
    fun k n ref => ?_⟩
  · rw [slot_eq_of_rings (rings.trans rings')]
    exact markedSlot_slot (s := t) held within
  · rw [mail, mail', vMail]
    rfl
  · rw [State.link, links, links', ← State.link, confirming, State.setIn, State.setLink_link_self, vLink]
  · rw [confirm_of_session ref] at keys store
    exact ⟨store.trans vStore, keys.trans (congrArg (fun x : KeyUnit => { x with
      requests := x.requests ++ [KeyRequest.settle ring.link c.ident (.session k m e n) h.sequence] }) vKeys)⟩
  · rw [confirm_of_kek ref] at keys store
    exact ⟨keys.trans vKeys, store.trans (congrArg (fun x => x.ask
      (StoreRequest.receiveCommit ring.link c.ident k n h.sequence)) vStore)⟩

section idle
variable (idle : if ring.outbound then ∀ c, (s.link ring.link).outContext = some c → c.slot ≠ i
  else ∀ c, (s.link ring.link).inContext = some c → c.slot ≠ i ∨ c.phase ≠ .receiving)
include idle

/-- A held refusal is completed: its slot is replaced, and an inbound ring's status handed on (R36). -/
theorem written_of_refusal {code : PartCode} (refused : (ring.slot i).held = some code) :
    ∃ u : State, Written s start ([some status, some control, some low, some high] ++ rest) u ∧
      u.links = s.links ∧
      u.mail.statuses = s.mail.statuses ++ (if ring.outbound then []
        else [⟨ring.link, true, finalStatus status code, status != 0⟩]) ∧
      Replaced s r ring i (extraReports ring.link start.toNat rest) u (finalStatus status code) none
        (ring.emptyOutcome i).len 0 0 := by
  let t := accepted s true (writeOf start ([some status, some control, some low, some high] ++ rest))
    (.descriptors r ring.area)
  obtain ⟨u, written, links, rings, internal, mail, -, -⟩ := written_of_slot accepts quiet aligned held at_
    size space places isOpen ((completeSlot_of_idle (s := t) free idle).trans (completeIdle_of_held refused))
  obtain ⟨links', rings', internal', mail'⟩ := noticed_facts t ring status (finalStatus status code)
  refine ⟨u, written, (links.trans (queueReplacement_links ..)).trans links', ?_, ?_⟩
  · rw [mail, queueReplacement_statuses, mail']
    rfl
  · exact replaced_of_before (o := ring.emptyOutcome i)
      (before_of_rings (s := s) held within rings' internal' ((congrArg Mail.reports mail').trans rfl)) _ rings
      internal (congrArg Mail.reports mail)

/-- A skip of software is completed: its slot is replaced (R29). -/
theorem written_of_skip {copy : List Byte} (unheld : (ring.slot i).held = none)
    (shown : (ring.slot i).copy = some copy) (skip : descSkip copy = true) :
    ∃ u : State, Written s start ([some status, some control, some low, some high] ++ rest) u ∧
      u.links = s.links ∧ u.mail.statuses = s.mail.statuses ∧
      Replaced s r ring i (extraReports ring.link start.toNat rest) u status none
        (ring.emptyOutcome i).len 0 0 := by
  let t := accepted s true (writeOf start ([some status, some control, some low, some high] ++ rest))
    (.descriptors r ring.area)
  obtain ⟨u, written, links, rings, internal, mail, -, -⟩ := written_of_slot accepts quiet aligned held at_
    size space places isOpen
    ((completeSlot_of_idle (s := t) free idle).trans (completeIdle_of_skip unheld shown skip))
  rw [finalStatus_ok] at links rings internal mail
  refine ⟨u, written, links.trans (queueReplacement_links ..), ?_, ?_⟩
  · rw [mail, queueReplacement_statuses]
    rfl
  · exact replaced_of_before (o := ring.emptyOutcome i)
      (before_of_rings (s := s) (t := t) held within rfl rfl rfl) _ rings internal (congrArg Mail.reports mail)

end idle
end writes

end Sys2Proof.Proofs.ReadyDescriptors
end


section
/-! PROOFS. Ready descriptors (O16), assembled from the cases of presentation and completion. -/

namespace Sys2Proof.Proofs.DescriptorCases
open Sys2Proof Sys2Proof.Machine
open Sys2Proof.Proofs.SlotsAndResults Sys2Proof.Proofs.MemoryPort Sys2Proof.Proofs.Grants
open Sys2Proof.Proofs.Presentations Sys2Proof.Proofs.DescriptorReads
open Sys2Proof.Proofs.CompletionWrites Sys2Proof.Proofs.Completions Sys2Proof.Proofs.ReadyDescriptors

/-! ### Presentation in the terms of the statement -/

section presented
variable {s : State} {r : RingIndex} {l : LinkSlot} {i : Nat} {d : List Byte} (whole : d.length = 16)
  (free : (s.slot r i).pending = false) (unheld : (s.slot r i).held = none)
include whole free unheld

/-- A ready descriptor opens a software frame (R30 case 9). -/
theorem presentOut_opens (shut : (s.link l).outContext = none) (own : descOwn d = true)
    (used : descSkip d = false)
    (passed : outRefusal (s.link l) (descPointer d) (descLength d) ((byteAt d 1).toNat % 8) = none)
    (due : s.holdOffPassed l (descHoldOff d) = true) :
    ∃ c : FrameClass, c.code.toNat = (byteAt d 1).toNat % 8 ∧
      let shown := [byteAt d 0, (byteAt d 1 ||| 0x80#8) &&& 0xEF#8] ++ leBytes 2 (descLength d + 24) ++ d.drop 4
      s.presentOut r l i d = ({ (s.record r i none d).setLink l { s.link l with
          outContext := some (OutContext.fresh s.nextIdent i (descPointer d) (descLength d) c
            (descRpt d) false [] shown) } with
        nextIdent := s.nextIdent + 1 }, shown) := by
  obtain ⟨c, check, code⟩ := outboundCheck_of_passed passed
  refine ⟨c, code, ?_⟩
  rw [presentOut_of_ready free unheld shut own used check due, openSoftware_record, asReady_eq whole]

/-- A descriptor whose hold-off has not passed shows OWN clear (R30 case 8). -/
theorem presentOut_waits (shut : (s.link l).outContext = none) (own : descOwn d = true)
    (used : descSkip d = false)
    (passed : outRefusal (s.link l) (descPointer d) (descLength d) ((byteAt d 1).toNat % 8) = none)
    (early : s.holdOffPassed l (descHoldOff d) = false) :
    s.presentOut r l i d = (s, d.set 1 (byteAt d 1 &&& 0x7F#8)) := by
  obtain ⟨c, check, -⟩ := outboundCheck_of_passed passed
  rw [LinksAndHoldOff.presentOut_before_holdOff free unheld shut own used check early,
    withOwnClear_eq (by omega)]

theorem presentOut_refuses (shut : (s.link l).outContext = none) (own : descOwn d = true)
    (used : descSkip d = false) {code : PartCode}
    (refused : outRefusal (s.link l) (descPointer d) (descLength d) ((byteAt d 1).toNat % 8) = some code) :
    s.presentOut r l i d = (s.record r i (some code) d, d.set 1 (byteAt d 1 ||| 0x90#8)) := by
  rw [presentOut_of_refused free unheld shut own used (outboundCheck_of_refusal refused),
    asRefused_eq (by omega)]

theorem presentIn_refuses {closing : Bool} (shut : (s.link l).inContext = none) (own : descOwn d = true)
    (used : descSkip d = false) {code : PartCode}
    (refused : inRefusal (s.link l) closing (descPointer d) (descLength d) = some code) :
    s.presentIn r l i closing d = (s.record r i (some code) d, d.set 1 (byteAt d 1 ||| 0x90#8)) := by
  rw [presentIn_of_refused free unheld shut own used ((inboundCheck_eq ..).trans refused),
    asRefused_eq (by omega)]

end presented

/-! ### What a replacement carries -/

theorem epoch_toNat (e : Option Half) : (e.getD 0).toNat = match e with | some e => e.toNat | none => 0 := by
  cases e <;> rfl

theorem lowSequence_getD (q : Option Seq) :
    lowSequence (q.getD 0) = match q with | some q => q.toNat % 2 ^ 32 | none => 0 := by
  cases q <;> rfl

theorem lost_status (code : Option PartCode) (status : Byte) : finalStatus status (code.getD .ok) =
    if status = 0x00#8 then (match code with | some code => code.byte | none => 0x00#8) else status := by
  cases code <;> rfl

/-- What the replacement of an inbound frame carries (R37). -/
theorem frame_fields (c : InContext) : c.frame.cls = c.header.map (fun h => h.cls) ∧
    c.frame.len = (match c.header with | some h => h.len | none => 0) ∧
    c.frame.epoch.toNat = (match c.header, c.keyRef with
      | some _, some (.session _ _ e _) => e.toNat | _, _ => 0) ∧
    c.frame.sequence = (match c.header with | some h => h.sequence.toNat % 2 ^ 32 | none => 0) := by
  unfold InContext.frame
  cases c.header with
  | none => exact ⟨rfl, rfl, rfl, rfl⟩
  | some h =>
    refine ⟨rfl, rfl, ?_, rfl⟩
    cases c.keyRef with
    | none => rfl
    | some ref => cases ref <;> rfl

theorem emptyOutcome_len {ring : Ring} {i : Nat} {copy : List Byte} (shown : (ring.slot i).copy = some copy) :
    (ring.emptyOutcome i).len = if ring.outbound then leNat (slice copy 2 2) else 0 := by
  rw [Ring.emptyOutcome, shown]
  rfl

/-- Settles O16: a descriptor by the first case that applies, the read of an area by its two steps, and a completion
by the case of its slot. -/
theorem readyDescriptorsHaveTheirContext : Obligations.ReadyDescriptorsHaveTheirContext := by
  refine ⟨?shown, ?area, ?waits, ?granted, ?tail, ?completed⟩
  case shown =>
    intro s r l i closing d whole
    have fits : 1 < d.length := by omega
    refine ⟨outContext_of_ready whole, inContext_of_ready whole, still_presentOut .., still_presentIn ..,
      fun pending => ⟨?_, ?_⟩, fun code copy free held shown two => ⟨?_, ?_⟩,
      fun free unheld => ⟨fun c hc => ?_, fun shut => ⟨fun clear => ⟨fun never => ?_,
        fun base standing on idle window => ?_⟩, fun own skip => ?_, fun own used =>
        ⟨fun code refused => ?_, fun passed early => ?_, fun passed due => ?_⟩⟩, fun some_ => ?_,
        fun shut => ⟨fun clear => ?_, fun own skip => ?_, fun own used =>
          ⟨fun code refused => ?_, fun passed => ?_⟩⟩⟩⟩
    · rw [presentOut_of_pending pending, withOwnClear_eq fits]
    · rw [presentIn_of_pending pending, withOwnClear_eq fits]
      rfl
    · rw [presentOut_of_held free held, shown, Option.getD_some, asRefused_eq two]
    · rw [presentIn_of_held free held, shown, Option.getD_some, asRefused_eq two]
    · rw [presentOut_of_open free unheld hc, withOwnClear_eq fits]
    · exact presentOut_of_idle free unheld shut clear (substitution_of_none never)
    · obtain ⟨length, e, state, a, epoch, valid, quarantined, due, silent⟩ := statusContents_fields s l
      exact ⟨s.statusContents l, length, e, state, a, epoch, valid, quarantined, due, silent,
        presentOut_of_substitution free unheld shut clear (substitution_of_idle standing on idle window)⟩
    · exact presentOut_of_skip free unheld shut own skip
    · exact presentOut_refuses whole free unheld shut own used refused
    · exact presentOut_waits whole free unheld shut own used passed early
    · exact presentOut_opens whole free unheld shut own used passed due
    · obtain ⟨c, hc⟩ := Option.isSome_iff_exists.mp some_
      rw [presentIn_of_open free unheld hc, withOwnClear_eq fits]
      rfl
    · exact presentIn_of_clear free unheld shut clear
    · exact presentIn_of_skip free unheld shut own skip
    · exact presentIn_refuses whole free unheld shut own used refused
    · rw [presentIn_of_ready free unheld shut own used ((inboundCheck_eq ..).trans passed),
        openInbound_record]
      rfl
  case area =>
    intro s r area start d alone closing
    have masked : (forceOwnClear area.base start d).length = d.length ∧ ∀ j, j < d.length →
        byteAt (forceOwnClear area.base start d) j =
          if (start + j - area.base) % 16 = 1 then byteAt d j &&& 0x7F#8 else byteAt d j :=
      ⟨forceOwnClear_length .., fun j within => byteAt_forceOwnClear _ _ _ within⟩
    refine ⟨fun free => ?_, fun ring held => ⟨fun shut => ?_, fun same isOpen => ⟨fun part => ?_,
      fun at_ length only => ?_⟩⟩⟩
    · rw [presentRead_of_shut (openRing_of_free free)]
      exact ⟨rfl, masked⟩
    · rw [presentRead_of_shut (openRing_of_shut held shut)]
      exact ⟨rfl, masked⟩
    · rw [presentRead_of_part (openRing_of_open held same isOpen) part]
      exact ⟨rfl, masked⟩
    · exact presentRead_of_slot (openRing_of_open held same isOpen) at_ length only
  case waits =>
    intro s start beats r area accepts quiet low high space places
    exact areaRead_waits accepts quiet low high space places
  case granted =>
    intro s x p r area closing answered port granted isRead one place started going t shown whole
    have step : s.grant = _ := (grant_of_port (onL := true) granted).trans
      (grantPort_of_descriptor (s := { s with arbiter := .l }) port isRead one place whole)
    rw [← step]
    rfl
  case tail =>
    intro s start r ring i bytes accepts quiet held within at_ aligned size places enabled
    have space : start.toNat + bytes.length ≤ 2 ^ 32 := by
      have := start.isLt
      omega
    obtain ⟨u, ⟨runs, answered, still, port⟩, links, rings, internal, mail⟩ := discarded_of_nothing
      (ring := ring) accepts quiet aligned (.inl size) space (by rwa [size]) enabled
      (by rw [at_]; exact completionsOf_of_tail size)
    exact ⟨u, runs, answered, port, still, links, rings, internal, mail⟩
  case completed =>
    intro s start r ring i rest accepts quiet held within at_ aligned l x slot fault written discarded
    refine ⟨fun bytes size space places enabled part => ?_, ?_⟩
    · exact discarded_of_nothing (ring := ring) accepts quiet aligned size space places enabled
        (by rw [at_]; exact completionsOf_of_partial size part)
    intro status control low high size space places bytes total extra final replaced
    refine ⟨fun shut => ?_, fun isOpen free => ⟨fun outbound c hc at_slot => ?_,
      fun inbound c hc at_slot receiving hr => ⟨fun byController code which => ?_,
        fun h plain passes parsed => ?_⟩, fun idle => ⟨fun code copy refused shown => ?_,
        fun copy unheld shown skip => ?_, fun unheld used => ?_⟩⟩⟩
    · exact discarded_of_slot accepts quiet aligned held at_ size space places
        (shut.imp id fun pending t _ => completeSlot_of_pending pending)
    · obtain ⟨u, runs, link, others, statuses, substituted, software⟩ := written_of_out accepts quiet aligned
        held at_ size space places within isOpen free outbound hc at_slot
      refine ⟨u, runs, link, others, statuses, substituted, fun is => ?_⟩
      have slotReplaced := software is
      rw [lost_status, epoch_toNat, lowSequence_getD] at slotReplaced
      exact slotReplaced
    · have ends (t : State) : t.settle ring.link c status (leNat [low, high]) =
          t.endSettlement ring.link c code byController := by
        rcases which with ⟨set, rfl, rfl⟩ | ⟨rfl, rfl, part, verdict, rfl⟩
        · exact settle_of_controller set
        · exact settle_of_code verdict
      obtain ⟨u, runs, link, others, statuses, slotReplaced⟩ := written_of_ended accepts quiet aligned
        held at_ size space places within isOpen free inbound hc at_slot receiving hr ends
      obtain ⟨cls, len, epoch, sequence⟩ := frame_fields c
      rw [cls, len, epoch, sequence] at slotReplaced
      exact ⟨u, runs, link, others, statuses, slotReplaced⟩
    · exact written_of_confirmed accepts quiet aligned held at_ size space places within isOpen free
        inbound hc at_slot receiving plain passes parsed
    · obtain ⟨u, runs, links, statuses, slotReplaced⟩ := written_of_refusal accepts quiet aligned held at_
        size space places within isOpen free idle refused
      refine ⟨u, runs, links, statuses, ?_⟩
      rw [emptyOutcome_len shown] at slotReplaced
      exact slotReplaced
    · obtain ⟨u, runs, links, statuses, slotReplaced⟩ := written_of_skip accepts quiet aligned held at_
        size space places within isOpen free idle unheld shown skip
      refine ⟨u, runs, links, statuses, ?_⟩
      rw [emptyOutcome_len shown] at slotReplaced
      exact slotReplaced
    · exact discarded_of_slot accepts quiet aligned held at_ size space places (.inr fun t links => by
        rw [completeSlot_of_idle free (by rw [State.link, links]; exact idle),
          completeIdle_of_nothing unheld used])

end Sys2Proof.Proofs.DescriptorCases
end
